-- ==== Sys2Proof/Word.lean ====
section
/-! DEFINITION. The word types of the part: the byte of its serial ports and the 32-bit running tick count. -/

namespace Sys2Proof

/-- A byte on a serial port (11, R190). -/
abbrev Byte := BitVec 8

/-- A running tick count: 32 bits, wrapping to 0 (00, Time). -/
abbrev Tick := BitVec 32

end Sys2Proof
end

