-- ==== Sys2Proof/Syntax.lean ====
section
/-! DEFINITION. The commands of the part: one constructor of `Instr` per row of spec/opcode_table.json.
Event commands carry what the event brings; request commands carry the bytes of their payload as
file 11 lays them out, so that every value a field can hold on the link can be written. -/

namespace Sys2Proof

/-- The two microphones (R102). -/
inductive Mic where
  | fireService
  | management
  deriving DecidableEq, Repr

/-- The three samples the receiver takes of one bit cell, at 7/16, 8/16 and 9/16 of it (R1). -/
structure Cell where
  first : Bool
  second : Bool
  third : Bool
  deriving DecidableEq, Repr

/-- The eleven bit cells of a character on a loop line, in the order of 11, Loop Report Characters:
the start cell, the eight data cells least significant first, the mark cell, the stop cell. -/
structure LineChar where
  start : Cell
  data : Vector Cell 8
  mark : Cell
  stop : Cell
  deriving DecidableEq, Repr

/-- A zone list of a request (R192): the count FFh, or the zone numbers that follow a count.
A count outside 1..48 and other than FFh brings no numbers and is `listed []` (log entry 29). -/
inductive ZoneList where
  | all
  | listed (zones : List Byte)
  deriving DecidableEq, Repr

/-- The eight bytes of a map entry (11, Record Payloads). -/
structure RawEntry where
  loop : Byte
  base : Byte
  span : Byte
  zone : Byte
  floor : Byte
  cls : Byte
  rule : Byte
  profile : Byte
  deriving DecidableEq, Repr

/-- The thirteen bytes of a staging profile (11, Record Payloads). -/
structure RawProfile where
  up : Byte
  down : Byte
  margin : Byte
  interval : BitVec 16
  limit : Byte
  ackWindow : BitVec 16
  investigate : BitVec 16
  evacuate : Byte
  alert : Byte
  building : Byte
  deriving DecidableEq, Repr

/-- The six bytes of a zone configuration (11, Record Payloads). -/
structure RawZone where
  kind : Byte
  low : Byte
  high : Byte
  duty : Byte
  load : BitVec 16
  deriving DecidableEq, Repr

/-- The eleven bytes of a segment descriptor (11, Record Payloads). -/
structure RawSegment where
  kind : Byte
  pattern : Byte
  duration : BitVec 16
  start : BitVec 16
  pages : BitVec 16
  retries : Byte
  repeats : Byte
  next : Byte
  deriving DecidableEq, Repr

/-- The commands, one per row of spec/opcode_table.json. Moments are nanoseconds of one clock
outside the part (log entry 5). -/
inductive Instr where
  | powerOnReset
  | loopCharacter (loop : Fin 4) (char : LineChar)
  | silenceTimerExpiry (loop : Fin 4)
  | reportTake (moment : Nat)
  | deadlineExpiry (loop : Fin 4) (address : Byte)
  | investigationTimerExpiry (slot : Fin 32)
  | stepTimerExpiry (slot : Fin 32)
  | repetitionEnd (player : Fin 6)
  | arbiterGrant
  | fetchComplete (samples : Vector Byte 254) (check : Vector Byte 2)
  | pageEnd (player : Fin 6)
  | debouncedFaultChange (amp : Fin 12)
  | switchingLoad
  | visitStart
  | visitEnd (cls1 cls0 : Bool)
  | talkTimerExpiry (mic : Mic)
  | supervisionTimerExpiry
  | transactionStart (moment : Nat)
  | transactionEnd (moment : Nat) (bits : List Bool)
  | identify
  | noticeRead
  | restart
  | loopConfig (loop enable timeout : Byte)
  | loopStatus (loop clear : Byte)
  | mapWrite (index : Byte) (entry : RawEntry)
  | mapPlace (entry : RawEntry)
  | mapRead (index : Byte)
  | mapProbe (loop address : Byte)
  | mapRemove (index : Byte)
  | mapSetWired (count : Byte)
  | mapSetDefault (cls rule deadline : Byte)
  | mapStatus
  | missList
  | missDefault (loop address : Byte)
  | incidentList
  | incidentRead (handle : BitVec 16)
  | incidentAck (handle : BitVec 16)
  | incidentSilence (handle : BitVec 16)
  | incidentResound (handle : BitVec 16)
  | incidentGeneral (handle : BitVec 16)
  | incidentReset (handle : BitVec 16) (force : Byte)
  | saturationClear
  | profileWrite (number : Byte) (profile : RawProfile)
  | profileRead (number : Byte)
  | buildingSet (floors : Byte)
  | zoneWrite (zone : Byte) (config : RawZone)
  | zoneRead (zone : Byte)
  | zoneStatus (zone : Byte)
  | zoneTestStart (program : Byte) (zones : ZoneList)
  | zoneTestStop (zones : ZoneList)
  | micOpen (mic : Byte) (limit : BitVec 16) (zones : ZoneList)
  | micRefresh (mic : Byte)
  | micClose (mic : Byte)
  | micStatus (mic : Byte)
  | ampRestore (amp : Byte)
  | ampStatus
  | playerStatus
  | segmentWrite (index : Byte) (descriptor : RawSegment)
  | segmentRead (index : Byte)
  | programSet (program head : Byte)
  | programRead (program : Byte)
  | storeSet (size : BitVec 24)
  | lineReconnect (line : Byte)
  | lineStatus (line : Byte)
  | loopLineReads1 (loop : Fin 4)
  deriving DecidableEq, Repr

end Sys2Proof
end

