-- ==== Sys2Proof/Decode.lean ====
section
/-! DEFINITION. The word decoder the host asks for. No row of spec/opcode_table.json gives its command any
bits: the words of the command link are frames of bytes, and Machine/Frames.lean decodes those. -/

namespace Sys2Proof

/-- The command a word of the table spells: none, since no row of the table gives bits. -/
def decodeTableWord (_nbits _w : Nat) : Option Instr :=
  none

end Sys2Proof
end

