-- ==== Sys2Proof/Config.lean ====
section
/-! DEFINITION. What the part's manual fixes as numbers. The spec leaves no result of a command undefined, so there is no free value here. -/

namespace Sys2Proof.Config

/-- Part code returned by IDENTIFY (R185). -/
def partCode : BitVec 16 := 0x2480#16

/-- Revision code of the parts the manual describes (R185). -/
def revision : Byte := 1#8

/-- Supervision time in ticks (R178). -/
def supervisionTicks : Nat := 100

/-- The least time LNK_SEL_N stays high between transactions: 20 us, in nanoseconds (R172). -/
def releaseNs : Nat := 20000

/-- The least time between the starts of two takes: 3 ms, in nanoseconds (R10). -/
def takeNs : Nat := 3000000

/-- Ticks in one second: a tick is 100 ms (00, Time). -/
def ticksPerSecond : Nat := 10

/-- Rating of an amplifier in watts (R81). -/
def ampRating : Nat := 480

/-- Samples of a tone that go by in a tick: 100 ms at 8 kHz (R140). -/
def tickSamples : Nat := 800

/-- Samples in a page of the store (R152). -/
def pageSamples : Nat := 254

/-- Longest payload of a request (R175). -/
def maxRequestPayload : Nat := 120

/-- Length of a loop's report buffer (R10). -/
def bufferDepth : Nat := 4

/-- Length of the miss list (R28). -/
def missDepth : Nat := 4

/-- Length of an incident's detector list (R39). -/
def detectorDepth : Nat := 12

/-- Highest step count (R67). -/
def maxStep : Nat := 80

/-- Highest incident handle (R36). -/
def maxHandle : Nat := 8191

end Sys2Proof.Config
end

