-- ==== Sys2Proof/Machine/State.lean ====
section
/-! DEFINITION. The state of the part as plain data, block by block, its reset value, and the reasons a step can stop.
Numbers with a bound in the spec are `Fin` or bit vectors where the bound is the type's own; counts and
timers are `Nat`, bounded by what the commands check and by the saturations of the operations. -/

namespace Sys2Proof.Machine

/-! ### Names shared by the blocks -/

/-- Class of a detecting device (R17). -/
inductive Cls where
  | smoke
  | heat
  | callPoint
  | sprinkler
  deriving DecidableEq, Repr

/-- Confirm rule (R17). -/
inductive Confirm where
  | single
  | coincident
  | delayed
  deriving DecidableEq, Repr

/-- The report kinds that pass through the loop buffers to the cause map (R7). -/
inductive AlarmKind where
  | alarm
  | prealarm
  | clear
  deriving DecidableEq, Repr

/-- The report kinds that go straight to the notice set (R8). -/
inductive TroubleKind where
  | fault
  | removed
  deriving DecidableEq, Repr

/-- Ranks, lowest first (00, Ranks). -/
inductive Rank where
  | none
  | test
  | alert
  | liveMgmt
  | evacuate
  | liveFire
  deriving DecidableEq, Repr

/-- Link mode (R178). -/
inductive Mode where
  | linked
  | autonomous
  deriving DecidableEq, Repr

/-- Result codes of a response (00, Result codes). -/
inductive Result where
  | ok
  | unknown
  | checkFail
  | outOfRange
  | refusedState
  | notFound
  | stale
  | busy
  | overlap
  | conflict
  | stillActive
  | alarmActive
  | overload
  deriving DecidableEq, Repr

/-! ### Loop receivers (01) -/

/-- Loop state (R12). -/
inductive LoopState where
  | disabled
  | awaiting
  | live
  | silent
  deriving DecidableEq, Repr

/-- What the line layer waits for: a fall of the line, or, after a framing error, the line reading 1 (R1). -/
inductive LineLayer where
  | seeking
  | waitingForOne
  deriving DecidableEq, Repr

/-- A report in a loop buffer (R7). -/
structure Report where
  loop : Fin 4
  address : Byte
  kind : AlarmKind
  deriving DecidableEq, Repr

/-- One loop receiver (01, state table). `timer` is `none` when stopped; `partialReport` is empty when
no report is in progress. -/
structure Receiver where
  state : LoopState
  line : LineLayer
  timeout : Nat
  timer : Option Nat
  partialReport : List Byte
  buffer : List Report
  framing : Nat
  noise : Nat
  check : Nat
  protocol : Nat
  overrun : Nat
  lastCycle : Nat
  deriving DecidableEq, Repr

/-! ### Cause map (02) -/

/-- A map entry (R17); `selector` is `none` for ANY. -/
structure MapEntry where
  valid : Bool
  selector : Option (Fin 4)
  base : Nat
  span : Nat
  zone : Nat
  floor : Nat
  cls : Cls
  rule : Confirm
  profile : Fin 16
  deriving DecidableEq, Repr

/-- A binding (02): detection zone, floor (`none` is UNKNOWN), class, confirm rule, profile. -/
structure Binding where
  zone : Nat
  floor : Option Nat
  cls : Cls
  rule : Confirm
  profile : Fin 16
  deriving DecidableEq, Repr

/-- A miss list entry (02, The Miss List). -/
structure Miss where
  loop : Fin 4
  address : Byte
  first : AlarmKind
  last : AlarmKind
  deadline : Nat
  deriving DecidableEq, Repr

/-- The cause map (02, state table). `lastTake` is the moment the latest take began (R10, log entry 24). -/
structure CauseMap where
  entries : Vector MapEntry 96
  wired : Fin 96
  cursor : Fin 96
  defaultCls : Cls
  defaultRule : Confirm
  deadline : Nat
  misses : List Miss
  lastLoop : Fin 4
  lastTake : Option Nat
  deriving DecidableEq, Repr

/-! ### Incident engine (03, 04) -/

/-- Phase of an investigation (R63, R64). -/
inductive Phase where
  | ackWindow
  | investigate
  deriving DecidableEq, Repr

/-- The stage of an incident with the optional stage fields R58 gives that stage: timer remaining,
investigation phase, and, in the two forms of SILENCED, silenced-from. -/
inductive Stage where
  | watch
  | confirming
  | investigating (phase : Phase) (timer : Nat)
  | phased (timer : Option Nat)
  | general
  | silencedPhased (timer : Option Nat)
  | silencedGeneral
  deriving DecidableEq, Repr

/-- The state names of an incident record (R58), as INCIDENT_READ and the stage commands return them. -/
inductive StageName where
  | watch
  | confirming
  | investigating
  | phased
  | general
  | silenced
  deriving DecidableEq, Repr

/-- A detector list entry (03, The Incident Record). -/
structure Detector where
  loop : Fin 4
  address : Byte
  last : AlarmKind
  firstSeen : Tick
  deriving DecidableEq, Repr

/-- An incident record (03, The Incident Record). The handle is the slot's (R36); all-clear is derived (R46). -/
structure Incident where
  zone : Nat
  floor : Option Nat
  cls : Cls
  rule : Confirm
  profile : Fin 16
  stage : Stage
  step : Nat
  acknowledged : Bool
  detectors : List Detector
  unlisted : Nat
  openedAt : Tick
  changedAt : Tick
  deriving DecidableEq, Repr

/-- A slot of the incident table: its generation and its record, `none` when FREE (R36). -/
structure Slot where
  generation : BitVec 8
  incident : Option Incident
  deriving DecidableEq, Repr

/-- A staging profile (R55). -/
structure Profile where
  up : Nat
  down : Nat
  margin : Nat
  interval : Nat
  limit : Nat
  ackWindow : Nat
  investigate : Nat
  evacuate : Fin 16
  alert : Fin 16
  building : Bool
  deriving DecidableEq, Repr

/-- The incident engine (03, state table). -/
structure Engine where
  slots : Vector Slot 32
  ages : List (Fin 32)
  saturated : Bool
  changed : List (Fin 32)
  profiles : Vector Profile 16
  floors : Nat
  deriving DecidableEq, Repr

/-! ### Zone resolver (05, 06) -/

/-- Kind of a speaker zone (R79). -/
inductive ZoneKind where
  | unused
  | floor
  | stair
  | liftLobby
  | carPark
  deriving DecidableEq, Repr

/-- A zone configuration (R79). -/
structure ZoneConfig where
  kind : ZoneKind
  low : Nat
  high : Nat
  duty : Fin 10
  load : Nat
  deriving DecidableEq, Repr

/-- Resolved source of a zone (R92). -/
inductive Source where
  | none
  | incident
  | saturation
  | fireService
  | management
  | test
  deriving DecidableEq, Repr

/-- A zone's runtime record (R95). -/
structure ZoneRecord where
  rank : Rank
  source : Source
  program : Option (Fin 16)
  governing : Option Nat
  deriving DecidableEq, Repr

/-- The zone resolver (05, state table). -/
structure Resolver where
  configs : Vector ZoneConfig 48
  records : Vector ZoneRecord 48
  tests : Vector (Option (Fin 16)) 48
  deriving DecidableEq, Repr

/-! ### Microphone sessions (06) -/

/-- An open session (R102); the zone set is held in ascending order without repeats. -/
structure Session where
  zones : List (Fin 48)
  limit : Nat
  timer : Nat
  openedAt : Tick
  deriving DecidableEq, Repr

/-- The two session slots, `none` when closed (R102). -/
structure Sessions where
  fireService : Option Session
  management : Option Session
  deriving DecidableEq, Repr

/-! ### Amplifier switching unit (07) -/

/-- The rank of a program feed. -/
inductive ProgramRank where
  | test
  | alert
  | evacuate
  deriving DecidableEq, Repr

/-- A feed (07, Servers and Feeds in Brief). `key` is the age key, a handle or none (R117). -/
inductive Feed where
  | none
  | mic (mic : Mic)
  | program (rank : ProgramRank) (program : Fin 16) (key : Option Nat)
  deriving DecidableEq, Repr

/-- State of an amplifier (R123): NORMAL and RECOVERED are a duty amplifier's, IDLE and STANDING_IN a standby's. -/
inductive AmpState where
  | normal
  | failed
  | recovered
  | idle
  | standingIn (duty : Fin 10)
  deriving DecidableEq, Repr

/-- An amplifier record (R123). `server` is a duty amplifier's; a standby holds none there. -/
structure Amp where
  state : AmpState
  fault : Bool
  run : Nat
  failedAt : Option Tick
  server : Option (Fin 12)
  feed : Feed
  pending : Option Feed
  deriving DecidableEq, Repr

/-- Connection state of a zone (R114). -/
inductive Connection where
  | disconnected
  | connected
  | isolated
  | unserved
  deriving DecidableEq, Repr

/-- An amplifier's source in the switching image (R122). -/
inductive AudioSource where
  | none
  | player (player : Fin 6)
  | mic (mic : Mic)
  | alertTone
  | evacuateTone
  deriving DecidableEq, Repr

/-- The switching image (R122): line select, the twelve sources, and each zone's relay, `none` when open. -/
structure Image where
  lineSelect : Option (Fin 48)
  sources : Vector AudioSource 12
  relays : Vector (Option (Fin 12)) 48
  deriving DecidableEq, Repr

/-- A demanded program (R133). -/
structure Demand where
  program : Fin 16
  rank : ProgramRank
  key : Option Nat
  deriving DecidableEq, Repr

/-! ### Segments, programs, players, store port (08) -/

/-- Tone patterns (R141). -/
inductive Pattern where
  | alertPattern
  | evacuatePattern
  | chime
  | testTone
  deriving DecidableEq, Repr

/-- What follows a segment (R140). -/
inductive Next where
  | segment (index : Fin 128)
  | finish
  | restart
  deriving DecidableEq, Repr

/-- A segment descriptor with the fields its kind has (R140). -/
inductive Segment where
  | unused
  | tone (pattern : Pattern) (duration repeats : Nat) (next : Next)
  | clip (start pages retries repeats : Nat) (next : Next)
  | gap (duration repeats : Nat) (next : Next)
  deriving DecidableEq, Repr

/-- A program entry; `head` is `none` for EMPTY (R144). -/
structure Program where
  head : Option (Fin 128)
  broken : Bool
  deriving DecidableEq, Repr

/-- What a player's sample stream carries (R146). -/
inductive Output where
  | segment
  | startWait
  | underrun
  | fallback
  | endHold
  deriving DecidableEq, Repr

/-- The walk fields that a CLIP alone has (R146): retries left and page position. `abandoned` says that
the rest of the repetition is given up and the page playing is its last (R157). -/
structure ClipWalk where
  retries : Nat
  position : Nat
  abandoned : Bool
  deriving DecidableEq, Repr

/-- A player's tone generator at work (R141): the pattern it makes, and how many samples of it have gone by since its
beginning, counted at each tick (log entry 26). -/
structure Generator where
  pattern : Pattern
  place : Nat
  deriving DecidableEq, Repr

/-- A walk context (R146), with the pool state of a player that holds a program (`releasing`, R136), the
tick at which it took it (R138), the player's tone generator, `none` while it makes no tone (R141), and the length in
samples of a fallback being played (R157). -/
structure Walk where
  program : Fin 16
  releasing : Bool
  takenAt : Tick
  current : Option (Fin 128)
  left : Nat
  clip : Option ClipWalk
  output : Output
  passes : Nat
  generator : Option Generator
  toneSamples : Nat
  deriving DecidableEq, Repr

/-- A player: its walk (`none` when IDLE), the counts it keeps from program to program (R146), and its two
page buffers, the page playing and the page waiting to be played (R154). -/
structure Player where
  walk : Option Walk
  failed : Nat
  underruns : Nat
  playing : Option (Vector Byte 254)
  ready : Option (Vector Byte 254)
  deriving DecidableEq, Repr

/-- A fetch in flight (R155): the player granted, the page, and whether its page is still awaited by the
segment entry that asked for it (R156). -/
structure Fetch where
  player : Fin 6
  page : Nat
  wanted : Bool
  deriving DecidableEq, Repr

/-- The store port (08, state table); `requests` holds the page each player waits for at the arbiter. -/
structure Store where
  size : Nat
  requests : Vector (Option Nat) 6
  fetch : Option Fetch
  lastServed : Fin 6
  deriving DecidableEq, Repr

/-- The audio side: amplifier switching unit, player pool, segment pool, program directory, players and
store port. `failOrder` lists the duty amplifiers by their latest entry to FAILED, oldest first (R129). -/
structure Audio where
  amps : Vector Amp 12
  failOrder : List (Fin 10)
  unserved : List (Fin 10)
  connections : Vector Connection 48
  carried : Vector Bool 48
  image : Image
  shifting : Option Image
  refreshDue : Bool
  loaded : Option Image
  players : Vector Player 6
  demand : List Demand
  segments : Vector Segment 128
  programs : Vector Program 16
  store : Store
  deriving DecidableEq, Repr

/-! ### Line scanner (09) -/

/-- Class of a line reading (R162). -/
inductive LineClass where
  | normal
  | opened
  | short
  | earth
  deriving DecidableEq, Repr

/-- Line state (R160). -/
inductive LineState where
  | notScanned
  | normal
  | opened
  | earth
  | short
  | isolated
  | lockedOut
  deriving DecidableEq, Repr

/-- A line record (R160). -/
structure Line where
  state : LineState
  reading : Option LineClass
  run : Nat
  allowance : Nat
  deriving DecidableEq, Repr

/-- The visit in progress (R161); `discard` says that its zone was written UNUSED since it began (R170). -/
structure Visit where
  line : Fin 48
  discard : Bool
  deriving DecidableEq, Repr

/-- The line scanner (09, state table). -/
structure Scanner where
  lines : Vector Line 48
  last : Fin 48
  visit : Option Visit
  deriving DecidableEq, Repr

/-! ### Command link and notice set (10) -/

/-- A response frame before its sync byte and CRC (R177). -/
structure Response where
  code : Byte
  result : Result
  payload : List Byte
  deriving DecidableEq, Repr

/-- A transaction in progress: whether it is served, and the bytes of the response it shifts out (R172, R173). -/
structure Transaction where
  served : Bool
  out : List Byte
  deriving DecidableEq, Repr

/-- The command link (10, state table); `supervision` is `none` when stopped, `lastRelease` a moment in nanoseconds. -/
structure Link where
  response : Option Response
  mode : Mode
  supervision : Option Nat
  lastRelease : Option Nat
  transaction : Option Transaction
  deriving DecidableEq, Repr

/-- The detail of DEVICE_FAULT (R8). -/
structure DeviceFault where
  loop : Fin 4
  address : Byte
  kind : TroubleKind
  count : Nat
  deriving DecidableEq, Repr

/-- The notice set (R181). A set detail is pending while it has members; every raising adds one. Sets are in
ascending order without repeats. INCIDENT_CHANGED is pending while the engine's changed set has members. -/
structure Notices where
  bindingMiss : Bool
  deviceFault : Option DeviceFault
  loopFault : List (Fin 4)
  lineFault : List (Fin 48)
  ampFault : List (Fin 12)
  programBroken : List (Fin 16)
  testDone : List (Fin 16)
  micTimeoutFire : Bool
  micTimeoutManagement : Bool
  saturation : Bool
  linkRestored : Bool
  deriving DecidableEq, Repr

/-- The levels on the input pins the part samples at a tick: AMPFn_N low, and LMON_CLS1, LMON_CLS0 (00). -/
structure Pins where
  ampFaultLow : Vector Bool 12
  cls1 : Bool
  cls0 : Bool
  deriving DecidableEq, Repr

/-! ### The whole part -/

/-- The state of the part: its blocks, the running tick count, the input pins, and the queue of commands. -/
structure State where
  now : Tick
  loops : Vector Receiver 4
  map : CauseMap
  engine : Engine
  resolver : Resolver
  sessions : Sessions
  audio : Audio
  scanner : Scanner
  link : Link
  notices : Notices
  pins : Pins
  pending : List Instr
  deriving DecidableEq, Repr

/-- A reason to stop with a fault. The spec names no condition that stops the part, so there is none (log entry 28). -/
inductive Fault where
  deriving DecidableEq, Repr

/-- A reason to refuse a command. -/
inductive Refusal where
  /-- Raised by `exec` for a row whose meaning is not written; safe. No arm raises it now. -/
  | notModelled (mnemonic : String)
  deriving DecidableEq, Repr

/-! ### Reset values -/

/-- A receiver after power-on (R16). -/
def Receiver.reset : Receiver :=
  { state := .awaiting, line := .seeking, timeout := 30, timer := some 30, partialReport := [], buffer := [],
    framing := 0, noise := 0, check := 0, protocol := 0, overrun := 0, lastCycle := 0 }

/-- A map entry after power-on (R17). -/
def MapEntry.reset : MapEntry :=
  { valid := false, selector := some 0, base := 1, span := 1, zone := 1, floor := 0, cls := .smoke,
    rule := .single, profile := 0 }

/-- The cause map after power-on (R35). -/
def CauseMap.reset : CauseMap :=
  { entries := Vector.replicate 96 MapEntry.reset, wired := 0, cursor := 95, defaultCls := .smoke,
    defaultRule := .single, deadline := 20, misses := [], lastLoop := 3, lastTake := none }

/-- A staging profile after power-on (R55). -/
def Profile.reset : Profile :=
  { up := 1, down := 0, margin := 2, interval := 1200, limit := 0, ackWindow := 300, investigate := 1800,
    evacuate := 0, alert := 1, building := false }

/-- The incident engine after power-on (R57). -/
def Engine.reset : Engine :=
  { slots := Vector.replicate 32 { generation := 0, incident := none }, ages := [], saturated := false,
    changed := [], profiles := Vector.replicate 16 Profile.reset, floors := 80 }

/-- A zone configuration after power-on (R79). -/
def ZoneConfig.reset : ZoneConfig :=
  { kind := .unused, low := 0, high := 0, duty := 0, load := 1 }

/-- The runtime record of a zone that carries nothing (R92, R95). -/
def ZoneRecord.empty : ZoneRecord :=
  { rank := .none, source := .none, program := none, governing := none }

/-- The zone resolver after power-on (R79, R95, R113). -/
def Resolver.reset : Resolver :=
  { configs := Vector.replicate 48 ZoneConfig.reset, records := Vector.replicate 48 ZoneRecord.empty,
    tests := Vector.replicate 48 none }

/-- An amplifier after power-on (R139): 0 to 9 NORMAL serving themselves, 10 and 11 IDLE. -/
def Amp.reset (a : Fin 12) : Amp :=
  { state := if a.val < 10 then .normal else .idle, fault := false, run := 0, failedAt := none,
    server := if a.val < 10 then some a else none, feed := .none, pending := none }

/-- The switching image after power-on (R122, R139). -/
def Image.reset : Image :=
  { lineSelect := none, sources := Vector.replicate 12 .none, relays := Vector.replicate 48 none }

/-- A player after power-on (R159). -/
def Player.reset : Player :=
  { walk := none, failed := 0, underruns := 0, playing := none, ready := none }

/-- The audio side after power-on (R139, R159). Its first refresh is being shifted out (R139). -/
def Audio.reset : Audio :=
  { amps := Vector.ofFn Amp.reset, failOrder := [], unserved := [],
    connections := Vector.replicate 48 .disconnected, carried := Vector.replicate 48 false,
    image := Image.reset, shifting := some Image.reset, refreshDue := false, loaded := none,
    players := Vector.replicate 6 Player.reset, demand := [], segments := Vector.replicate 128 .unused,
    programs := Vector.replicate 16 { head := none, broken := false },
    store := { size := 65536, requests := Vector.replicate 6 none, fetch := none, lastServed := 5 } }

/-- The line scanner after power-on (R171). -/
def Scanner.reset : Scanner :=
  { lines := Vector.replicate 48 { state := .notScanned, reading := none, run := 0, allowance := 3 },
    last := 47, visit := none }

/-- The command link after power-on (R188). -/
def Link.reset : Link :=
  { response := none, mode := .linked, supervision := some Config.supervisionTicks, lastRelease := none,
    transaction := none }

/-- The empty notice set (R183, R188). -/
def Notices.empty : Notices :=
  { bindingMiss := false, deviceFault := none, loopFault := [], lineFault := [], ampFault := [],
    programBroken := [], testDone := [], micTimeoutFire := false, micTimeoutManagement := false,
    saturation := false, linkRestored := false }

/-- The input pins before anything drives them: every fault line released, the monitor at low, low
(DESIGN CHOICE, log entry 20). -/
def Pins.reset : Pins :=
  { ampFaultLow := Vector.replicate 12 false, cls1 := false, cls0 := false }

/-- The part right after power-on reset (R16, R35, R57, R79, R95, R113, R139, R159, R171, R188). -/
def State.reset : State :=
  { now := 0, loops := Vector.replicate 4 Receiver.reset, map := CauseMap.reset, engine := Engine.reset,
    resolver := Resolver.reset, sessions := { fireService := none, management := none },
    audio := Audio.reset, scanner := Scanner.reset, link := Link.reset, notices := Notices.empty,
    pins := Pins.reset, pending := [] }

end Sys2Proof.Machine
end

