-- ==== Sys2Proof/Machine/Ops.lean ====
section
/-! DEFINITION. Operations every block shares: counts, sets, cyclic turns, bytes, the CRC, and the updates of State. -/

namespace Sys2Proof.Machine

/-! ### Counts, sets and turns -/

/-- One more, staying at `cap` (00, Numbers and ranges). -/
def satSucc (cap n : Nat) : Nat :=
  min cap (n + 1)

/-- Adds a member to a set held in ascending order without repeats. -/
def addMember {n : Nat} (x : Fin n) : List (Fin n) → List (Fin n)
  | [] => [x]
  | y :: ys => if x < y then x :: y :: ys else if x = y then y :: ys else y :: addMember x ys

/-- The set of the members of a list. -/
def toSet {n : Nat} (l : List (Fin n)) : List (Fin n) :=
  l.foldl (fun acc x => addMember x acc) []

/-- Puts `x` before the first element it should precede, after every element it ties with. -/
def insertBy {α : Type} (before : α → α → Bool) (x : α) : List α → List α
  | [] => [x]
  | y :: ys => if before x y then x :: y :: ys else y :: insertBy before x ys

/-- Sorts a list by `before`, keeping the order of ties. -/
def sortBy {α : Type} (before : α → α → Bool) (l : List α) : List α :=
  l.foldl (fun acc x => insertBy before x acc) []

/-- A number read as an index below `n`, if it is one. -/
def index? (n i : Nat) : Option (Fin n) :=
  if h : i < n then some ⟨i, h⟩ else none

/-- The first index after `last` that satisfies `p`, counting upward in cyclic order, `last` itself the last tried
(R10, R155, R161). -/
def firstAfter {n : Nat} (last : Fin n) (p : Fin n → Bool) : Option (Fin n) :=
  ((List.finRange n).filter (fun i => last < i) ++ (List.finRange n).filter (fun i => i ≤ last)).find? p

/-- A duty amplifier's number among the twelve. -/
def dutyAmp (k : Fin 10) : Fin 12 :=
  ⟨k.val, by omega⟩

/-- The two standby amplifiers, lowest first (R126). -/
def standbys : List (Fin 12) :=
  [10, 11]

/-- The other standby amplifier. -/
def otherStandby (a : Fin 12) : Fin 12 :=
  if a = 10 then 11 else 10

/-! ### Ranks -/

/-- The value of a rank (00, Ranks; also its code, R190). -/
def Rank.value : Rank → Nat
  | .none => 0
  | .test => 1
  | .alert => 2
  | .liveMgmt => 3
  | .evacuate => 4
  | .liveFire => 5

/-- The rank of a program feed. -/
def ProgramRank.rank : ProgramRank → Rank
  | .test => .test
  | .alert => .alert
  | .evacuate => .evacuate

/-- The rank of a feed (07, Servers and Feeds in Brief). -/
def Feed.rank : Feed → Rank
  | .none => .none
  | .mic .fireService => .liveFire
  | .mic .management => .liveMgmt
  | .program r _ _ => r.rank

/-- Two feeds are the same when their kind, rank and program agree (R117). -/
def Feed.same : Feed → Feed → Bool
  | .none, .none => true
  | .mic m, .mic m' => m = m'
  | .program r p _, .program r' p' _ => r = r' ∧ p = p'
  | _, _ => false

/-! ### Bytes and the CRC -/

/-- A number as one byte. -/
def byte (n : Nat) : Byte :=
  BitVec.ofNat 8 n

/-- A number as two bytes, most significant first (R190). -/
def bytes2 (n : Nat) : List Byte :=
  [byte (n / 256), byte n]

/-- A tick count as four bytes, most significant first (R190). -/
def bytes4 (t : Tick) : List Byte :=
  [byte (t.toNat / 16777216), byte (t.toNat / 65536), byte (t.toNat / 256), byte t.toNat]

/-- Two bytes as a number, most significant first (R190). -/
def word2 (high low : Byte) : BitVec 16 :=
  high ++ low

/-- Three bytes as a number, most significant first (R190). -/
def word3 (high mid low : Byte) : BitVec 24 :=
  high ++ mid ++ low

/-- A yes or no byte (R190). -/
def flagByte (b : Bool) : Byte :=
  if b then 1 else 0

/-- One shift of the CRC register (R189). -/
def crcShift (r : BitVec 16) : BitVec 16 :=
  if r.msb then (r <<< 1) ^^^ 0x1021#16 else r <<< 1

/-- `n` shifts of the CRC register. -/
def crcShifts : Nat → BitVec 16 → BitVec 16
  | 0, r => r
  | n + 1, r => crcShifts n (crcShift r)

/-- The CRC register after one byte (R189): the byte added into its upper eight bits, then eight shifts. -/
def crcByte (r : BitVec 16) (b : Byte) : BitVec 16 :=
  crcShifts 8 (r ^^^ (b ++ 0#8))

/-- The CRC of a list of bytes, from FFFFh (R189). -/
def crc (bs : List Byte) : BitVec 16 :=
  bs.foldl crcByte 0xFFFF#16

/-- The CRC's two bytes as they travel, high first (R189). -/
def crcBytes (bs : List Byte) : List Byte :=
  bytes2 (crc bs).toNat

/-! ### Updates of State -/

/-- The state with its `now` replaced. -/
def State.setNow (s : State) (x : Tick) : State := { s with now := x }

/-- The state with its `loops` replaced. -/
def State.setLoops (s : State) (x : Vector Receiver 4) : State := { s with loops := x }

/-- The state with its `map` replaced. -/
def State.setMap (s : State) (x : CauseMap) : State := { s with map := x }

/-- The state with its `engine` replaced. -/
def State.setEngine (s : State) (x : Engine) : State := { s with engine := x }

/-- The state with its `resolver` replaced. -/
def State.setResolver (s : State) (x : Resolver) : State := { s with resolver := x }

/-- The state with its `sessions` replaced. -/
def State.setSessions (s : State) (x : Sessions) : State := { s with sessions := x }

/-- The state with its `audio` replaced. -/
def State.setAudio (s : State) (x : Audio) : State := { s with audio := x }

/-- The state with its `scanner` replaced. -/
def State.setScanner (s : State) (x : Scanner) : State := { s with scanner := x }

/-- The state with its `link` replaced. -/
def State.setLink (s : State) (x : Link) : State := { s with link := x }

/-- The state with its `notices` replaced. -/
def State.setNotices (s : State) (x : Notices) : State := { s with notices := x }

/-- The state with its `pins` replaced. -/
def State.setPins (s : State) (x : Pins) : State := { s with pins := x }

/-- The state with its `pending` replaced. -/
def State.setPending (s : State) (x : List Instr) : State := { s with pending := x }

end Sys2Proof.Machine
end

