-- ==== Sys2Proof/Machine/Flags.lean ====
section
/-! DEFINITION. The notice set: how each kind is raised (R181), what is pending, and the level of NOTICE_N (R182). -/

namespace Sys2Proof.Machine

/-- Raises BINDING_MISS (R28, R30). -/
def Notices.raiseBindingMiss (n : Notices) : Notices :=
  { n with bindingMiss := true }

/-- Raises DEVICE_FAULT: the latest device is replaced and the count rises, saturating at 255 (R8). -/
def Notices.raiseDeviceFault (n : Notices) (loop : Fin 4) (address : Byte) (kind : TroubleKind) : Notices :=
  let count := match n.deviceFault with
    | some d => satSucc 255 d.count
    | none => 1
  { n with deviceFault := some { loop := loop, address := address, kind := kind, count := count } }

/-- Raises LOOP_FAULT for a loop (R12, R13). -/
def Notices.raiseLoopFault (n : Notices) (loop : Fin 4) : Notices :=
  { n with loopFault := addMember loop n.loopFault }

/-- Raises LINE_FAULT for a line (R169). -/
def Notices.raiseLineFault (n : Notices) (line : Fin 48) : Notices :=
  { n with lineFault := addMember line n.lineFault }

/-- Raises AMP_FAULT for the amplifiers listed (R126 to R130). -/
def Notices.raiseAmpFault (n : Notices) (amps : List (Fin 12)) : Notices :=
  { n with ampFault := amps.foldl (fun acc a => addMember a acc) n.ampFault }

/-- Raises PROGRAM_BROKEN for a program (R151). -/
def Notices.raiseProgramBroken (n : Notices) (program : Fin 16) : Notices :=
  { n with programBroken := addMember program n.programBroken }

/-- Raises TEST_DONE for a program (R112). -/
def Notices.raiseTestDone (n : Notices) (program : Fin 16) : Notices :=
  { n with testDone := addMember program n.testDone }

/-- Raises MIC_TIMEOUT for a microphone (R104). -/
def Notices.raiseMicTimeout (n : Notices) : Mic → Notices
  | .fireService => { n with micTimeoutFire := true }
  | .management => { n with micTimeoutManagement := true }

/-- Raises SATURATION (R47). -/
def Notices.raiseSaturation (n : Notices) : Notices :=
  { n with saturation := true }

/-- Raises LINK_RESTORED (R180). -/
def Notices.raiseLinkRestored (n : Notices) : Notices :=
  { n with linkRestored := true }

/-- Which of the eleven kinds are pending, in the order of the notice kind table (10, The Notice Set). -/
def State.pendingKinds (s : State) : List Bool :=
  let n := s.notices
  [ !s.engine.changed.isEmpty, n.bindingMiss, n.deviceFault.isSome, !n.loopFault.isEmpty, !n.lineFault.isEmpty,
    !n.ampFault.isEmpty, !n.programBroken.isEmpty, !n.testDone.isEmpty,
    n.micTimeoutFire || n.micTimeoutManagement, n.saturation, n.linkRestored ]

/-- At least one notice is pending. -/
def State.noticePending (s : State) : Bool :=
  s.pendingKinds.any id

/-- The level of NOTICE_N, `true` for high: low while at least one notice is pending (R182). -/
def State.noticeN (s : State) : Bool :=
  !s.noticePending

/-- The notice set emptied, with the changed-incident set (R183, R187). -/
def State.emptyNotices (s : State) : State :=
  (s.setNotices Notices.empty).setEngine { s.engine with changed := [] }

end Sys2Proof.Machine
end

