-- ==== Sys2Proof/Machine/Switching.lean ====
section
/-! DEFINITION. The amplifier switching unit (07): feeds and their delivery, the choice of a server's target, zone connection,
group moves, failover and return, and the switching image. It works on a `Desk`, the audio side with the notice set,
and reads the other blocks through a `View`. -/

namespace Sys2Proof.Machine

/-- What the audio side reads of the other blocks: the zone table, the runtime records, the line records, the
handles of the live incidents oldest first, and the running tick count. -/
structure View where
  configs : Vector ZoneConfig 48
  records : Vector ZoneRecord 48
  lines : Vector Line 48
  ages : List Nat
  now : Tick

/-- The audio side together with the notice set it raises notices in. -/
structure Desk where
  audio : Audio
  notices : Notices

/-- The desk with its audio side changed. -/
def Desk.mapAudio (d : Desk) (f : Audio → Audio) : Desk :=
  { d with audio := f d.audio }

/-- The desk with AMP_FAULT raised for the amplifiers listed (R132). -/
def Desk.ampFault (d : Desk) (amps : List (Fin 12)) : Desk :=
  { d with notices := d.notices.raiseAmpFault amps }

/-- The audio side with one amplifier record replaced. -/
def Audio.setAmp (a : Audio) (i : Fin 12) (x : Amp) : Audio :=
  { a with amps := a.amps.set i x }

/-! ### Delivery (R137) -/

/-- The program a feed names, if it is a program feed. -/
def Feed.program? : Feed → Option (Fin 16)
  | .program _ p _ => .some p
  | _ => .none

/-- The player that holds a program (R134). -/
def Audio.playerOf (a : Audio) (p : Fin 16) : Option (Fin 6) :=
  (List.finRange 6).find? fun k =>
    match a.players[k].walk with
    | some w => w.program = p
    | none => false

/-- The player that delivers a feed, if one does (R137). -/
def Audio.delivererOf (a : Audio) (f : Feed) : Option (Fin 6) :=
  f.program?.bind a.playerOf

/-- The source the switching image names for a feed (R137). -/
def Audio.sourceOf (a : Audio) : Feed → AudioSource
  | .none => .none
  | .mic m => .mic m
  | .program r p _ =>
    match a.playerOf p, r with
    | some k, _ => .player k
    | none, .alert => .alertTone
    | none, .evacuate => .evacuateTone
    | none, .test => .none

/-- A player serves a TEST feed when it delivers the current feed of a server at rank TEST (R137). -/
def Audio.servesTest (a : Audio) (k : Fin 6) : Bool :=
  (List.finRange 12).any fun i => a.amps[i].feed.rank = .test && a.delivererOf a.amps[i].feed = some k

/-- A player delivers the current feed of at least one server that holds a pending target (R136). -/
def Audio.awaited (a : Audio) (k : Fin 6) : Bool :=
  (List.finRange 12).any fun i => a.amps[i].pending.isSome && a.delivererOf a.amps[i].feed = some k

/-! ### Groups and servers -/

/-- The amplifier serving a zone group (R123). -/
def Audio.serverOf (a : Audio) (g : Fin 10) : Option (Fin 12) :=
  a.amps[dutyAmp g].server

/-- The group an amplifier serves, if it serves one (R123). -/
def Audio.groupOf (a : Audio) (i : Fin 12) : Option (Fin 10) :=
  (List.finRange 10).find? fun g => a.serverOf g = some i

/-- A line state that leaves its zone eligible to connect (R114, R160). -/
def LineState.eligible : LineState → Bool
  | .short | .isolated | .lockedOut => false
  | .notScanned | .normal | .opened | .earth => true

/-! ### The choice of a target (R117) -/

/-- The candidate zones of a group (R117). -/
def View.candidates (v : View) (g : Fin 10) : List (Fin 48) :=
  (List.finRange 48).filter fun z =>
    v.configs[z].duty = g && v.configs[z].kind ≠ .unused && v.records[z].rank ≠ .none &&
      v.lines[z].state.eligible

/-- The higher of two ranks. -/
def Rank.max (r r' : Rank) : Rank :=
  if r.value < r'.value then r' else r

/-- The highest resolved rank among zones, NONE when there are none. -/
def View.topRank (v : View) (zones : List (Fin 48)) : Rank :=
  zones.foldl (fun r z => r.max v.records[z].rank) .none

/-- The program feed at one rank: the program of the oldest governing incident among the zones of that rank, with that
incident as age key; a program resolved only from the saturation source comes after, with no key (R117). -/
def View.programTarget (v : View) (r : ProgramRank) (zones : List (Fin 48)) : Feed :=
  let top := zones.filter fun z => v.records[z].rank = r.rank
  let keyed := v.ages.findSome? fun h =>
    (top.find? fun z => v.records[z].governing = some h).bind fun z => v.records[z].program.map fun p => (h, p)
  match keyed, top.findSome? fun z => v.records[z].program with
  | some (h, p), _ => .program r p (some h)
  | none, some p => .program r p none
  | none, none => .none

/-- The test feed: the lowest-numbered program among the zones of rank TEST (R117). -/
def View.testTarget (v : View) (zones : List (Fin 48)) : Feed :=
  let lowest := (List.finRange 16).find? fun p =>
    zones.any fun z => v.records[z].rank = .test && v.records[z].program = some p
  match lowest with
  | some p => .program .test p none
  | none => .none

/-- The feed a group's server should carry (R117). -/
def View.target (v : View) (g : Fin 10) : Feed :=
  let zones := v.candidates g
  match v.topRank zones with
  | .none => .none
  | .liveFire => .mic .fireService
  | .liveMgmt => .mic .management
  | .evacuate => v.programTarget .evacuate zones
  | .alert => v.programTarget .alert zones
  | .test => v.testTarget zones

/-! ### Switching (R119) -/

/-- A switch: the current feed becomes the target and the pending target is cleared (R119). -/
def Audio.switchTo (a : Audio) (i : Fin 12) (t : Feed) : Audio :=
  a.setAmp i { a.amps[i] with feed := t, pending := none }

/-- A newly chosen target compared with a server's current feed: the four lines of R119. -/
def Audio.applyTarget (a : Audio) (i : Fin 12) (t : Feed) : Audio :=
  let c := a.amps[i].feed
  if t.same c then a.switchTo i t
  else if c.rank.value < t.rank.value then a.switchTo i t
  else if (a.delivererOf c).isSome then a.setAmp i { a.amps[i] with pending := some t }
  else a.switchTo i t

/-- A group's target is chosen again and applied to its server; a group without a server has none (R117, R118). -/
def Audio.retarget (v : View) (g : Fin 10) (a : Audio) : Audio :=
  match a.serverOf g with
  | some i => a.applyTarget i (v.target g)
  | none => a

/-! ### Zone connection (R114, R116) -/

/-- The server of a zone's group holds a pending target. -/
def Audio.groupPending (a : Audio) (g : Fin 10) : Bool :=
  match a.serverOf g with
  | some i => a.amps[i].pending.isSome
  | none => false

/-- A zone's connection state decided afresh, by the first line of the table of R114 that applies. -/
def Audio.decide (v : View) (a : Audio) (z : Fin 48) : Connection :=
  let g := v.configs[z].duty
  if v.configs[z].kind = .unused then .disconnected
  else if !v.lines[z].state.eligible then
    if v.records[z].rank = .none then .disconnected else .isolated
  else if v.records[z].rank = .none then
    if a.connections[z] = .connected && a.groupPending g then .connected else .disconnected
  else if (a.serverOf g).isNone then .unserved
  else .connected

/-- A zone's carried flag with its connection state given (R116). -/
def Audio.carriedFlag (v : View) (a : Audio) (z : Fin 48) (c : Connection) : Bool :=
  match c, a.serverOf v.configs[z].duty with
  | .connected, some i =>
    let f := a.amps[i].feed
    let r := v.records[z]
    r.rank.value < f.rank.value || (r.rank = f.rank && f.program? ≠ r.program)
  | _, _ => false

/-- Every zone's connection state and carried flag decided again (R114, R116; log entry 10). -/
def Audio.decideAll (v : View) (a : Audio) : Audio :=
  { a with
    connections := Vector.ofFn fun z => a.decide v z
    carried := Vector.ofFn fun z => a.carriedFlag v z (a.decide v z) }

/-! ### The switching image (R122) -/

/-- The image that the feeds, the players and the connections call for, with the line select as it stands (R122). -/
def Audio.imageOf (v : View) (a : Audio) : Image :=
  { lineSelect := a.image.lineSelect
    sources := Vector.ofFn fun i => a.sourceOf a.amps[i].feed
    relays := Vector.ofFn fun z =>
      if a.connections[z] = .connected then a.serverOf v.configs[z].duty else none }

/-- A refresh of the switching output: it starts with the image as it stands, or follows the one being shifted
out (R122). -/
def Audio.refresh (a : Audio) : Audio :=
  if a.shifting.isSome then { a with refreshDue := true } else { a with shifting := some a.image }

/-- A changed image is stored and refreshed; an unchanged one is left (R118, R122). -/
def Audio.setImage (a : Audio) (img : Image) : Audio :=
  if img = a.image then a else ({ a with image := img }).refresh

/-- The line select written, with a refresh in any case (R161). -/
def Audio.selectLine (a : Audio) (line : Fin 48) : Audio :=
  ({ a with image := { a.image with lineSelect := some line } }).refresh

/-- The line select cleared when no visit follows (R122; log entry 18). -/
def Audio.clearLine (a : Audio) : Audio :=
  a.setImage { a.image with lineSelect := none }

/-! ### Group moves, failover and return (R125 to R131) -/

/-- The duty amplifier's record with its server written. -/
def Audio.setServer (a : Audio) (g : Fin 10) (i : Option (Fin 12)) : Audio :=
  a.setAmp (dutyAmp g) { a.amps[dutyAmp g] with server := i }

/-- An amplifier's state written. -/
def Audio.setAmpState (a : Audio) (i : Fin 12) (st : AmpState) : Audio :=
  a.setAmp i { a.amps[i] with state := st }

/-- A group moves to a server, or to no server (R125). -/
def Audio.moveGroup (v : View) (g : Fin 10) (dst : Option (Fin 12)) (a : Audio) : Audio :=
  match a.serverOf g, dst with
  | some i, some j =>
    let old := a.amps[i]
    let cleared := a.switchTo i .none
    let given := cleared.setAmp j { cleared.amps[j] with feed := old.feed, pending := old.pending }
    given.setServer g (some j)
  | some i, none => (a.switchTo i .none).setServer g none
  | none, some j => ((a.switchTo j .none).setServer g (some j)).retarget v g
  | none, none => a

/-- A duty amplifier joins the unserved queue at the place its failure gives it (R129). -/
def Audio.joinQueue (a : Audio) (k : Fin 10) : Audio :=
  { a with unserved := a.failOrder.filter fun j => j = k || a.unserved.contains j }

/-- A duty amplifier leaves the unserved queue (R129). -/
def Audio.leaveQueue (a : Audio) (k : Fin 10) : Audio :=
  { a with unserved := a.unserved.filter fun j => j ≠ k }

/-- An IDLE standby takes the group at the head of the unserved queue (R129). -/
def Audio.serveQueue (v : View) (i : Fin 12) (a : Audio) : Audio :=
  match a.amps[i].state, a.unserved with
  | .idle, k :: rest =>
    (({ a with unserved := rest }).setAmpState i (.standingIn k)).moveGroup v k (some i)
  | _, _ => a

/-- The group of a RECOVERED duty amplifier goes back to it, and the standby is IDLE and serves the unserved
queue (R130, R131). -/
def Audio.giveBack (v : View) (k : Fin 10) (i : Fin 12) (a : Audio) : Audio :=
  (((a.moveGroup v k (some (dutyAmp k))).setAmpState (dutyAmp k) .normal).setAmpState i .idle).serveQueue v i

/-- The return of R130, tested for one standby: it stands in for a RECOVERED amplifier and carries NONE with no
pending target. -/
def Desk.returnOf (v : View) (d : Desk) (i : Fin 12) : Desk :=
  match d.audio.amps[i].state with
  | .standingIn k =>
    if d.audio.amps[dutyAmp k].state = .recovered && d.audio.amps[i].feed = .none
        && d.audio.amps[i].pending.isNone then
      (d.mapAudio (Audio.giveBack v k i)).ampFault [dutyAmp k, i]
    else d
  | _ => d

/-- The end of an event at the amplifier switching unit: returns that have become due (R130), every zone decided
(R114, R116), and the image refreshed if it changed (R122). Where both standbys meet the return condition in one event,
standby 10 returns first, so it takes the head of the unserved queue: a DESIGN CHOICE, the rules give no order (log
entry 32). -/
def Desk.close (v : View) (d : Desk) : Desk :=
  let d := standbys.foldl (fun d i => d.returnOf v i) d
  d.mapAudio fun a =>
    let a := a.decideAll v
    a.setImage (a.imageOf v)

/-- Marks a duty amplifier FAILED now and moves it to the end of the order of failures (R126, R129). -/
def Audio.markFailed (v : View) (k : Fin 10) (a : Audio) : Audio :=
  let a := a.setAmp (dutyAmp k) { a.amps[dutyAmp k] with state := .failed, failedAt := some v.now }
  { a with failOrder := (a.failOrder.filter fun j => j ≠ k) ++ [k] }

/-- The lowest-numbered IDLE standby (R126). -/
def Audio.idleStandby (a : Audio) : Option (Fin 12) :=
  standbys.find? fun i => a.amps[i].state = .idle

/-- The fault of a duty amplifier appears (R126). -/
def Desk.dutyFault (v : View) (k : Fin 10) (d : Desk) : Desk :=
  match d.audio.amps[dutyAmp k].state with
  | .normal =>
    let a := d.audio.markFailed v k
    match a.idleStandby with
    | some i =>
      ({ d with audio := (a.setAmpState i (.standingIn k)).moveGroup v k (some i) }).ampFault [dutyAmp k, i]
    | none => ({ d with audio := (a.moveGroup v k none).joinQueue k }).ampFault [dutyAmp k]
  | .recovered => (d.mapAudio (Audio.markFailed v k)).ampFault [dutyAmp k]
  | _ => d

/-- The fault of a duty amplifier is gone (R127). The return condition is tested at the end of the event. -/
def Desk.dutyClear (v : View) (k : Fin 10) (d : Desk) : Desk :=
  match d.audio.amps[dutyAmp k].state, d.audio.serverOf k with
  | .failed, some _ => (d.mapAudio fun a => a.setAmpState (dutyAmp k) .recovered).ampFault [dutyAmp k]
  | .failed, none =>
    (d.mapAudio fun a =>
      ((a.setAmpState (dutyAmp k) .normal).leaveQueue k).moveGroup v k (some (dutyAmp k))).ampFault [dutyAmp k]
  | _, _ => d

/-- The fault of a standby appears (R128). -/
def Desk.standbyFault (v : View) (i : Fin 12) (d : Desk) : Desk :=
  let a := d.audio.setAmpState i .failed
  match d.audio.amps[i].state with
  | .idle => ({ d with audio := a }).ampFault [i]
  | .standingIn k =>
    if a.amps[dutyAmp k].state = .recovered then
      ({ d with
          audio := (a.moveGroup v k (some (dutyAmp k))).setAmpState (dutyAmp k) .normal }).ampFault [i, dutyAmp k]
    else if a.amps[otherStandby i].state = .idle then
      ({ d with
          audio := (a.setAmpState (otherStandby i) (.standingIn k)).moveGroup v k (some (otherStandby i)) }).ampFault
        [i, otherStandby i]
    else ({ d with audio := (a.moveGroup v k none).joinQueue k }).ampFault [i]
  | _ => d

/-- The fault of a FAILED standby is gone: it is IDLE and serves the unserved queue (R128, R129). -/
def Desk.standbyClear (v : View) (i : Fin 12) (d : Desk) : Desk :=
  match d.audio.amps[i].state with
  | .failed => (d.mapAudio fun a => (a.setAmpState i .idle).serveQueue v i).ampFault [i]
  | _ => d

/-- A debounced fault changes: the record takes the new value with run count 0, and the fault appears or is gone
(R124, R126 to R128). Whether the fifth sample in a row has come is the sender's to say, the tick's among them: the run
count and the pin are not looked at (DESIGN CHOICE, log entry 33). -/
def Desk.faultChange (v : View) (i : Fin 12) (d : Desk) : Desk :=
  let appears := !d.audio.amps[i].fault
  let d := d.mapAudio fun a => a.setAmp i { a.amps[i] with fault := appears, run := 0 }
  match index? 10 i.val, appears with
  | some k, true => d.dutyFault v k
  | some k, false => d.dutyClear v k
  | none, true => d.standbyFault v i
  | none, false => d.standbyClear v i

/-! ### Batches and boundaries (R118, R120) -/

/-- A batch from the resolver: the targets of the touched groups are chosen again in ascending order of server number
and applied (R118). -/
def Audio.takeBatch (v : View) (batch : List (Fin 48)) (a : Audio) : Audio :=
  (List.finRange 12).foldl
    (fun a i =>
      match a.groupOf i with
      | some g => if batch.any fun z => v.configs[z].duty = g then a.applyTarget i (v.target g) else a
      | none => a) a

/-- A boundary reported by a player: every server whose current feed it delivers switches to its pending target as
that stands (R120). -/
def Audio.boundary (k : Fin 6) (a : Audio) : Audio :=
  (List.finRange 12).foldl
    (fun b i =>
      match a.amps[i].pending with
      | some t => if a.delivererOf a.amps[i].feed = some k then b.switchTo i t else b
      | none => b) a

end Sys2Proof.Machine
end

