-- ==== Sys2Proof/Machine/Players.lean ====
section
/-! DEFINITION. The player pool (07) and the players' walks (08): demand list, allocation passes, segment entries and
repetitions, and the settling of the pool after an event at the amplifier switching unit. -/

namespace Sys2Proof.Machine

/-- The audio side with one player replaced. -/
def Audio.setPlayer (a : Audio) (k : Fin 6) (p : Player) : Audio :=
  { a with players := a.players.set k p }

/-- The audio side with one player's walk replaced. -/
def Audio.setWalk (a : Audio) (k : Fin 6) (w : Option Walk) : Audio :=
  a.setPlayer k { a.players[k] with walk := w }

/-- A player leaves its segment entry: its waiting request is withdrawn, its page buffers are emptied, and a fetch in
flight for it will be dropped (R156). -/
def Audio.leaveEntry (a : Audio) (k : Fin 6) : Audio :=
  let fetch := a.store.fetch.map fun f => if f.player = k then { f with wanted := false } else f
  ({ a with store := { a.store with requests := a.store.requests.set k none, fetch := fetch } }).setPlayer k
    { a.players[k] with playing := none, ready := none }

/-- A player becomes IDLE and loses its walk context (R136, R146, R156). -/
def Audio.idlePlayer (a : Audio) (k : Fin 6) : Audio :=
  (a.leaveEntry k).setWalk k none

/-- A player makes a page request at the arbiter (R154). -/
def Audio.request (a : Audio) (k : Fin 6) (page : Nat) : Audio :=
  { a with store := { a.store with requests := a.store.requests.set k (some page) } }

/-! ### The walk (R147 to R151) -/

/-- The link a segment's next gives may be followed: END, RESTART, or a segment that is not UNUSED (R148). -/
def Audio.nextOk (a : Audio) : Next → Bool
  | .segment i => a.segments[i] ≠ .unused
  | .finish | .restart => true

/-- The consistency check on a segment (R148). -/
def Audio.consistent (a : Audio) (i : Fin 128) : Bool :=
  match a.segments[i] with
  | .unused => false
  | .tone _ _ _ next => a.nextOk next
  | .gap _ _ next => a.nextOk next
  | .clip start pages _ _ next => start + pages ≤ a.store.size && a.nextOk next

/-- How many times a segment is played (R140). -/
def Segment.repeats : Segment → Nat
  | .unused => 0
  | .tone _ _ r _ => r
  | .clip _ _ _ r _ => r
  | .gap _ r _ => r

/-- What follows a segment (R140); an UNUSED segment has no next and is never current. -/
def Segment.next : Segment → Next
  | .unused => .restart
  | .tone _ _ _ n => n
  | .clip _ _ _ _ n => n
  | .gap _ _ n => n

/-- The descriptor of a walk's current segment; at END hold there is none and it reads as UNUSED. -/
def Audio.segmentOf (a : Audio) (w : Walk) : Segment :=
  match w.current with
  | some i => a.segments[i]
  | none => .unused

/-- A tone generator at the beginning of a pattern (R141). -/
def Pattern.start (p : Pattern) : Generator :=
  { pattern := p, place := 0 }

/-- The tone generator as a repetition of a segment starts it: a TONE's pattern from its beginning, no tone otherwise
(R141). -/
def Segment.generator : Segment → Option Generator
  | .tone pattern _ _ _ => some pattern.start
  | _ => none

/-- A repetition of the current segment begins: a TONE or GAP sounds, a TONE's pattern from its beginning; a CLIP waits for
its first page, which is requested (R141, R148, R149, R154). -/
def Audio.beginRepetition (a : Audio) (k : Fin 6) : Audio :=
  match a.players[k].walk with
  | none => a
  | some w =>
    match a.segmentOf w with
    | .clip start _ _ _ _ =>
      (a.setWalk k (some { w with
        output := .startWait
        generator := none
        clip := w.clip.map fun c => { c with position := 0, abandoned := false } })).request k start
    | segment => a.setWalk k (some { w with output := .segment, generator := segment.generator })

/-- A player enters a segment that passed the check (R148). -/
def Audio.enter (a : Audio) (k : Fin 6) (i : Fin 128) : Audio :=
  let a := a.leaveEntry k
  match a.players[k].walk with
  | none => a
  | some w =>
    let clip := match a.segments[i] with
      | .clip _ _ retries _ _ => some { retries := retries, position := 0, abandoned := false }
      | _ => none
    (a.setWalk k (some { w with
      current := some i, left := (a.segments[i]).repeats, clip := clip, toneSamples := 0 })).beginRepetition k

/-- A failed consistency check: the player's program is BROKEN, PROGRAM_BROKEN is raised and the player is free (R151). -/
def Desk.breakProgram (d : Desk) (k : Fin 6) : Desk :=
  match d.audio.players[k].walk with
  | none => d
  | some w =>
    { audio := ({ d.audio with
        programs := d.audio.programs.set w.program { d.audio.programs[w.program] with broken := true } }).idlePlayer k
      notices := d.notices.raiseProgramBroken w.program }

/-- A segment entry: the consistency check, then the entry or the failure (R148, R151). -/
def Desk.enterSegment (d : Desk) (k : Fin 6) (i : Fin 128) : Desk :=
  if d.audio.consistent i then d.mapAudio fun a => a.enter k i else d.breakProgram k

/-- A pass start: the head is read from the directory as it stands; an EMPTY head fails the check (R147). -/
def Desk.passStart (d : Desk) (k : Fin 6) : Desk :=
  match d.audio.players[k].walk with
  | none => d
  | some w =>
    match d.audio.programs[w.program].head with
    | some i => d.enterSegment k i
    | none => d.breakProgram k

/-- A pass ends: the pass count rises, saturating at 65535, and a pass start follows (R146, R149). -/
def Desk.passEnd (d : Desk) (k : Fin 6) : Desk :=
  match d.audio.players[k].walk with
  | none => d
  | some w =>
    (d.mapAudio fun a => (a.leaveEntry k).setWalk k (some { w with passes := satSucc 65535 w.passes })).passStart k

/-! ### The demand list (R133) -/

/-- The feed a server is to carry: its pending target where one stands, its current feed otherwise (R133). -/
def Amp.wanted (amp : Amp) : Feed :=
  amp.pending.getD amp.feed

/-- The place of an age key, oldest first; no key comes after every key (R133). -/
def View.keyPlace (v : View) : Option Nat → Nat
  | some h => v.ages.idxOf h
  | none => v.ages.length + 1

/-- The older of two age keys (R133). -/
def View.olderKey (v : View) (k k' : Option Nat) : Option Nat :=
  if v.keyPlace k' < v.keyPlace k then k' else k

/-- The demand that one more feed naming the program adds: the highest rank, and the oldest key at that rank (R133). -/
def View.joinDemand (v : View) (p : Fin 16) (acc : Option Demand) (f : Feed) : Option Demand :=
  match f with
  | .program r q key =>
    if q = p then
      match acc with
      | none => some { program := p, rank := r, key := key }
      | some d =>
        if d.rank.rank.value < r.rank.value then some { program := p, rank := r, key := key }
        else if d.rank = r then some { d with key := v.olderKey d.key key }
        else some d
    else acc
  | _ => acc

/-- The order of the demand list: rank highest first, then the oldest key, then the lowest program (R133). -/
def View.demandBefore (v : View) (d e : Demand) : Bool :=
  if d.rank ≠ e.rank then e.rank.rank.value < d.rank.rank.value
  else if v.keyPlace d.key ≠ v.keyPlace e.key then v.keyPlace d.key < v.keyPlace e.key
  else d.program < e.program

/-- The demand list that the servers' feeds call for (R133). -/
def Audio.demandOf (v : View) (a : Audio) : List Demand :=
  let feeds := a.amps.toList.map Amp.wanted
  sortBy v.demandBefore ((List.finRange 16).filterMap fun p => feeds.foldl (v.joinDemand p) none)

/-! ### Allocation passes (R134 to R136) -/

/-- The first part of a pass: a player whose program is demanded is PLAYING; one whose program is not is RELEASING
while a server waits for its boundary, and IDLE otherwise (R136). -/
def Audio.release (a : Audio) (k : Fin 6) : Audio :=
  match a.players[k].walk with
  | none => a
  | some w =>
    if a.demand.any fun d => d.program = w.program then a.setWalk k (some { w with releasing := false })
    else if a.awaited k then a.setWalk k (some { w with releasing := true })
    else a.idlePlayer k

/-- The player a program without one is given: the lowest IDLE one, else the lowest RELEASING one, else the one of
the lowest program below it in the demand list that holds a player (R134). -/
def Audio.pick (a : Audio) (lower : List Demand) : Option (Fin 6) :=
  let idle := (List.finRange 6).find? fun k => a.players[k].walk.isNone
  let releasing := (List.finRange 6).find? fun k =>
    match a.players[k].walk with
    | some w => w.releasing
    | none => false
  match idle, releasing with
  | some k, _ => some k
  | none, some k => some k
  | none, none => lower.reverse.findSome? fun d => a.playerOf d.program

/-- A player takes a program: whatever it fetched is dropped and its walk context is set afresh (R134, R135, R146). -/
def Audio.take (v : View) (a : Audio) (k : Fin 6) (p : Fin 16) : Audio :=
  (a.leaveEntry k).setWalk k (some
    { program := p, releasing := false, takenAt := v.now, current := none, left := 0, clip := none,
      output := .startWait, passes := 0, generator := none, toneSamples := 0 })

/-- The second part of a pass: down the demand list, a player to each program that has none and is not BROKEN. Answers
the players that took a program, in order (R134). -/
def Audio.allocate (v : View) : List Demand → Audio → List (Fin 6) → Audio × List (Fin 6)
  | [], a, taken => (a, taken)
  | d :: lower, a, taken =>
    if a.programs[d.program].broken || (a.playerOf d.program).isSome then Audio.allocate v lower a taken
    else
      match a.pick lower with
      | some k => Audio.allocate v lower (a.take v k d.program) (taken ++ [k])
      | none => Audio.allocate v lower a taken

/-- The programs the six players hold. -/
def Audio.holding (a : Audio) : Vector (Option (Fin 16)) 6 :=
  Vector.ofFn fun k => a.players[k].walk.map fun w => w.program

/-- The player that held a program in an earlier holding. -/
def heldBy (held : Vector (Option (Fin 16)) 6) (p : Fin 16) : Option (Fin 6) :=
  (List.finRange 6).find? fun k => held[k] = some p

/-- The loss of a player taken at the servers: each one whose current feed it delivered, and which holds a pending
target, switches to it at once (R121, R135, R151). -/
def Audio.losses (before : Vector (Option (Fin 16)) 6) (a : Audio) : Audio :=
  (List.finRange 12).foldl
    (fun b i =>
      match a.amps[i].pending, a.amps[i].feed.program? with
      | some t, some p =>
        if (heldBy before p).isSome && heldBy before p ≠ a.playerOf p then b.switchTo i t else b
      | _, _ => b) a

/-- A RELEASING player that no server waits for any more (R136). -/
def Audio.releaseDone (a : Audio) : Bool :=
  (List.finRange 6).any fun k =>
    match a.players[k].walk with
    | some w => w.releasing && !a.awaited k
    | none => false

/-- The pool settles after events at the amplifier switching unit: while the demand list has changed, a RELEASING player is
done, or a pass is forced, a pass is made, the players it started begin their walks, and the unit takes the
programs whose player changed. `before` is the holding the unit last knew. `fuel` bounds the rounds (log entry 27). -/
def Desk.settle (v : View) : Nat → Vector (Option (Fin 16)) 6 → Bool → Desk → Desk
  | 0, _, _, d => d
  | fuel + 1, before, force, d =>
    let demand := d.audio.demandOf v
    if force || demand ≠ d.audio.demand || d.audio.releaseDone then
      let a := { d.audio with demand := demand }
      let a := (List.finRange 6).foldl (fun a k => a.release k) a
      let passed := Audio.allocate v demand a []
      let held := passed.1.holding
      let started := passed.2.foldl (fun d k => d.passStart k) { d with audio := passed.1 }
      let failed := passed.2.any fun k => started.audio.players[k].walk.isNone
      let told := (started.mapAudio (Audio.losses before)).close v
      Desk.settle v fuel held failed told
    else d

/-- Rounds that the settling may take: more than the programs that can be marked BROKEN, the pending targets that can
be taken and the returns that can be made, together (log entry 27). -/
def settleFuel : Nat :=
  64

/-- The end of an event at the amplifier switching unit and of all that follows from it at the pool. -/
def Desk.finish (v : View) (d : Desk) : Desk :=
  let d := d.close v
  Desk.settle v settleFuel d.audio.holding false d

end Sys2Proof.Machine
end

