-- ==== Sys2Proof/Machine/Zones.lean ====
section
/-! DEFINITION. The zone resolver (05): the claims on a zone, the resolved source among them, and the input changes that cause
resolution and hand a batch to the amplifier switching unit. -/

namespace Sys2Proof.Machine

/-- Where a claim comes from (R83). -/
inductive Origin where
  | incident (slot : Fin 32)
  | saturation
  | mic (mic : Mic)
  | test (program : Fin 16)
  deriving DecidableEq, Repr

/-- A claim: a rank above NONE and its origin (R83). -/
structure Claim where
  rank : Rank
  origin : Origin
  deriving DecidableEq, Repr

/-- The handle of a slot's incident: generation * 32 + slot (R36). -/
def Engine.handle (e : Engine) (slot : Fin 32) : Nat :=
  e.slots[slot].generation.toNat * 32 + slot.val

/-- A radius of the profile grown by the step count and limited at F - 1 (R84). -/
def grownRadius (floors radius step : Nat) : Nat :=
  min (radius + step) (floors - 1)

/-- The claim of a PHASED incident of known floor `f` on a FLOOR or CAR_PARK zone of range `low` to `high`, by the table
of R85; NONE is no claim. -/
def ringClaim (floors : Nat) (p : Profile) (f step low high : Nat) : Rank :=
  let up := grownRadius floors p.up step
  let down := grownRadius floors p.down step
  if low ≤ f ∧ f ≤ high then .evacuate
  else if f < low ∧ low - f ≤ up then .evacuate
  else if f < low ∧ low - f ≤ up + p.margin then .alert
  else if high < f ∧ f - high ≤ down then .evacuate
  else if high < f ∧ f - high ≤ down + p.margin then .alert
  else if p.building then .alert
  else .none

/-- The claim of a PHASED incident of known floor on a zone of each kind (R85 to R87). -/
def phasedClaim (floors : Nat) (p : Profile) (f step : Nat) (z : ZoneConfig) : Rank :=
  match z.kind with
  | .unused => .none
  | .stair => .evacuate
  | .floor | .carPark => ringClaim floors p f step z.low z.high
  | .liftLobby =>
    let c := ringClaim floors p f step z.low z.high
    if c = .none then .alert else c

/-- The claim of an incident on a zone; NONE is no claim (R58, R83 to R89). -/
def Incident.claim (floors : Nat) (p : Profile) (i : Incident) (z : ZoneConfig) : Rank :=
  if z.kind = .unused then .none
  else
    match i.stage, i.floor with
    | .general, _ => .evacuate
    | .phased _, some f => phasedClaim floors p f i.step z
    | .phased _, none => .alert
    | _, _ => .none

/-- The claims of the live incidents on a zone, in age list order (R83, R93). -/
def Engine.claims (e : Engine) (z : ZoneConfig) : List Claim :=
  e.ages.filterMap fun slot =>
    match e.slots[slot].incident with
    | some i =>
      let c := i.claim e.floors e.profiles[i.profile] z
      if c = .none then none else some { rank := c, origin := .incident slot }
    | none => none

/-- The claim of a microphone's session on a zone (R91, R108). -/
def sessionClaim (session : Option Session) (mic : Mic) (rank : Rank) (z : Fin 48) : List Claim :=
  match session with
  | some x => if x.zones.contains z then [{ rank := rank, origin := .mic mic }] else []
  | none => []

/-- All claims on a zone (R83): incidents oldest first, the saturation flag, the microphone sessions, the test claim.
An UNUSED zone takes none. -/
def claims (e : Engine) (ss : Sessions) (r : Resolver) (z : Fin 48) : List Claim :=
  if r.configs[z].kind = .unused then []
  else
    e.claims r.configs[z]
      ++ (if e.saturated then [{ rank := .evacuate, origin := .saturation }] else [])
      ++ sessionClaim ss.fireService .fireService .liveFire z
      ++ sessionClaim ss.management .management .liveMgmt z
      ++ (match r.tests[z] with
          | some p => [{ rank := .test, origin := .test p }]
          | none => [])

/-- The highest rank among claims, NONE when there are none (R92). -/
def topClaim (cs : List Claim) : Rank :=
  cs.foldl (fun r c => r.max c.rank) .none

/-- The program an incident's profile names for a rank (R94). -/
def profileProgram (p : Profile) : Rank → Fin 16
  | .alert => p.alert
  | _ => p.evacuate

/-- The runtime record a chosen claim gives (R92 to R94). -/
def recordOf (e : Engine) (c : Claim) : ZoneRecord :=
  match c.origin with
  | .incident slot =>
    { rank := c.rank, source := .incident
      program := e.slots[slot].incident.map fun i => profileProgram e.profiles[i.profile] c.rank
      governing := some (e.handle slot) }
  | .saturation =>
    { rank := c.rank, source := .saturation, program := some e.profiles[15].evacuate, governing := none }
  | .mic .fireService => { rank := c.rank, source := .fireService, program := none, governing := none }
  | .mic .management => { rank := c.rank, source := .management, program := none, governing := none }
  | .test p => { rank := c.rank, source := .test, program := some p, governing := none }

/-- The resolution of a zone: of the claims of the highest rank the first in the order of `claims`, so the oldest
incident, and an incident before the saturation flag (R92, R93). -/
def resolveZone (e : Engine) (ss : Sessions) (r : Resolver) (z : Fin 48) : ZoneRecord :=
  let cs := claims e ss r z
  match cs.find? fun c => c.rank = topClaim cs with
  | some c => recordOf e c
  | none => ZoneRecord.empty

/-- Every zone's resolution from the inputs as they stand (R96). -/
def State.resolved (s : State) : Vector ZoneRecord 48 :=
  Vector.ofFn fun z => resolveZone s.engine s.sessions s.resolver z

/-- What the audio side reads of the state. -/
def State.view (s : State) : View :=
  { configs := s.resolver.configs, records := s.resolver.records, lines := s.scanner.lines,
    ages := s.engine.ages.map s.engine.handle, now := s.now }

/-- An event of the audio side: it changes the audio side and raises notices, and nothing else. -/
def State.onDesk (s : State) (f : View → Desk → Desk) : State :=
  let d := f s.view { audio := s.audio, notices := s.notices }
  (s.setAudio d.audio).setNotices d.notices

/-- An event of the audio side that does not read the other blocks and raises no notice. -/
def State.onAudio (s : State) (f : Audio → Audio) : State :=
  s.setAudio (f s.audio)

/-- The runtime records written. -/
def State.setRecords (s : State) (records : Vector ZoneRecord 48) : State :=
  s.setResolver { s.resolver with records := records }

/-- The test claims written. -/
def State.setTests (s : State) (tests : Vector (Option (Fin 16)) 48) : State :=
  s.setResolver { s.resolver with tests := tests }

/-- The zones whose record would change, in ascending order (R97). -/
def State.batch (s : State) : List (Fin 48) :=
  (List.finRange 48).filter fun z => s.resolved[z] ≠ s.resolver.records[z]

/-- An input change taken by the resolver: the zones are resolved again, and the changed records are handed to the
amplifier switching unit in one batch; an empty batch is not acted on (R96, R97, R118; log entry 9). -/
def State.inputChange (s : State) : State :=
  let batch := s.batch
  let s := s.setRecords s.resolved
  if batch.isEmpty then s
  else s.onDesk fun v d => (d.mapAudio (Audio.takeBatch v batch)).finish v

/-- At least one test claim stands. -/
def State.testing (s : State) : Bool :=
  s.resolver.tests.any Option.isSome

/-- The withdrawal of every test claim, one input change of its own (R111). -/
def State.withdrawTests (s : State) : State :=
  if s.testing then (s.setTests (Vector.replicate 48 none)).inputChange else s

end Sys2Proof.Machine
end

