-- ==== Sys2Proof/Machine/Link.lean ====
section
/-! DEFINITION. The taking of a valid request and its response (R176, R177), link supervision as requests touch it (R178, R180). -/

namespace Sys2Proof.Machine

/-- What carrying out a request answers: the result, the payload, and the state as the command leaves it. -/
structure Served where
  result : Result
  payload : List Byte
  state : State

/-- A refusal: payload length 0 and no record changed (R177). -/
def refuse (r : Result) (s : State) : Served :=
  { result := r, payload := [], state := s }

/-- An accepted request with its payload. -/
def accept (payload : List Byte) (s : State) : Served :=
  { result := .ok, payload := payload, state := s }

/-- A valid request at the link: the supervision timer is loaded, and an AUTONOMOUS link returns to LINKED with
LINK_RESTORED (R176, R178, R180). -/
def State.linkValid (s : State) : State :=
  let restored := (s.setLink { s.link with mode := .linked, supervision := some Config.supervisionTicks })
  match s.link.mode with
  | .linked => restored
  | .autonomous => restored.setNotices s.notices.raiseLinkRestored

/-- A response placed in the response buffer (R173, R176). -/
def State.respond (s : State) (code : Byte) (r : Result) (payload : List Byte) : State :=
  s.setLink { s.link with response := some { code := code, result := r, payload := payload } }

/-- The taking of a valid request (R176): the link's share, then the command, then its response. -/
def State.takeRequest (s : State) (code : Byte) (serve : State → Served) : State :=
  let out := serve s.linkValid
  out.state.respond code out.result out.payload

/-- The link mode is AUTONOMOUS (R179). -/
def State.autonomous (s : State) : Bool :=
  s.link.mode = .autonomous

end Sys2Proof.Machine
end

