-- ==== Sys2Proof/Machine/Operands.lean ====
section
/-! DEFINITION. The operand forms of requests: each field's codes and range (R190), and the records that requests
carry. `none` is a field outside its range. -/

namespace Sys2Proof.Machine

/-- A yes or no field (R190). -/
def yesNo? (b : Byte) : Option Bool :=
  match b.toNat with
  | 0 => some false
  | 1 => some true
  | _ => none

/-- A class field (R190). -/
def cls? (b : Byte) : Option Cls :=
  match b.toNat with
  | 0 => some .smoke
  | 1 => some .heat
  | 2 => some .callPoint
  | 3 => some .sprinkler
  | _ => none

/-- A confirm rule field (R190). -/
def rule? (b : Byte) : Option Confirm :=
  match b.toNat with
  | 0 => some .single
  | 1 => some .coincident
  | 2 => some .delayed
  | _ => none

/-- A loop selector field: 0..3, or FFh for ANY, which reads as `some none` (R190). -/
def selector? (b : Byte) : Option (Option (Fin 4)) :=
  if b = 0xFF#8 then some none else (index? 4 b.toNat).map some

/-- A microphone field (R190). -/
def mic? (b : Byte) : Option Mic :=
  match b.toNat with
  | 0 => some .fireService
  | 1 => some .management
  | _ => none

/-- A zone kind field (R190). -/
def zoneKind? (b : Byte) : Option ZoneKind :=
  match b.toNat with
  | 0 => some .unused
  | 1 => some .floor
  | 2 => some .stair
  | 3 => some .liftLobby
  | 4 => some .carPark
  | _ => none

/-- A tone pattern field (R190). -/
def pattern? (b : Byte) : Option Pattern :=
  match b.toNat with
  | 0 => some .alertPattern
  | 1 => some .evacuatePattern
  | 2 => some .chime
  | 3 => some .testTone
  | _ => none

/-- A segment's next field: an index 0..127, 80h END, 81h RESTART (R190). -/
def next? (b : Byte) : Option Next :=
  if b = 0x80#8 then some .finish
  else if b = 0x81#8 then some .restart
  else (index? 128 b.toNat).map .segment

/-- A program's head field: an index 0..127, or FFh for EMPTY, which reads as `some none` (R145, R190). -/
def head? (b : Byte) : Option (Option (Fin 128)) :=
  if b = 0xFF#8 then some none else (index? 128 b.toNat).map some

/-- A device address 1..250 (R24, R33). -/
def deviceAddress? (b : Byte) : Option Byte :=
  if 1 ≤ b.toNat ∧ b.toNat ≤ 250 then some b else none

/-- A number, if it lies in a range. -/
def inRange? (low high n : Nat) : Option Nat :=
  if low ≤ n ∧ n ≤ high then some n else none

/-- The spans a map entry may have (R17). -/
def spans : List Nat :=
  [1, 2, 4, 8, 16, 32, 64, 128]

/-- The eight fields of a written map entry against the ranges of R17, with F the building floor count. A written
entry is valid. -/
def entry? (floors : Nat) (raw : RawEntry) : Option MapEntry := do
  let selector ← selector? raw.loop
  let base ← inRange? 1 250 raw.base.toNat
  let span ← if raw.span.toNat ∈ spans ∧ base % raw.span.toNat = 0 then some raw.span.toNat else none
  let zone ← inRange? 1 255 raw.zone.toNat
  let floor ← if raw.floor.toNat < floors then some raw.floor.toNat else none
  let cls ← cls? raw.cls
  let rule ← rule? raw.rule
  let profile ← index? 16 raw.profile.toNat
  some { valid := true, selector := selector, base := base, span := span, zone := zone, floor := floor,
         cls := cls, rule := rule, profile := profile }

/-- The ten fields of a written profile against the ranges of R55. -/
def profile? (raw : RawProfile) : Option Profile := do
  let up ← inRange? 0 79 raw.up.toNat
  let down ← inRange? 0 79 raw.down.toNat
  let margin ← inRange? 0 79 raw.margin.toNat
  let limit ← inRange? 0 80 raw.limit.toNat
  let evacuate ← index? 16 raw.evacuate.toNat
  let alert ← index? 16 raw.alert.toNat
  let building ← yesNo? raw.building
  some { up := up, down := down, margin := margin, interval := raw.interval.toNat, limit := limit,
         ackWindow := raw.ackWindow.toNat, investigate := raw.investigate.toNat, evacuate := evacuate,
         alert := alert, building := building }

/-- The five fields of a written zone configuration against order 1 of R80. -/
def zoneConfig? (raw : RawZone) : Option ZoneConfig := do
  let kind ← zoneKind? raw.kind
  let low ← inRange? 0 79 raw.low.toNat
  let high ← inRange? 0 79 raw.high.toNat
  let duty ← index? 10 raw.duty.toNat
  let load ← inRange? 1 Config.ampRating raw.load.toNat
  some { kind := kind, low := low, high := high, duty := duty, load := load }

/-- The fields of a written segment descriptor that its kind has, against R140; the others are neither checked nor
kept (R142). -/
def segment? (raw : RawSegment) : Option Segment :=
  match raw.kind.toNat with
  | 0 => some .unused
  | 1 => do
    let pattern ← pattern? raw.pattern
    let duration ← inRange? 1 600 raw.duration.toNat
    let repeats ← inRange? 1 15 raw.repeats.toNat
    let next ← next? raw.next
    some (.tone pattern duration repeats next)
  | 2 => do
    let pages ← inRange? 1 4096 raw.pages.toNat
    let retries ← inRange? 0 3 raw.retries.toNat
    let repeats ← inRange? 1 15 raw.repeats.toNat
    let next ← next? raw.next
    some (.clip raw.start.toNat pages retries repeats next)
  | 3 => do
    let duration ← inRange? 1 600 raw.duration.toNat
    let repeats ← inRange? 1 15 raw.repeats.toNat
    let next ← next? raw.next
    some (.gap duration repeats next)
  | _ => none

/-- The zone numbers of a list, if every one is 0..47. -/
def zoneNumbers? : List Byte → Option (List (Fin 48))
  | [] => some []
  | b :: bs => do
    let z ← index? 48 b.toNat
    let zs ← zoneNumbers? bs
    some (z :: zs)

/-- The set a zone list names: ALL is every zone; a list holds 1..48 numbers, each 0..47, a repeated number entering
once (R102, R103, R109, R110, R192). -/
def zoneSet? : ZoneList → Option (List (Fin 48))
  | .all => some (List.finRange 48)
  | .listed zones =>
    if 1 ≤ zones.length ∧ zones.length ≤ 48 then (zoneNumbers? zones).map toSet else none

end Sys2Proof.Machine
end

