-- ==== Sys2Proof/Machine/Records.lean ====
section
/-! DEFINITION. The bytes of response payloads: the enumeration codes of R190 and the record layouts of file 11. -/

namespace Sys2Proof.Machine

/-- FFh, the absent code of a one-byte field (R190). -/
def absent : Byte :=
  0xFF#8

/-- An optional one-byte field (R190). -/
def optByte (x : Option Nat) : Byte :=
  match x with
  | some n => byte n
  | none => absent

/-- An optional two-byte field (R190). -/
def optBytes2 (x : Option Nat) : List Byte :=
  match x with
  | some n => bytes2 n
  | none => [absent, absent]

/-- Result codes (11, Command Link Frames). -/
def Result.code : Result → Byte
  | .ok => 0x00#8
  | .unknown => 0x01#8
  | .checkFail => 0x02#8
  | .outOfRange => 0x03#8
  | .refusedState => 0x04#8
  | .notFound => 0x05#8
  | .stale => 0x06#8
  | .busy => 0x07#8
  | .overlap => 0x08#8
  | .conflict => 0x09#8
  | .stillActive => 0x0A#8
  | .alarmActive => 0x0B#8
  | .overload => 0x0C#8

def Cls.code : Cls → Byte
  | .smoke => 0
  | .heat => 1
  | .callPoint => 2
  | .sprinkler => 3

def Confirm.code : Confirm → Byte
  | .single => 0
  | .coincident => 1
  | .delayed => 2

/-- Report kind codes of the buffered kinds (R2). -/
def AlarmKind.code : AlarmKind → Byte
  | .alarm => 0x01#8
  | .prealarm => 0x02#8
  | .clear => 0x03#8

/-- Report kind codes of FAULT and REMOVED (R2). -/
def TroubleKind.code : TroubleKind → Byte
  | .fault => 0x04#8
  | .removed => 0x05#8

def StageName.code : StageName → Byte
  | .watch => 0
  | .confirming => 1
  | .investigating => 2
  | .phased => 3
  | .general => 4
  | .silenced => 5

def Phase.code : Phase → Byte
  | .ackWindow => 0
  | .investigate => 1

def LoopState.code : LoopState → Byte
  | .disabled => 0
  | .awaiting => 1
  | .live => 2
  | .silent => 3

def ZoneKind.code : ZoneKind → Byte
  | .unused => 0
  | .floor => 1
  | .stair => 2
  | .liftLobby => 3
  | .carPark => 4

def Rank.code (r : Rank) : Byte :=
  byte r.value

def Source.code : Source → Byte
  | .none => 0
  | .incident => 1
  | .saturation => 2
  | .fireService => 3
  | .management => 4
  | .test => 5

def Connection.code : Connection → Byte
  | .disconnected => 0
  | .connected => 1
  | .isolated => 2
  | .unserved => 3

def LineState.code : LineState → Byte
  | .notScanned => 0
  | .normal => 1
  | .opened => 2
  | .earth => 3
  | .short => 4
  | .isolated => 5
  | .lockedOut => 6

/-- Line reading codes: the two levels of LMON_CLS1 and LMON_CLS0 as a number (R162, R190). -/
def LineClass.code : LineClass → Byte
  | .normal => 0
  | .opened => 1
  | .short => 2
  | .earth => 3

def Mic.code : Mic → Byte
  | .fireService => 0
  | .management => 1

def Pattern.code : Pattern → Byte
  | .alertPattern => 0
  | .evacuatePattern => 1
  | .chime => 2
  | .testTone => 3

def Next.code : Next → Byte
  | .segment i => byte i.val
  | .finish => 0x80#8
  | .restart => 0x81#8

def AmpState.code : AmpState → Byte
  | .normal => 0
  | .failed => 1
  | .recovered => 2
  | .idle => 3
  | .standingIn k => byte (0x10 + k.val)

def Output.code : Output → Byte
  | .segment => 0
  | .startWait => 1
  | .underrun => 2
  | .fallback => 3
  | .endHold => 4

/-- Source codes of the switching image (R190). -/
def AudioSource.code : AudioSource → Byte
  | .none => 0
  | .player k => byte (k.val + 1)
  | .mic .fireService => 0x08#8
  | .mic .management => 0x09#8
  | .alertTone => 0x0A#8
  | .evacuateTone => 0x0B#8

/-- A feed's delivery code: its source code, and 0Ch for the silence of a TEST program without a player (R137, R190). -/
def Audio.deliveryCode (a : Audio) (f : Feed) : Byte :=
  match f, a.sourceOf f with
  | .program _ _ _, .none => 0x0C#8
  | _, src => src.code

/-- A feed's four bytes (R190). -/
def Feed.bytes (f : Feed) : List Byte :=
  let key := match f with
    | .program _ _ k => k
    | _ => Option.none
  [f.rank.code, optByte (f.program?.map Fin.val)] ++ optBytes2 key

/-- A pending target's four bytes; FFh throughout when absent (R190). -/
def pendingBytes : Option Feed → List Byte
  | some f => f.bytes
  | none => [absent, absent, absent, absent]

/-- Loop status, 10 bytes (R15). -/
def Receiver.bytes (r : Receiver) : List Byte :=
  [r.state.code, byte r.timeout, byte (r.timer.getD 0), byte r.buffer.length, byte r.framing, byte r.noise,
   byte r.check, byte r.protocol, byte r.overrun, byte r.lastCycle]

/-- Map entry, 8 bytes (R17). -/
def MapEntry.bytes (e : MapEntry) : List Byte :=
  [optByte (e.selector.map Fin.val), byte e.base, byte e.span, byte e.zone, byte e.floor, e.cls.code, e.rule.code,
   byte e.profile.val]

/-- Miss list entry, 5 bytes (R33). -/
def Miss.bytes (m : Miss) : List Byte :=
  [byte m.loop.val, m.address, m.first.code, m.last.code, byte m.deadline]

/-- Profile, 13 bytes (R55). -/
def Profile.bytes (p : Profile) : List Byte :=
  [byte p.up, byte p.down, byte p.margin] ++ bytes2 p.interval ++ [byte p.limit] ++ bytes2 p.ackWindow
    ++ bytes2 p.investigate ++ [byte p.evacuate.val, byte p.alert.val, flagByte p.building]

/-- Zone configuration, 6 bytes (R79). -/
def ZoneConfig.bytes (z : ZoneConfig) : List Byte :=
  [z.kind.code, byte z.low, byte z.high, byte z.duty.val] ++ bytes2 z.load

/-- The zone set of MIC_STATUS, six bytes: byte k holds zones 8k to 8k + 7, zone 8k + j in bit j (R193). -/
def zoneBitmap (zones : List (Fin 48)) : List Byte :=
  (List.range 6).map fun k =>
    byte (((List.range 8).map fun j => if (index? 48 (8 * k + j)).any zones.contains then 2 ^ j else 0).sum)

/-- Microphone status: 1 byte closed, 15 bytes open (R107, R191). -/
def sessionBytes : Option Session → List Byte
  | none => [0]
  | some x => [1] ++ zoneBitmap x.zones ++ bytes2 x.limit ++ bytes2 x.timer ++ bytes4 x.openedAt

/-- The fault byte of an amplifier record: bit 7 fault present, bit 6 failed-at present, bits 2 to 0 run count. -/
def Amp.faultByte (amp : Amp) : Byte :=
  byte ((if amp.fault then 128 else 0) + (if amp.failedAt.isSome then 64 else 0) + amp.run)

/-- Amplifier record, 16 bytes (R132, R191). -/
def Audio.ampBytes (a : Audio) (i : Fin 12) : List Byte :=
  let amp := a.amps[i]
  [amp.state.code, amp.faultByte] ++ bytes4 (amp.failedAt.getD 0) ++ [optByte (amp.server.map Fin.val)]
    ++ amp.feed.bytes ++ [a.deliveryCode amp.feed] ++ pendingBytes amp.pending

/-- Player record, 16 bytes (R138, R191). -/
def Player.bytes (p : Player) : List Byte :=
  match p.walk with
  | none =>
    [0, absent] ++ bytes4 0 ++ [absent, 0, absent, absent, absent, absent, 0, 0, byte p.failed, byte p.underruns]
  | some w =>
    [if w.releasing then 2 else 1, byte w.program.val] ++ bytes4 w.takenAt
      ++ [optByte (w.current.map Fin.val), byte w.left, optByte (w.clip.map fun c => c.retries)]
      ++ optBytes2 (w.clip.map fun c => c.position)
      ++ [w.output.code] ++ bytes2 w.passes ++ [byte p.failed, byte p.underruns]

/-- Demand entry, 5 bytes: program, rank, age key, and delivery, a player, 80h FALLBACK or 81h BROKEN (R138). -/
def Audio.demandBytes (a : Audio) (d : Demand) : List Byte :=
  let delivery := match a.playerOf d.program with
    | some k => byte (k.val + 1)
    | none => if a.programs[d.program].broken then 0x81#8 else 0x80#8
  [byte d.program.val, d.rank.rank.code] ++ optBytes2 d.key ++ [delivery]

/-- Segment descriptor, 11 bytes; the fields a kind does not have carry the absent codes (R191). -/
def Segment.bytes : Segment → List Byte
  | .unused => [0, absent, absent, absent, absent, absent, absent, absent, absent, absent, absent]
  | .tone pattern duration repeats next =>
    [1, pattern.code] ++ bytes2 duration ++ [absent, absent, absent, absent, absent, byte repeats, next.code]
  | .clip start pages retries repeats next =>
    [2, absent, absent, absent] ++ bytes2 start ++ bytes2 pages ++ [byte retries, byte repeats, next.code]
  | .gap duration repeats next =>
    [3, absent] ++ bytes2 duration ++ [absent, absent, absent, absent, absent, byte repeats, next.code]

/-- A counted list of one-byte members (R193). -/
def countedSet (members : List Nat) : List Byte :=
  byte members.length :: members.map byte

/-- The kind code and detail of each pending notice, in table order (11, The notice payload). -/
def State.noticeBodies (s : State) : List (List Byte) :=
  let n := s.notices
  let onSet (code : Byte) (members : List Nat) : List (List Byte) :=
    if members.isEmpty then [] else [code :: countedSet members]
  let onFlag (code : Byte) (flag : Bool) : List (List Byte) := if flag then [[code]] else []
  let device : List (List Byte) := match n.deviceFault with
    | some d => [[0x03#8, byte d.loop.val, d.address, d.kind.code, byte d.count]]
    | none => []
  let mics : List Nat := (if n.micTimeoutFire then [0] else []) ++ (if n.micTimeoutManagement then [1] else [])
  onSet 0x01#8 (s.engine.changed.map Fin.val) ++ onFlag 0x02#8 n.bindingMiss ++ device
    ++ onSet 0x04#8 (n.loopFault.map Fin.val) ++ onSet 0x05#8 (n.lineFault.map Fin.val)
    ++ onSet 0x06#8 (n.ampFault.map Fin.val) ++ onSet 0x07#8 (n.programBroken.map Fin.val)
    ++ onSet 0x08#8 (n.testDone.map Fin.val) ++ onSet 0x09#8 mics ++ onFlag 0x0A#8 n.saturation
    ++ onFlag 0x0B#8 n.linkRestored

/-- The NOTICE_READ payload: the count of pending notices, then each with its detail (R183). -/
def State.noticePayload (s : State) : List Byte :=
  byte s.noticeBodies.length :: s.noticeBodies.flatten

/-- The 61 bytes of a refresh (11, The Switching Image). -/
def Image.bytes (img : Image) : List Byte :=
  [optByte (img.lineSelect.map Fin.val)] ++ img.sources.toList.map AudioSource.code
    ++ img.relays.toList.map fun r =>
      match r with
      | some i => byte (0x80 + i.val)
      | none => 0

/-- The bytes of a response frame, from its sync byte to its CRC (R177, 11). -/
def Response.bytes (r : Response) : List Byte :=
  let covered := [r.code, r.result.code, byte r.payload.length] ++ r.payload
  0xA6#8 :: (covered ++ crcBytes covered)

end Sys2Proof.Machine
end

