-- ==== Sys2Proof/Machine/Amplifiers.lean ====
section
/-! DEFINITION. The amplifier events and commands (07), and the load pulse of the switching output. -/

namespace Sys2Proof.Machine

/-- DEBOUNCED_FAULT_CHANGE: an amplifier's fault line has disagreed with its debounced fault for five samples (R124). Taken
sooner, below run count 4 or with a line that agrees, it changes the fault all the same (DESIGN CHOICE, log entry 33). -/
def execDebouncedFaultChange (i : Fin 12) (s : State) : Host.Outcome State Fault Refusal :=
  .next (s.onDesk fun v d => (d.faultChange v i).finish v)

/-- The load pulse: the matrix takes the image shifted out, and a further refresh that is due starts with the image as it
stands (R122). -/
def Audio.load (a : Audio) : Audio :=
  { a with
    loaded := a.shifting
    shifting := if a.refreshDue then some a.image else none
    refreshDue := false }

/-- SWITCHING_LOAD: the shift-out in progress ends with its load pulse; without one nothing is loaded (R122). -/
def execSwitchingLoad (s : State) : Host.Outcome State Fault Refusal :=
  if s.audio.shifting.isSome then .next (s.onAudio Audio.load) else .next s

/-- The standby that stands in for a duty amplifier (R123). -/
def Audio.standbyOf (a : Audio) (k : Fin 10) : Option (Fin 12) :=
  standbys.find? fun i => a.amps[i].state = .standingIn k

/-- The amplifier a standby stands in for, FFh for none (R131). -/
def Audio.tookByte (a : Audio) (i : Fin 12) : Byte :=
  match a.amps[i].state with
  | .standingIn k => byte k.val
  | _ => absent

/-- AMP_RESTORE (R131). -/
def serveAmpRestore (amp : Byte) (s : State) : Served :=
  match index? 12 amp.toNat with
  | none => refuse .outOfRange s
  | some _ =>
    match index? 10 amp.toNat with
    | none => refuse .refusedState s
    | some k =>
      match s.audio.amps[dutyAmp k].state, s.audio.standbyOf k with
      | .recovered, some i =>
        let s' := s.onDesk fun v d => (d.mapAudio (Audio.giveBack v k i)).finish v
        accept [byte i.val, s'.audio.tookByte i] s'
      | _, _ => refuse .refusedState s

/-- The payload of AMP_STATUS: twelve amplifier records and the counted unserved queue (R132). -/
def Audio.ampStatus (a : Audio) : List Byte :=
  ((List.finRange 12).map a.ampBytes).flatten ++ countedSet (a.unserved.map Fin.val)

/-- AMP_STATUS (R132). -/
def serveAmpStatus (s : State) : Served :=
  accept s.audio.ampStatus s

def execAmpRestore (amp : Byte) (s : State) : Host.Outcome State Fault Refusal :=
  .next (s.takeRequest 0x50#8 (serveAmpRestore amp))

def execAmpStatus (s : State) : Host.Outcome State Fault Refusal :=
  .next (s.takeRequest 0x51#8 serveAmpStatus)

end Sys2Proof.Machine
end

