-- ==== Sys2Proof/Machine/Playback.lean ====
section
/-! DEFINITION. The players at work (08): what follows the end of a repetition, the store port's arbiter and fetches, pages,
retries, underruns and fallbacks, and what the PLAY and store pins carry. -/

namespace Sys2Proof.Machine

/-! ### Ends of repetitions (R149, R150) -/

/-- The page buffers of a player emptied. -/
def Audio.clearPages (a : Audio) (k : Fin 6) : Audio :=
  a.setPlayer k { a.players[k] with playing := none, ready := none }

/-- The next repetition of the current segment begins, with one repetition fewer left and the retries kept (R149). -/
def Audio.nextRepetition (a : Audio) (k : Fin 6) : Audio :=
  let a := a.clearPages k
  match a.players[k].walk with
  | none => a
  | some w =>
    (a.setWalk k (some { w with left := w.left - 1, toneSamples := 0 })).beginRepetition k

/-- The page count of a walk's current segment, if it is a CLIP (R140). -/
def Segment.pageCount? : Segment → Option Nat
  | .clip _ pages _ _ _ => some pages
  | _ => none

/-- A repetition of the player's segment can have run its length: a TONE or GAP sounds, the last page of a CLIP plays,
or a fallback plays (R149, R157). -/
def Audio.repeating (a : Audio) (w : Walk) : Bool :=
  match w.output with
  | .fallback => true
  | .segment =>
    match (a.segmentOf w).pageCount?, w.clip with
    | some pages, some c => c.position + 1 = pages
    | _, _ => w.current.isSome
  | _ => false

/-- A boundary reported and the walk carried on. The unit takes the boundary, the player walks on, and then the pool takes
what has come of both (R120, R149; log entry 13). -/
def State.walkOn (s : State) (k : Fin 6) (walk : Desk → Desk) : State :=
  s.onDesk fun v d =>
    let told := (d.mapAudio (Audio.boundary k)).close v
    let walked := walk told
    walked.settle v settleFuel told.audio.holding walked.audio.players[k].walk.isNone

/-- The player at END on a TEST feed: END_HOLD, with no current segment (R150). -/
def Audio.endHold (a : Audio) (k : Fin 6) : Audio :=
  let a := a.leaveEntry k
  match a.players[k].walk with
  | none => a
  | some w =>
    a.setWalk k (some { w with
      output := .endHold, current := none, left := 0, clip := none, generator := none, toneSamples := 0 })

/-- The END taken by the resolver: the test claims naming the program are withdrawn, with TEST_DONE when there was
one (R112). -/
def State.endTaken (s : State) (program : Fin 16) : State :=
  let named := fun z : Fin 48 => s.resolver.tests[z] = some program
  if (List.finRange 48).any named then
    let s := s.setTests (Vector.ofFn fun z => if named z then none else s.resolver.tests[z])
    (s.setNotices (s.notices.raiseTestDone program)).inputChange
  else s

/-- The player still holds its boundary back at END_HOLD; one that lost its program meanwhile reports none (R150). -/
def Audio.holdsEnd (a : Audio) (k : Fin 6) : Bool :=
  match a.players[k].walk with
  | some w => w.output = .endHold
  | none => false

/-- END on a TEST feed: the resolver takes the END, and the boundary held back follows (R150). -/
def State.testEnd (s : State) (k : Fin 6) (program : Fin 16) : State :=
  let s := (s.onAudio fun a => a.endHold k).endTaken program
  if s.audio.holdsEnd k then s.walkOn k fun d => d.passEnd k else s

/-- A repetition of a walk has ended (R149, R150). -/
def State.repetitionOver (s : State) (k : Fin 6) (w : Walk) : State :=
  if 1 < w.left then s.walkOn k fun d => d.mapAudio fun a => a.nextRepetition k
  else
    match (s.audio.segmentOf w).next with
    | .segment i => s.walkOn k fun d => d.enterSegment k i
    | .restart => s.walkOn k fun d => d.passEnd k
    | .finish => if s.audio.servesTest k then s.testEnd k w.program else s.walkOn k fun d => d.passEnd k

/-- REPETITION_END: a repetition of the player's segment has run its length. Of a player that is idle, waits for a page
or has pages left to play, none ends (R149). -/
def execRepetitionEnd (k : Fin 6) (s : State) : Host.Outcome State Fault Refusal :=
  match s.audio.players[k].walk with
  | some w => if s.audio.repeating w then .next (s.repetitionOver k w) else .next s
  | none => .next s

/-! ### The store port (R152, R154 to R158) -/

/-- The store port's grant of the first waiting request after the last player served (R155). -/
def Audio.grant (a : Audio) : Audio :=
  let st := a.store
  match st.fetch, firstAfter st.lastServed fun k => st.requests[k].isSome with
  | none, some k =>
    { a with
      store := { st with
        requests := st.requests.set k none
        fetch := some { player := k, page := st.requests[k].getD 0, wanted := true }
        lastServed := k } }
  | _, _ => a

/-- ARBITER_GRANT: a fetch begins when none is in flight and a request waits (R155). -/
def execArbiterGrant (s : State) : Host.Outcome State Fault Refusal :=
  .next (s.onAudio Audio.grant)

/-- The four bytes a fetch sends: the read instruction and the page's byte address (R155). -/
def Fetch.command (f : Fetch) : List Byte :=
  let address := f.page * 256
  [0x03#8, byte (address / 65536), byte (address / 256), byte address]

/-- The level of STO_SEL_N, `true` for high: low while a fetch is in flight (R155). -/
def Audio.storeSelN (a : Audio) : Bool :=
  a.store.fetch.isNone

/-- The 254 samples of a page of the store, in playing order (R152). -/
def pageSamples (page : Vector Byte 256) : Vector Byte 254 :=
  Vector.ofFn fun i => page[i.val]

/-- The check of a page of the store: its last two bytes, the high byte first (R152). -/
def pageCheck (page : Vector Byte 256) : BitVec 16 :=
  word2 page[254] page[255]

/-- A page whose check agrees with its samples (R152). -/
def pageGood (page : Vector Byte 256) : Bool :=
  crc (pageSamples page).toList = pageCheck page

/-- A page begins to play, and the request for the page after it is made (R154). -/
def Audio.playPage (a : Audio) (k : Fin 6) (w : Walk) (c : ClipWalk) (page : Vector Byte 254) : Audio :=
  let a := (a.setPlayer k { a.players[k] with playing := some page, ready := none }).setWalk k
    (some { w with output := .segment, clip := some c })
  match a.segmentOf w with
  | .clip start pages _ _ _ => if c.position + 1 < pages then a.request k (start + c.position + 1) else a
  | _ => a

/-- The tone of a fallback: from the highest rank among the current feeds the player delivers; `none` is silence (R157). -/
def Audio.fallbackTone (a : Audio) (k : Fin 6) : Option Pattern :=
  let ranks := (List.finRange 12).filterMap fun i =>
    if a.delivererOf a.amps[i].feed = some k then some a.amps[i].feed.rank else none
  match ranks.foldl Rank.max .none with
  | .evacuate => some .evacuatePattern
  | .alert => some .alertPattern
  | _ => none

/-- A fallback begins at the failed page, which the page position of `c` names, with its pattern from its beginning (R141,
R157; log entry 15). -/
def Audio.beginFallback (a : Audio) (k : Fin 6) (w : Walk) (c : ClipWalk) : Audio :=
  let pages := (a.segmentOf w).pageCount?.getD 0
  (a.clearPages k).setWalk k (some { w with
    output := .fallback, clip := some c, generator := (a.fallbackTone k).map Pattern.start
    toneSamples := (pages - c.position) * Config.pageSamples })

/-- The player's failed-segment count rises (R146, R157). -/
def Audio.countFailed (a : Audio) (k : Fin 6) : Audio :=
  a.setPlayer k { a.players[k] with failed := satSucc 255 a.players[k].failed }

/-- The player's underrun count rises (R146, R158). -/
def Audio.countUnderrun (a : Audio) (k : Fin 6) : Audio :=
  a.setPlayer k { a.players[k] with underruns := satSucc 255 a.players[k].underruns }

/-- A good page delivered: it plays at once where the player waits for it, and waits its turn where the page before it
plays (R154, R158). -/
def Audio.goodPage (a : Audio) (k : Fin 6) (w : Walk) (c : ClipWalk) (page : Vector Byte 254) : Audio :=
  match w.output with
  | .startWait | .underrun => a.playPage k w c page
  | .segment => a.setPlayer k { a.players[k] with ready := some page }
  | .fallback | .endHold => a

/-- A store error on a delivered page: a retry, or the rest of the repetition abandoned, with the fallback at once where no
page plays (R157). -/
def Audio.storeError (a : Audio) (k : Fin 6) (w : Walk) (c : ClipWalk) (page : Nat) : Audio :=
  if 0 < c.retries then
    (a.setWalk k (some { w with clip := some { c with retries := c.retries - 1 } })).request k page
  else
    let a := a.countFailed k
    match w.output with
    | .startWait | .underrun => a.beginFallback k w c
    | _ => a.setWalk k (some { w with clip := some { c with abandoned := true } })

/-- A page delivered to its player: it is checked, and played, kept or met with a retry or a fallback (R152, R156, R157). -/
def Audio.deliver (a : Audio) (f : Fetch) (page : Vector Byte 256) : Audio :=
  match a.players[f.player].walk with
  | none => a
  | some w =>
    match w.clip with
    | none => a
    | some c =>
      if pageGood page then a.goodPage f.player w c (pageSamples page) else a.storeError f.player w c f.page

/-- A fetch completes: its page is delivered if its player still awaits it, and dropped unchecked otherwise (R156). -/
def Audio.fetchDone (a : Audio) (page : Vector Byte 256) : Audio :=
  match a.store.fetch with
  | none => a
  | some f =>
    let a := { a with store := { a.store with fetch := none } }
    if f.wanted then a.deliver f page else a

/-- FETCH_COMPLETE: the fetch in flight ends with the 256 bytes of the page it clocked in, the 254 samples and then the two
bytes of the check; without one nothing ends (R152, R155, R156). -/
def execFetchComplete (samples : Vector Byte 254) (check : Vector Byte 2) (s : State) :
    Host.Outcome State Fault Refusal :=
  .next (s.onAudio fun a => a.fetchDone (samples ++ check))

/-- A page that is not the last of its repetition ends: the next page plays, or the fallback of an abandoned repetition
begins, or the player is in an underrun (R157, R158). -/
def Audio.pageOver (a : Audio) (k : Fin 6) (w : Walk) (c : ClipWalk) : Audio :=
  let next := { c with position := c.position + 1 }
  if c.abandoned then a.beginFallback k w next
  else
    match a.players[k].ready with
    | some page => a.playPage k w next page
    | none =>
      ((a.clearPages k).countUnderrun k).setWalk k (some { w with output := .underrun, clip := some next })

/-- The end of the page a player is playing, when it is not the last page of its repetition. -/
def Audio.pageEnd (a : Audio) (k : Fin 6) : Audio :=
  match a.players[k].walk with
  | none => a
  | some w =>
    match w.clip, (a.segmentOf w).pageCount? with
    | some c, some pages =>
      if w.output = .segment && a.players[k].playing.isSome && c.position + 1 < pages then a.pageOver k w c else a
    | _, _ => a

/-- PAGE_END: the page a player is playing ends before the last of its repetition; of a player that plays no such page
none ends (R157, R158). The end of the last page is the end of the repetition (R149). -/
def execPageEnd (k : Fin 6) (s : State) : Host.Outcome State Fault Refusal :=
  .next (s.onAudio fun a => a.pageEnd k)

/-! ### The PLAY pins (R140, R141, R146) -/

/-- What a PLAY line carries: silence, a tone pattern at the sample it stands at, or the samples of a page. -/
inductive Sound where
  | silence
  | tone (pattern : Pattern) (place : Nat)
  | page (samples : Vector Byte 254)
  deriving DecidableEq, Repr

/-- What a player's tone generator sounds as (R141). -/
def toneSound : Option Generator → Sound
  | some g => .tone g.pattern g.place
  | none => .silence

/-- What a player's sample stream carries now (R140, R141, R146, R157). -/
def Audio.playSound (a : Audio) (k : Fin 6) : Sound :=
  match a.players[k].walk with
  | none => .silence
  | some w =>
    match w.output with
    | .segment =>
      match a.segmentOf w with
      | .tone _ _ _ _ => toneSound w.generator
      | .clip _ _ _ _ _ =>
        match a.players[k].playing with
        | some samples => .page samples
        | none => .silence
      | _ => .silence
    | .fallback => toneSound w.generator
    | .startWait | .underrun | .endHold => .silence

/-- The length of a repetition in samples where it is fixed when it begins: that of a TONE or GAP (R140). -/
def Segment.samples? : Segment → Option Nat
  | .tone _ duration _ _ => some (duration * Config.tickSamples)
  | .gap duration _ _ => some (duration * Config.tickSamples)
  | _ => none

/-- The frequency in hertz that a pattern carries at a sample after its beginning, at 8 kHz; `none` is silence (R141). -/
def Pattern.frequencyAt (p : Pattern) (sample : Nat) : Option Nat :=
  match p with
  | .alertPattern => if sample % 16000 < 8000 then some 1000 else none
  | .evacuatePattern => some (if sample % 4000 < 2000 then 800 else 1000)
  | .chime =>
    if sample % 16000 < 4800 then some 660 else if sample % 16000 < 9600 then some 520 else none
  | .testTone => some 1000

/-- The frequency in hertz on a player's PLAY line now; `none` where no tone sounds (R141). -/
def Audio.playFrequency (a : Audio) (k : Fin 6) : Option Nat :=
  match a.playSound k with
  | .tone pattern place => pattern.frequencyAt place
  | .silence | .page _ => none

end Sys2Proof.Machine
end

