-- ==== Sys2Proof/Machine/Library.lean ====
section
/-! DEFINITION. The commands on segments, programs, the store and the players (08, 07). -/

namespace Sys2Proof.Machine

/-- The segment pool with one descriptor written (R142). -/
def Audio.setSegment (a : Audio) (i : Fin 128) (x : Segment) : Audio :=
  { a with segments := a.segments.set i x }

/-- The players whose current segment is an index, in ascending order (R142, R143). -/
def Audio.playersIn (a : Audio) (i : Fin 128) : List (Fin 6) :=
  (List.finRange 6).filter fun k =>
    match a.players[k].walk with
    | some w => w.current = some i
    | none => false

/-- SEGMENT_WRITE (R142). -/
def serveSegmentWrite (index : Byte) (raw : RawSegment) (s : State) : Served :=
  match index? 128 index.toNat, segment? raw with
  | some i, some x =>
    if (s.audio.playersIn i).isEmpty then accept [] (s.onAudio fun a => a.setSegment i x)
    else refuse .busy s
  | _, _ => refuse .outOfRange s

/-- A set of players as one byte, player j in bit j (R193). -/
def playerBitmap (players : List (Fin 6)) : Byte :=
  byte ((players.map fun k => 2 ^ k.val).sum)

/-- SEGMENT_READ (R143). -/
def serveSegmentRead (index : Byte) (s : State) : Served :=
  match index? 128 index.toNat with
  | some i => accept (s.audio.segments[i].bytes ++ [playerBitmap (s.audio.playersIn i)]) s
  | none => refuse .outOfRange s

/-- The directory with a program's head written and its BROKEN flag cleared (R145). -/
def Audio.setProgram (a : Audio) (p : Fin 16) (head : Option (Fin 128)) : Audio :=
  { a with programs := a.programs.set p { head := head, broken := false } }

/-- PROGRAM_SET: where the BROKEN flag was set, its clearing causes an allocation pass (R134, R145). -/
def serveProgramSet (program head : Byte) (s : State) : Served :=
  match index? 16 program.toNat, head? head with
  | some p, some h =>
    let broken := s.audio.programs[p].broken
    accept [] (s.onDesk fun v d =>
      let set := d.mapAudio fun a => a.setProgram p h
      if broken then set.settle v settleFuel d.audio.holding true else set)
  | _, _ => refuse .outOfRange s

/-- PROGRAM_READ (R144). -/
def serveProgramRead (program : Byte) (s : State) : Served :=
  match index? 16 program.toNat with
  | some p =>
    let x := s.audio.programs[p]
    accept [optByte (x.head.map Fin.val), flagByte x.broken, optByte ((s.audio.playerOf p).map Fin.val)] s
  | none => refuse .outOfRange s

/-- STORE_SET (R153). -/
def serveStoreSet (size : BitVec 24) (s : State) : Served :=
  match inRange? 1 65536 size.toNat with
  | some n => accept [] (s.onAudio fun a => { a with store := { a.store with size := n } })
  | none => refuse .outOfRange s

/-- The payload of PLAYER_STATUS: six player records and the counted demand list (R138). -/
def Audio.playerStatus (a : Audio) : List Byte :=
  (a.players.toList.map Player.bytes).flatten ++ [byte a.demand.length]
    ++ (a.demand.map a.demandBytes).flatten

/-- PLAYER_STATUS (R138). -/
def servePlayerStatus (s : State) : Served :=
  accept s.audio.playerStatus s

/-! ### The commands -/

def execSegmentWrite (index : Byte) (raw : RawSegment) (s : State) : Host.Outcome State Fault Refusal :=
  .next (s.takeRequest 0x60#8 (serveSegmentWrite index raw))

def execSegmentRead (index : Byte) (s : State) : Host.Outcome State Fault Refusal :=
  .next (s.takeRequest 0x61#8 (serveSegmentRead index))

def execProgramSet (program head : Byte) (s : State) : Host.Outcome State Fault Refusal :=
  .next (s.takeRequest 0x62#8 (serveProgramSet program head))

def execProgramRead (program : Byte) (s : State) : Host.Outcome State Fault Refusal :=
  .next (s.takeRequest 0x63#8 (serveProgramRead program))

def execStoreSet (size : BitVec 24) (s : State) : Host.Outcome State Fault Refusal :=
  .next (s.takeRequest 0x64#8 (serveStoreSet size))

def execPlayerStatus (s : State) : Host.Outcome State Fault Refusal :=
  .next (s.takeRequest 0x52#8 servePlayerStatus)

end Sys2Proof.Machine
end

