-- ==== Sys2Proof/Machine/Incidents.lean ====
section
/-! DEFINITION. The incident engine (03, 04): bound reports, detector accounting, the stages and their timers, retirement, and
how each event of the engine reaches the zone resolver. -/

namespace Sys2Proof.Machine

/-- A report together with the binding found for it (02). -/
structure BoundReport where
  loop : Fin 4
  address : Byte
  kind : AlarmKind
  binding : Binding
  deriving DecidableEq, Repr

/-! ### Reading a record -/

/-- The state a stage is reported as (R58). -/
def Stage.name : Stage → StageName
  | .watch => .watch
  | .confirming => .confirming
  | .investigating _ _ => .investigating
  | .phased _ => .phased
  | .general => .general
  | .silencedPhased _ => .silenced
  | .silencedGeneral => .silenced

/-- Timer remaining, where the stage has one (R58). -/
def Stage.timer : Stage → Option Nat
  | .investigating _ t => some t
  | .phased t => t
  | .silencedPhased t => t
  | _ => none

/-- Investigation phase, present in INVESTIGATING (R58). -/
def Stage.phase : Stage → Option Phase
  | .investigating p _ => some p
  | _ => none

/-- Silenced-from, present in SILENCED (R58). -/
def Stage.silencedFrom : Stage → Option StageName
  | .silencedPhased _ => some .phased
  | .silencedGeneral => some .general
  | _ => none

/-- PHASED or GENERAL, the stages that place claims (R58). -/
def Stage.claiming : Stage → Bool
  | .phased _ | .general => true
  | _ => false

/-- PHASED, GENERAL or SILENCED, the alarm stages that RESTART and a zone test are refused in (R109, R186). -/
def Stage.alarm : Stage → Bool
  | .phased _ | .general | .silencedPhased _ | .silencedGeneral => true
  | _ => false

/-- All-clear: every listed detector CLEAR and no unlisted active count (R46). -/
def Incident.allClear (i : Incident) : Bool :=
  i.detectors.all (fun d => d.last = .clear) && i.unlisted = 0

/-- The incident record's bytes (11, Record Payloads; R191). -/
def Incident.bytes (i : Incident) (handle : Nat) : List Byte :=
  let flags := (if i.stage.timer.isSome then 1 else 0) + (if i.acknowledged then 2 else 0)
    + (if i.allClear then 4 else 0)
  let phase := match i.stage.phase with
    | some p => p.code
    | none => absent
  let from' := match i.stage.silencedFrom with
    | some n => n.code
    | none => absent
  bytes2 handle
    ++ [byte i.zone, optByte i.floor, i.cls.code, i.rule.code, byte i.profile.val, i.stage.name.code, from',
        byte i.step, byte flags]
    ++ bytes2 (i.stage.timer.getD 0) ++ [phase, byte i.unlisted] ++ bytes4 i.openedAt ++ bytes4 i.changedAt
    ++ [byte i.detectors.length]
    ++ (i.detectors.map fun d => [byte d.loop.val, d.address, d.last.code] ++ bytes4 d.firstSeen).flatten

/-! ### Detector accounting (R44, R45) -/

/-- The last kind of a listed detector after a report: a PREALARM leaves ALARM as it is (R44). -/
def AlarmKind.after (old new : AlarmKind) : AlarmKind :=
  match old, new with
  | .alarm, .prealarm => .alarm
  | _, k => k

/-- The report comes from the detector of a list entry. -/
def Detector.sends (d : Detector) (r : BoundReport) : Bool :=
  d.loop = r.loop && d.address = r.address

/-- The unlisted active count after a report from a device the full list cannot take (R45). -/
def unlistedAfter (n : Nat) : AlarmKind → Nat
  | .clear => n - 1
  | _ => satSucc 255 n

/-- The first step of R43: a listed device updates its entry, another is appended while the list has room, and is
counted otherwise (R44, R45). -/
def Incident.account (now : Tick) (r : BoundReport) (i : Incident) : Incident :=
  if i.detectors.any fun d => d.sends r then
    { i with detectors := i.detectors.map fun d => if d.sends r then { d with last := d.last.after r.kind } else d }
  else if i.detectors.length < Config.detectorDepth then
    { i with
      detectors := i.detectors ++ [{ loop := r.loop, address := r.address, last := r.kind, firstSeen := now }] }
  else { i with unlisted := unlistedAfter i.unlisted r.kind }

/-! ### Stages (R58 to R75) -/

/-- The coverage test (R68), with F the building floor count. -/
def coverage (floors : Nat) (p : Profile) (floor : Option Nat) (step : Nat) : Bool :=
  (p.limit ≠ 0 && p.limit ≤ step) ||
    match floor with
    | some f => floors - 1 ≤ f + grownRadius floors p.up step && f ≤ grownRadius floors p.down step
    | none => false

/-- The step timer as an entry or a step loads it: absent when the step interval is 0 (R59, R66). -/
def Profile.stepTimer (p : Profile) : Option Nat :=
  if p.interval = 0 then none else some p.interval

/-- Entry to PHASED with its coverage test, which may carry the incident on to GENERAL (R66, R69). -/
def Incident.enterPhased (floors : Nat) (p : Profile) (i : Incident) : Incident :=
  { i with
    step := 0
    stage := if coverage floors p i.floor 0 then .general else .phased p.stepTimer }

/-- A class that is evacuated at once (R60, R62, R63). -/
def Cls.urgent : Cls → Bool
  | .callPoint | .sprinkler => true
  | .smoke | .heat => false

/-- At least two listed detectors stand in ALARM, or the unlisted active count is above 0 (R60, R62). -/
def Incident.confirmed (i : Incident) : Bool :=
  2 ≤ (i.detectors.filter fun d => d.last = .alarm).length || 0 < i.unlisted

/-- The report comes from the first entry of the detector list (R60, R63). -/
def Incident.fromFirst (i : Incident) (r : BoundReport) : Bool :=
  match i.detectors.head? with
  | some d => d.sends r
  | none => false

/-- The alarm entry test, line by line (R60), and the entry to INVESTIGATING (R63). -/
def Incident.entryTest (floors : Nat) (p : Profile) (autonomous : Bool) (r : BoundReport) (i : Incident) : Incident :=
  if i.cls.urgent || r.binding.cls.urgent then i.enterPhased floors p
  else
    match i.rule with
    | .single => i.enterPhased floors p
    | .coincident => if i.confirmed then i.enterPhased floors p else { i with stage := .confirming }
    | .delayed =>
      if !i.fromFirst r then i.enterPhased floors p
      else if p.ackWindow = 0 || autonomous then i.enterPhased floors p
      else { i with stage := .investigating .ackWindow p.ackWindow, acknowledged := false }

/-- The stage a silenced incident returns to (R72). -/
def Stage.resounded : Stage → Stage
  | .silencedPhased t => .phased t
  | .silencedGeneral => .general
  | st => st

/-- A report in INVESTIGATING: an ALARM from another device or of an urgent class enters PHASED (R63); a report that
ends all-clear resumes the timer, which expires at once if it holds 0 (R59, R65). -/
def Incident.investigationReport (floors : Nat) (p : Profile) (r : BoundReport) (wasClear : Bool) (timer : Nat)
    (i : Incident) : Incident :=
  if r.kind = .alarm && (!i.fromFirst r || r.binding.cls.urgent) then i.enterPhased floors p
  else if wasClear && !i.allClear && timer = 0 then i.enterPhased floors p
  else i

/-- The second step of R43: the stage machine takes a report, with the detector fields as the first step left them. -/
def Incident.stageReport (floors : Nat) (p : Profile) (autonomous : Bool) (r : BoundReport) (wasClear : Bool)
    (i : Incident) : Incident :=
  match i.stage, r.kind with
  | .watch, .alarm => i.entryTest floors p autonomous r
  | .confirming, .alarm => if r.binding.cls.urgent || i.confirmed then i.enterPhased floors p else i
  | .investigating _ t, _ => i.investigationReport floors p r wasClear t
  | .silencedPhased _, .alarm => { i with stage := i.stage.resounded }
  | .silencedGeneral, .alarm => { i with stage := i.stage.resounded }
  | _, _ => i

/-- An incident in WATCH or CONFIRMING that is all-clear retires on its own (R43, R49). -/
def Incident.selfRetires (i : Incident) : Bool :=
  match i.stage with
  | .watch | .confirming => i.allClear
  | _ => false

/-! ### The table (R36 to R43, R48) -/

/-- A slot's content written. -/
def Engine.setSlot (e : Engine) (slot : Fin 32) (x : Slot) : Engine :=
  { e with slots := e.slots.set slot x }

/-- A slot joins the changed-incident set (R53). -/
def Engine.join (e : Engine) (slot : Fin 32) : Engine :=
  { e with changed := addMember slot e.changed }

/-- A record after an event. A record whose fields changed takes the running tick count as changed-at and its slot
joins the changed-incident set; an unchanged one is left (R38, R53). -/
def Engine.put (e : Engine) (now : Tick) (slot : Fin 32) (old new : Incident) : Engine :=
  if new = old then e
  else
    (e.setSlot slot { e.slots[slot] with incident := some { new with changedAt := now } }).join slot

/-- Retirement: the slot is freed with its generation kept, it leaves the age list and joins the changed-incident
set (R48). -/
def Engine.retire (e : Engine) (slot : Fin 32) : Engine :=
  let e := e.setSlot slot { e.slots[slot] with incident := none }
  ({ e with ages := e.ages.filter fun k => k ≠ slot }).join slot

/-- The slot of the live incident of a detection zone (R41). -/
def Engine.findZone (e : Engine) (zone : Nat) : Option (Fin 32) :=
  (List.finRange 32).find? fun k => e.slots[k].incident.any fun i => i.zone = zone

/-- The lowest-numbered FREE slot (R42). -/
def Engine.freeSlot (e : Engine) : Option (Fin 32) :=
  (List.finRange 32).find? fun k => e.slots[k].incident.isNone

/-- The record of a new incident before its stage is chosen (R42). -/
def newIncident (now : Tick) (r : BoundReport) : Incident :=
  { zone := r.binding.zone, floor := r.binding.floor, cls := r.binding.cls, rule := r.binding.rule
    profile := r.binding.profile, stage := .watch, step := 0, acknowledged := false
    detectors := [{ loop := r.loop, address := r.address, last := r.kind, firstSeen := now }]
    unlisted := 0, openedAt := now, changedAt := now }

/-- Creation in a FREE slot: WATCH for a PREALARM, the alarm entry test for an ALARM (R36, R40, R42, R60). -/
def Engine.create (e : Engine) (now : Tick) (autonomous : Bool) (r : BoundReport) (slot : Fin 32) : Engine :=
  let i := newIncident now r
  let i := if r.kind = .alarm then i.entryTest e.floors e.profiles[i.profile] autonomous r else i
  let e := e.setSlot slot { generation := e.slots[slot].generation + 1, incident := some i }
  ({ e with ages := e.ages ++ [slot] }).join slot

/-- A bound report applied to the live incident of its zone, in the three steps of R43. -/
def Engine.applyReport (e : Engine) (now : Tick) (autonomous : Bool) (r : BoundReport) (slot : Fin 32)
    (old : Incident) : Engine :=
  let counted := old.account now r
  let i := counted.stageReport e.floors e.profiles[old.profile] autonomous r old.allClear
  if i.selfRetires then e.retire slot else e.put now slot old i

/-- The bound report meets a full table with an ALARM: SATURATION is raised (R41, R47). -/
def Engine.saturates (e : Engine) (r : BoundReport) : Bool :=
  r.kind = .alarm && (e.findZone r.binding.zone).isNone && e.freeSlot.isNone

/-- A bound report taken by the engine (R41). -/
def Engine.takeReport (e : Engine) (now : Tick) (autonomous : Bool) (r : BoundReport) : Engine :=
  match e.findZone r.binding.zone with
  | some slot =>
    match e.slots[slot].incident with
    | some i => e.applyReport now autonomous r slot i
    | none => e
  | none =>
    match r.kind, e.freeSlot with
    | .clear, _ => e
    | _, some slot => e.create now autonomous r slot
    | .alarm, none => { e with saturated := true }
    | .prealarm, none => e

/-! ### What leaves the engine (R54, R76, R111) -/

/-- What of a slot the resolver reads a change in: whether it is live, its state and its step count (R54). -/
def Engine.slotKey (e : Engine) (slot : Fin 32) : Option (StageName × Nat) :=
  e.slots[slot].incident.map fun i => (i.stage.name, i.step)

/-- The event made a change the resolver is told of: a creation, a retirement, a change of state, of step count, or of
the saturation flag (R54). -/
def Engine.tells (e e' : Engine) : Bool :=
  (List.finRange 32).any (fun k => e.slotKey k ≠ e'.slotKey k) || e.saturated ≠ e'.saturated

/-- An incident stands in PHASED or GENERAL that did not stand there before, other than by a return from SILENCED (R111). -/
def Engine.entered (e e' : Engine) : Bool :=
  (List.finRange 32).any fun k =>
    e'.slots[k].incident.any (fun i => i.stage.claiming) && !e.slots[k].incident.any (fun i => i.stage.alarm)

/-- An event of the engine handed on once it has run to its end (R76): the resolver takes it as an input change when it is
told (R54, R96), and then withdraws the test claims when R111 says so. -/
def State.engineEvent (s : State) (e : Engine) : State :=
  let t := s.setEngine e
  if s.engine.tells e then
    let t := t.inputChange
    if s.engine.entered e || e.saturated then t.withdrawTests else t
  else t

/-- A bound report handed to the incident engine (R41 to R43, R47). -/
def State.boundReport (s : State) (r : BoundReport) : State :=
  let t := if s.engine.saturates r then s.setNotices s.notices.raiseSaturation else s
  t.engineEvent (s.engine.takeReport s.now s.autonomous r)

/-- One incident changed by a command, a timer or the mode change. -/
def State.changeIncident (s : State) (slot : Fin 32) (old new : Incident) : State :=
  s.engineEvent (s.engine.put s.now slot old new)

/-! ### Timers (R59, R64, R67, R75) -/

/-- A step: the step count rises by one and the coverage test is made; then GENERAL, a fresh step timer, or, at the
highest step count, no timer (R67). -/
def Incident.takeStep (floors : Nat) (p : Profile) (i : Incident) : Incident :=
  let step := satSucc Config.maxStep i.step
  { i with
    step := step
    stage :=
      if coverage floors p i.floor step then .general
      else if step < Config.maxStep then .phased p.stepTimer
      else .phased none }

/-- The entry into AUTONOMOUS mode: every INVESTIGATING incident enters PHASED, in age list order (R75). -/
def Engine.autonomousEntry (e : Engine) (now : Tick) : Engine :=
  e.ages.foldl
    (fun e slot =>
      match e.slots[slot].incident with
      | some i =>
        match i.stage with
        | .investigating _ _ => e.put now slot i (i.enterPhased e.floors e.profiles[i.profile])
        | _ => e
      | none => e) e

/-- INVESTIGATION_TIMER_EXPIRY: the timer of an INVESTIGATING incident has run to 0 while it ran, and takes it to
PHASED (R64). An expiry that finds another stage, a reloaded timer or a paused one does not happen (R64, R65). -/
def execInvestigationTimerExpiry (slot : Fin 32) (s : State) : Host.Outcome State Fault Refusal :=
  match s.engine.slots[slot].incident with
  | some i =>
    match i.stage with
    | .investigating _ 0 =>
      if i.allClear then .next s
      else .next (s.changeIncident slot i (i.enterPhased s.engine.floors s.engine.profiles[i.profile]))
    | _ => .next s
  | none => .next s

/-- STEP_TIMER_EXPIRY: the step timer of a PHASED incident has run to 0 and takes one step (R67). An expiry that finds
another stage or a timer with ticks left does not happen (R59, R67). -/
def execStepTimerExpiry (slot : Fin 32) (s : State) : Host.Outcome State Fault Refusal :=
  match s.engine.slots[slot].incident with
  | some i =>
    match i.stage with
    | .phased (some 0) =>
      .next (s.changeIncident slot i (i.takeStep s.engine.floors s.engine.profiles[i.profile]))
    | _ => .next s
  | none => .next s

/-! ### Commands that carry a handle (R37) -/

/-- The slot a handle names (R37). -/
def handleSlot (handle : BitVec 16) : Fin 32 :=
  ⟨handle.toNat % 32, by omega⟩

/-- The handle check, before anything else a command does (R37). -/
def State.withHandle (s : State) (handle : BitVec 16) (f : Fin 32 → Incident → Served) : Served :=
  if Config.maxHandle < handle.toNat then refuse .outOfRange s
  else
    let slot := handleSlot handle
    match s.engine.slots[slot].incident with
    | some i => if s.engine.slots[slot].generation.toNat = handle.toNat / 32 then f slot i else refuse .stale s
    | none => refuse .stale s

/-- A stage command carried out: the record changes and the response carries its state after the command (04, Commands on
Stages). -/
def State.stageCommand (s : State) (slot : Fin 32) (old new : Incident) : Served :=
  accept [new.stage.name.code] (s.changeIncident slot old new)

/-- The record after INCIDENT_ACK: the flag is set; in ACK_WINDOW the phase becomes INVESTIGATE with the investigate
time loaded, which expires at once when it is 0 and the timer runs (R64, R70). -/
def Incident.acknowledge (floors : Nat) (p : Profile) (i : Incident) : Incident :=
  let i := { i with acknowledged := true }
  match i.stage with
  | .investigating .ackWindow _ =>
    if p.investigate = 0 && !i.allClear then i.enterPhased floors p
    else { i with stage := .investigating .investigate p.investigate }
  | _ => i

/-- INCIDENT_ACK (R70). -/
def serveIncidentAck (handle : BitVec 16) (s : State) : Served :=
  s.withHandle handle fun slot i =>
    s.stageCommand slot i (i.acknowledge s.engine.floors s.engine.profiles[i.profile])

/-- INCIDENT_SILENCE (R71). -/
def serveIncidentSilence (handle : BitVec 16) (s : State) : Served :=
  s.withHandle handle fun slot i =>
    match i.stage with
    | .phased t => s.stageCommand slot i { i with stage := .silencedPhased t }
    | .general => s.stageCommand slot i { i with stage := .silencedGeneral }
    | _ => refuse .refusedState s

/-- INCIDENT_RESOUND (R72). -/
def serveIncidentResound (handle : BitVec 16) (s : State) : Served :=
  s.withHandle handle fun slot i =>
    match i.stage with
    | .silencedPhased t => s.stageCommand slot i { i with stage := .phased t }
    | .silencedGeneral => s.stageCommand slot i { i with stage := .general }
    | _ => refuse .refusedState s

/-- INCIDENT_GENERAL (R69, R74). -/
def serveIncidentGeneral (handle : BitVec 16) (s : State) : Served :=
  s.withHandle handle fun slot i =>
    match i.stage with
    | .general => refuse .refusedState s
    | _ => s.stageCommand slot i { i with stage := .general }

/-- INCIDENT_RESET (R50). -/
def serveIncidentReset (handle : BitVec 16) (force : Byte) (s : State) : Served :=
  s.withHandle handle fun slot i =>
    match yesNo? force with
    | none => refuse .outOfRange s
    | some f =>
      if (i.detectors.all fun d => d.last = .clear) && (i.unlisted = 0 || f) then
        accept [] (s.engineEvent (s.engine.retire slot))
      else refuse .stillActive s

/-- INCIDENT_READ (R52). -/
def serveIncidentRead (handle : BitVec 16) (s : State) : Served :=
  s.withHandle handle fun slot i => accept (i.bytes (s.engine.handle slot)) s

/-- INCIDENT_LIST (R51). -/
def serveIncidentList (s : State) : Served :=
  accept ([flagByte s.engine.saturated, byte s.engine.ages.length]
    ++ (s.engine.ages.map fun slot => bytes2 (s.engine.handle slot)).flatten) s

/-- SATURATION_CLEAR (R47). -/
def serveSaturationClear (s : State) : Served :=
  accept [] (s.engineEvent { s.engine with saturated := false })

/-! ### Profiles and the building (R55, R56) -/

/-- A live incident carries the profile (R55). -/
def Engine.profileUsed (e : Engine) (n : Fin 16) : Bool :=
  e.slots.any fun x => x.incident.any fun i => i.profile = n

/-- PROFILE_WRITE (R55). -/
def serveProfileWrite (number : Byte) (raw : RawProfile) (s : State) : Served :=
  match index? 16 number.toNat, profile? raw with
  | some n, some p =>
    if s.engine.profileUsed n || (n = 15 && s.engine.saturated) then refuse .busy s
    else accept [] (s.setEngine { s.engine with profiles := s.engine.profiles.set n p })
  | _, _ => refuse .outOfRange s

/-- PROFILE_READ (R55). -/
def serveProfileRead (number : Byte) (s : State) : Served :=
  match index? 16 number.toNat with
  | some n => accept s.engine.profiles[n].bytes s
  | none => refuse .outOfRange s

/-- An incident is live, in any state (R56). -/
def Engine.live (e : Engine) : Bool :=
  e.slots.any fun x => x.incident.isSome

/-- An incident is PHASED, GENERAL or SILENCED, or the saturation flag is set (R109, R186). -/
def Engine.alarmActive (e : Engine) : Bool :=
  (e.slots.any fun x => x.incident.any fun i => i.stage.alarm) || e.saturated

/-- A valid map entry or a used zone reaches floor F or above (R56). -/
def State.reachesFloor (s : State) (floors : Nat) : Bool :=
  (s.map.entries.any fun e => e.valid && floors ≤ e.floor)
    || (s.resolver.configs.any fun z => z.kind ≠ .unused && floors ≤ z.high)

/-- BUILDING_SET (R56). -/
def serveBuildingSet (floors : Byte) (s : State) : Served :=
  if floors.toNat < 1 || 80 < floors.toNat then refuse .outOfRange s
  else if s.engine.live then refuse .alarmActive s
  else if s.reachesFloor floors.toNat then refuse .outOfRange s
  else accept [] (s.setEngine { s.engine with floors := floors.toNat })

/-! ### The commands -/

def execIncidentList (s : State) : Host.Outcome State Fault Refusal :=
  .next (s.takeRequest 0x30#8 serveIncidentList)

def execIncidentRead (handle : BitVec 16) (s : State) : Host.Outcome State Fault Refusal :=
  .next (s.takeRequest 0x31#8 (serveIncidentRead handle))

def execIncidentAck (handle : BitVec 16) (s : State) : Host.Outcome State Fault Refusal :=
  .next (s.takeRequest 0x32#8 (serveIncidentAck handle))

def execIncidentSilence (handle : BitVec 16) (s : State) : Host.Outcome State Fault Refusal :=
  .next (s.takeRequest 0x33#8 (serveIncidentSilence handle))

def execIncidentResound (handle : BitVec 16) (s : State) : Host.Outcome State Fault Refusal :=
  .next (s.takeRequest 0x34#8 (serveIncidentResound handle))

def execIncidentGeneral (handle : BitVec 16) (s : State) : Host.Outcome State Fault Refusal :=
  .next (s.takeRequest 0x35#8 (serveIncidentGeneral handle))

def execIncidentReset (handle : BitVec 16) (force : Byte) (s : State) : Host.Outcome State Fault Refusal :=
  .next (s.takeRequest 0x36#8 (serveIncidentReset handle force))

def execSaturationClear (s : State) : Host.Outcome State Fault Refusal :=
  .next (s.takeRequest 0x37#8 serveSaturationClear)

def execProfileWrite (number : Byte) (raw : RawProfile) (s : State) : Host.Outcome State Fault Refusal :=
  .next (s.takeRequest 0x38#8 (serveProfileWrite number raw))

def execProfileRead (number : Byte) (s : State) : Host.Outcome State Fault Refusal :=
  .next (s.takeRequest 0x39#8 (serveProfileRead number))

def execBuildingSet (floors : Byte) (s : State) : Host.Outcome State Fault Refusal :=
  .next (s.takeRequest 0x3A#8 (serveBuildingSet floors))

end Sys2Proof.Machine
end

