-- ==== Sys2Proof/Machine/CauseMap.lean ====
section
/-! DEFINITION. The cause map (02): entries and their matching, the checks on writes, the cursor, the lookup of a taken report,
and the miss list with its resolution paths. -/

namespace Sys2Proof.Machine

/-- The state with its cause map changed. -/
def State.onMap (s : State) (f : CauseMap → CauseMap) : State :=
  s.setMap (f s.map)

/-! ### Matching and the checks on writes (R18 to R20) -/

/-- A valid entry matches a loop and an address (R18). -/
def MapEntry.covers (e : MapEntry) (loop : Fin 4) (address : Nat) : Bool :=
  e.valid && (e.selector = none || e.selector = some loop) && e.base ≤ address && address ≤ e.base + e.span - 1

/-- The binding an entry supplies (02). -/
def MapEntry.binding (e : MapEntry) : Binding :=
  { zone := e.zone, floor := some e.floor, cls := e.cls, rule := e.rule, profile := e.profile }

/-- The index of the entry that matches a device (R18, R24). -/
def CauseMap.lookup (m : CauseMap) (loop : Fin 4) (address : Nat) : Option (Fin 96) :=
  (List.finRange 96).find? fun i => m.entries[i].covers loop address

/-- Two entries collide: their selectors can name one loop and their blocks share an address (R19). -/
def MapEntry.collides (e x : MapEntry) : Bool :=
  (e.selector = x.selector || e.selector = none || x.selector = none)
    && e.base ≤ x.base + x.span - 1 && x.base ≤ e.base + e.span - 1

/-- The entry collides with a valid entry at another index (R19). -/
def CauseMap.overlaps (m : CauseMap) (index : Fin 96) (e : MapEntry) : Bool :=
  (List.finRange 96).any fun i => i ≠ index && m.entries[i].valid && m.entries[i].collides e

/-- A valid entry at another index names the same detection zone with another floor or profile (R20). -/
def CauseMap.conflicts (m : CauseMap) (index : Fin 96) (e : MapEntry) : Bool :=
  (List.finRange 96).any fun i =>
    i ≠ index && m.entries[i].valid && m.entries[i].zone = e.zone
      && (m.entries[i].floor ≠ e.floor || m.entries[i].profile ≠ e.profile)

/-- The replacement cursor one index down, wrapping from W to 95 (R21). -/
def CauseMap.moveCursor (m : CauseMap) : CauseMap :=
  { m with cursor := if m.cursor.val ≤ m.wired.val then 95 else ⟨m.cursor.val - 1, by omega⟩ }

/-! ### Resolution of miss list entries (R26, R31) -/

/-- The default binding as it now stands (R26). -/
def CauseMap.defaultBinding (m : CauseMap) : Binding :=
  { zone := 0, floor := none, cls := m.defaultCls, rule := m.defaultRule, profile := 15 }

/-- The entry for a device (R27). -/
def Miss.isFor (x : Miss) (loop : Fin 4) (address : Byte) : Bool :=
  x.loop = loop && x.address = address

/-- The one or two bound reports of a resolved entry: the first kind, then the last kind where it differs (R31). -/
def Miss.reports (x : Miss) (b : Binding) : List BoundReport :=
  { loop := x.loop, address := x.address, kind := x.first, binding := b } ::
    if x.last = x.first then [] else [{ loop := x.loop, address := x.address, kind := x.last, binding := b }]

/-- Bound reports handed to the incident engine one after another (03, Taking a Bound Report). -/
def State.boundReports (s : State) (rs : List BoundReport) : State :=
  rs.foldl State.boundReport s

/-- The miss list entries that satisfy `p` leave the list and resolve under a binding, in list order (R31). -/
def State.resolveMisses (s : State) (p : Miss → Bool) (b : Binding) : State :=
  let resolved := s.map.misses.filter p
  (s.onMap fun m => { m with misses := m.misses.filter fun x => !p x }).boundReports
    (resolved.flatMap fun x => x.reports b)

/-- The flush on entry to AUTONOMOUS mode (R34). -/
def State.flushMisses (s : State) : State :=
  s.resolveMisses (fun _ => true) s.map.defaultBinding

/-! ### The take of a report (R10, R27 to R30) -/

/-- A pending entry takes in a report's kind (R29). -/
def CauseMap.merge (m : CauseMap) (r : Report) : CauseMap :=
  { m with misses := m.misses.map fun x => if x.isFor r.loop r.address then { x with last := r.kind } else x }

/-- A new miss: an entry at the end of the list with BINDING_MISS (R28), or, at a full list, the default binding at
once with BINDING_MISS (R30). -/
def State.newMiss (s : State) (r : Report) : State :=
  let s := s.setNotices s.notices.raiseBindingMiss
  if s.map.misses.length < Config.missDepth then
    s.onMap fun m =>
      { m with
        misses := m.misses ++ [{ loop := r.loop, address := r.address, first := r.kind, last := r.kind,
                                 deadline := m.deadline }] }
  else
    s.boundReport { loop := r.loop, address := r.address, kind := r.kind, binding := s.map.defaultBinding }

/-- The lookup of a taken report: pending, hit, autonomous or miss, the first that applies (R27). -/
def State.lookupReport (s : State) (r : Report) : State :=
  if s.map.misses.any fun x => x.isFor r.loop r.address then s.onMap fun m => m.merge r
  else
    match s.map.lookup r.loop r.address.toNat with
    | some i =>
      s.boundReport { loop := r.loop, address := r.address, kind := r.kind, binding := s.map.entries[i].binding }
    | none =>
      if s.autonomous then
        s.boundReport { loop := r.loop, address := r.address, kind := r.kind, binding := s.map.defaultBinding }
      else s.newMiss r

/-- 3 ms have passed since the last take began, or there was none (R10). -/
def CauseMap.takeDue (m : CauseMap) (moment : Nat) : Bool :=
  match m.lastTake with
  | some t => t + Config.takeNs ≤ moment
  | none => true

/-- The loop whose turn it is: the first after the last loop taken whose buffer holds a report (R10). -/
def State.takeLoop (s : State) : Option (Fin 4) :=
  firstAfter s.map.lastLoop fun l => !s.loops[l].buffer.isEmpty

/-- A take of a loop's oldest report: it leaves its buffer, the cursor moves, and its fate is decided (R10, R21, R27). -/
def State.takeFrom (s : State) (moment : Nat) (l : Fin 4) : State :=
  match s.loops[l].buffer with
  | [] => s
  | r :: rest =>
    let s := s.setLoops (s.loops.set l { s.loops[l] with buffer := rest })
    (s.onMap fun m => { m.moveCursor with lastLoop := l, lastTake := some moment }).lookupReport r

/-- REPORT_TAKE: the take that begins at a moment, when 3 ms have passed and a buffer holds a report; otherwise none
begins (R10, R27). -/
def execReportTake (moment : Nat) (s : State) : Host.Outcome State Fault Refusal :=
  match s.map.takeDue moment, s.takeLoop with
  | true, some l => .next (s.takeFrom moment l)
  | _, _ => .next s

/-- DEADLINE_EXPIRY: a device's entry whose deadline has reached 0 resolves under the default binding. Where no such
entry stands the expiry does not happen (R32). -/
def execDeadlineExpiry (loop : Fin 4) (address : Byte) (s : State) : Host.Outcome State Fault Refusal :=
  .next (s.resolveMisses (fun x => x.isFor loop address && x.deadline = 0) s.map.defaultBinding)

/-! ### Map commands (R22 to R25, R33) -/

/-- The entry stored at an index, and the miss list entries it matches resolved under it. Answers how many, with the
state (R22, R31). -/
def State.storeEntry (s : State) (index : Fin 96) (e : MapEntry) (place : Bool) : Nat × State :=
  let n := (s.map.misses.filter fun x => e.covers x.loop x.address.toNat).length
  let s := s.onMap fun m =>
    let m := { m with entries := m.entries.set index e }
    if place then m.moveCursor else m
  (n, s.resolveMisses (fun x => e.covers x.loop x.address.toNat) e.binding)

/-- The checks on a write in their order, then the write (R17, R19, R20). `place` moves the cursor (R23). -/
def State.writeEntry (s : State) (index : Option (Fin 96)) (raw : RawEntry) (place : Bool) : Served :=
  match index, entry? s.engine.floors raw with
  | some i, some e =>
    if s.map.overlaps i e then refuse .overlap s
    else if s.map.conflicts i e then refuse .conflict s
    else
      let out := s.storeEntry i e place
      accept ((if place then [byte i.val] else []) ++ [byte out.1]) out.2
  | _, _ => refuse .outOfRange s

/-- MAP_WRITE (R22). -/
def serveMapWrite (index : Byte) (raw : RawEntry) (s : State) : Served :=
  s.writeEntry (index? 96 index.toNat) raw false

/-- MAP_PLACE (R23). -/
def serveMapPlace (raw : RawEntry) (s : State) : Served :=
  s.writeEntry (some s.map.cursor) raw true

/-- MAP_READ (R24). -/
def serveMapRead (index : Byte) (s : State) : Served :=
  match index? 96 index.toNat with
  | some i =>
    let e := s.map.entries[i]
    accept ([flagByte e.valid, flagByte (i.val < s.map.wired.val)] ++ e.bytes) s
  | none => refuse .outOfRange s

/-- MAP_PROBE (R24). -/
def serveMapProbe (loop address : Byte) (s : State) : Served :=
  match index? 4 loop.toNat, deviceAddress? address with
  | some l, some a => accept [optByte ((s.map.lookup l a.toNat).map Fin.val)] s
  | _, _ => refuse .outOfRange s

/-- MAP_REMOVE (R25). -/
def serveMapRemove (index : Byte) (s : State) : Served :=
  match index? 96 index.toNat with
  | some i =>
    accept [] (s.onMap fun m => { m with entries := m.entries.set i { m.entries[i] with valid := false } })
  | none => refuse .outOfRange s

/-- MAP_SET_WIRED (R25). -/
def serveMapSetWired (count : Byte) (s : State) : Served :=
  match index? 96 count.toNat with
  | some n => accept [] (s.onMap fun m => { m with wired := n, cursor := 95 })
  | none => refuse .outOfRange s

/-- MAP_SET_DEFAULT (R25). -/
def serveMapSetDefault (cls rule deadline : Byte) (s : State) : Served :=
  match cls? cls, rule? rule, inRange? 5 100 deadline.toNat with
  | some c, some r, some d =>
    accept [] (s.onMap fun m => { m with defaultCls := c, defaultRule := r, deadline := d })
  | _, _, _ => refuse .outOfRange s

/-- The number of valid entries (R25). -/
def CauseMap.validCount (m : CauseMap) : Nat :=
  (m.entries.toList.filter fun e => e.valid).length

/-- MAP_STATUS (R25). -/
def serveMapStatus (s : State) : Served :=
  let m := s.map
  accept [byte m.wired.val, byte m.cursor.val, byte m.validCount, byte m.misses.length, m.defaultCls.code,
    m.defaultRule.code, byte m.deadline] s

/-- MISS_LIST (R33). -/
def serveMissList (s : State) : Served :=
  accept (byte s.map.misses.length :: (s.map.misses.map Miss.bytes).flatten) s

/-- MISS_DEFAULT (R33). -/
def serveMissDefault (loop address : Byte) (s : State) : Served :=
  match index? 4 loop.toNat, deviceAddress? address with
  | some l, some a =>
    if s.map.misses.any fun x => x.isFor l a then
      accept [] (s.resolveMisses (fun x => x.isFor l a) s.map.defaultBinding)
    else refuse .notFound s
  | _, _ => refuse .outOfRange s

/-! ### The commands -/

def execMapWrite (index : Byte) (raw : RawEntry) (s : State) : Host.Outcome State Fault Refusal :=
  .next (s.takeRequest 0x20#8 (serveMapWrite index raw))

def execMapPlace (raw : RawEntry) (s : State) : Host.Outcome State Fault Refusal :=
  .next (s.takeRequest 0x21#8 (serveMapPlace raw))

def execMapRead (index : Byte) (s : State) : Host.Outcome State Fault Refusal :=
  .next (s.takeRequest 0x22#8 (serveMapRead index))

def execMapProbe (loop address : Byte) (s : State) : Host.Outcome State Fault Refusal :=
  .next (s.takeRequest 0x23#8 (serveMapProbe loop address))

def execMapRemove (index : Byte) (s : State) : Host.Outcome State Fault Refusal :=
  .next (s.takeRequest 0x24#8 (serveMapRemove index))

def execMapSetWired (count : Byte) (s : State) : Host.Outcome State Fault Refusal :=
  .next (s.takeRequest 0x25#8 (serveMapSetWired count))

def execMapSetDefault (cls rule deadline : Byte) (s : State) : Host.Outcome State Fault Refusal :=
  .next (s.takeRequest 0x26#8 (serveMapSetDefault cls rule deadline))

def execMapStatus (s : State) : Host.Outcome State Fault Refusal :=
  .next (s.takeRequest 0x27#8 serveMapStatus)

def execMissList (s : State) : Host.Outcome State Fault Refusal :=
  .next (s.takeRequest 0x28#8 serveMissList)

def execMissDefault (loop address : Byte) (s : State) : Host.Outcome State Fault Refusal :=
  .next (s.takeRequest 0x29#8 (serveMissDefault loop address))

end Sys2Proof.Machine
end

