-- ==== Sys2Proof/Machine/Loops.lean ====
section
/-! DEFINITION. The loop receivers (01): bit cells to characters, characters to reports, the report buffer, silence
supervision, and the loop commands. -/

namespace Sys2Proof.Machine

/-- The state with one receiver replaced. -/
def State.setLoop (s : State) (l : Fin 4) (r : Receiver) : State :=
  s.setLoops (s.loops.set l r)

/-! ### Characters (R1) -/

/-- What a cell decides: the majority of its three samples (R1). -/
def cellValue (c : Cell) : Bool :=
  (c.first && c.second) || (c.first && c.third) || (c.second && c.third)

/-- The three samples of a cell agree (R1). -/
def cellAgrees (c : Cell) : Bool :=
  c.first = c.second && c.second = c.third

/-- The eight data bits, least significant first (11, Loop Report Characters). -/
def charData (c : LineChar) : Byte :=
  byte ((List.finRange 8).map fun j => if cellValue c.data[j] then 2 ^ j.val else 0).sum

/-- In at least one cell the samples do not all agree (R1). -/
def charNoisy (c : LineChar) : Bool :=
  !(cellAgrees c.start && c.data.all cellAgrees && cellAgrees c.mark && cellAgrees c.stop)

/-- The four ways a character ends (R1). -/
inductive CharOutcome where
  | glitch
  | framingError
  | character (data : Byte) (mark noisy : Bool)
  deriving DecidableEq, Repr

/-- How a character ends (R1). -/
def charOutcome (c : LineChar) : CharOutcome :=
  if cellValue c.start then .glitch
  else if !cellValue c.stop then .framingError
  else .character (charData c) (cellValue c.mark) (charNoisy c)

/-! ### Reports (R2, R5) -/

/-- The six kinds of a report (R2). -/
inductive ReportKind where
  | buffered (kind : AlarmKind)
  | trouble (kind : TroubleKind)
  | cycleEnd
  deriving DecidableEq, Repr

/-- The kind a kind character carries, if it is one of the six codes (R2). -/
def reportKind? (b : Byte) : Option ReportKind :=
  match b.toNat with
  | 0x01 => some (.buffered .alarm)
  | 0x02 => some (.buffered .prealarm)
  | 0x03 => some (.buffered .clear)
  | 0x04 => some (.trouble .fault)
  | 0x05 => some (.trouble .removed)
  | 0x0F => some .cycleEnd
  | _ => none

/-- The check character of a report: 255 minus the sum of the other three modulo 256 (R2, R5). -/
def reportCheck (address kind value : Byte) : Byte :=
  255#8 - (address + kind + value)

/-- What the completion checks make of a report (R5). -/
inductive Judgement where
  | badCheck
  | badProtocol
  | valid (address : Byte) (kind : ReportKind) (value : Byte)
  deriving DecidableEq, Repr

/-- The address suits the kind (R5, third check). -/
def addressSuits (address : Byte) : ReportKind → Bool
  | .cycleEnd => address = 0
  | _ => 1 ≤ address.toNat && address.toNat ≤ 250

/-- The three completion checks in their order (R5). -/
def judgeReport (address kind value check : Byte) : Judgement :=
  if check ≠ reportCheck address kind value then .badCheck
  else
    match reportKind? kind with
    | none => .badProtocol
    | some k => if addressSuits address k then .valid address k value else .badProtocol

/-! ### Supervision, buffer and routing (R7 to R12) -/

/-- The protocol count rises (R6). -/
def Receiver.countProtocol (r : Receiver) : Receiver :=
  { r with protocol := satSucc 255 r.protocol }

/-- The silence supervision restarted by a valid report: LIVE with the timer loaded (R12). -/
def Receiver.heard (r : Receiver) : Receiver :=
  { r with state := .live, timer := some r.timeout }

/-- Removes the oldest report that is not an ALARM (R11). -/
def dropOldestQuiet : List Report → List Report
  | [] => []
  | r :: rs => if r.kind = .alarm then r :: dropOldestQuiet rs else rs

/-- A report offered to the buffer: appended while it holds fewer than four (R10); otherwise the overrun count rises,
and an ALARM takes the place of the oldest report that is not one (R11). -/
def Receiver.offer (r : Receiver) (x : Report) : Receiver :=
  if r.buffer.length < Config.bufferDepth then { r with buffer := r.buffer ++ [x] }
  else
    let counted := { r with overrun := satSucc 255 r.overrun }
    if x.kind = .alarm && r.buffer.any fun y => y.kind ≠ .alarm then
      { counted with buffer := dropOldestQuiet r.buffer ++ [x] }
    else counted

/-- A valid report: silence supervision restarts, with LOOP_FAULT when the loop was SILENT (R12), and the report goes
where its kind sends it (R7 to R9). -/
def State.validReport (s : State) (l : Fin 4) (address : Byte) (kind : ReportKind) (value : Byte) : State :=
  let wasSilent := s.loops[l].state = .silent
  let s := s.setLoop l s.loops[l].heard
  let s := if wasSilent then s.setNotices (s.notices.raiseLoopFault l) else s
  match kind with
  | .buffered k => s.setLoop l (s.loops[l].offer { loop := l, address := address, kind := k })
  | .trouble k => s.setNotices (s.notices.raiseDeviceFault l address k)
  | .cycleEnd => s.setLoop l { s.loops[l] with lastCycle := value.toNat }

/-- A complete report judged and, if valid, routed (R5). -/
def State.completeReport (s : State) (l : Fin 4) (address kind value check : Byte) : State :=
  match judgeReport address kind value check with
  | .badCheck => s.setLoop l { s.loops[l] with check := satSucc 255 s.loops[l].check }
  | .badProtocol => s.setLoop l s.loops[l].countProtocol
  | .valid a k v => s.validReport l a k v

/-- A character placed by its mark bit and by whether a report is in progress (R3). -/
def State.placeCharacter (s : State) (l : Fin 4) (data : Byte) (mark : Bool) : State :=
  let r := s.loops[l]
  match mark, r.partialReport with
  | true, [] => s.setLoop l { r with partialReport := [data] }
  | true, _ :: _ => s.setLoop l { r.countProtocol with partialReport := [data] }
  | false, [] => s.setLoop l r.countProtocol
  | false, [address, kind, value] =>
    (s.setLoop l { r with partialReport := [] }).completeReport l address kind value data
  | false, chars => s.setLoop l { r with partialReport := chars ++ [data] }

/-- The end of a character that the receiver sampled (R1, R3, R4). -/
def State.endCharacter (s : State) (l : Fin 4) : CharOutcome → State
  | .glitch => s
  | .framingError =>
    let r := s.loops[l]
    s.setLoop l { r with line := .waitingForOne, partialReport := [], framing := satSucc 255 r.framing }
  | .character data mark noisy =>
    let r := s.loops[l]
    let s := if noisy then s.setLoop l { r with noise := satSucc 255 r.noise } else s
    s.placeCharacter l data mark

/-! ### Events of a loop line -/

/-- LOOP_CHARACTER: a character on a loop line, sampled when the loop is not DISABLED and its receiver seeks a start;
otherwise it is lost (R1). -/
def execLoopCharacter (l : Fin 4) (c : LineChar) (s : State) : Host.Outcome State Fault Refusal :=
  if s.loops[l].state = .disabled || s.loops[l].line = .waitingForOne then .next s
  else .next (s.endCharacter l (charOutcome c))

/-- LOOP_LINE_READS_1: the wait after a framing error ends and the receiver seeks the next fall (R1). -/
def execLoopLineReads1 (l : Fin 4) (s : State) : Host.Outcome State Fault Refusal :=
  if s.loops[l].state = .disabled then .next s
  else .next (s.setLoop l { s.loops[l] with line := .seeking })

/-- SILENCE_TIMER_EXPIRY: the silence timer of an AWAITING or LIVE loop has run to 0: the loop becomes SILENT with
LOOP_FAULT. An expiry that finds the timer reloaded or stopped does not happen (R13). -/
def execSilenceTimerExpiry (l : Fin 4) (s : State) : Host.Outcome State Fault Refusal :=
  let r := s.loops[l]
  if (r.state = .awaiting || r.state = .live) && r.timer = some 0 then
    .next ((s.setLoop l { r with state := .silent, timer := none }).setNotices (s.notices.raiseLoopFault l))
  else .next s

/-! ### Loop commands (R14, R15) -/

/-- A receiver after LOOP_CONFIG, by its present state and the enable field (R14). -/
def Receiver.configure (r : Receiver) (enable : Bool) (timeout : Nat) : Receiver :=
  match r.state, enable with
  | .disabled, false => { r with timeout := timeout }
  | .disabled, true =>
    { r with
      state := .awaiting, line := .seeking, timeout := timeout, timer := some timeout, partialReport := [],
      buffer := [] }
  | .awaiting, true | .live, true => { r with timeout := timeout, timer := some timeout }
  | .silent, true => { r with timeout := timeout }
  | .awaiting, false | .live, false | .silent, false =>
    { r with
      state := .disabled, line := .seeking, timeout := timeout, timer := none, partialReport := [], buffer := [] }

/-- LOOP_CONFIG (R14). -/
def serveLoopConfig (loop enable timeout : Byte) (s : State) : Served :=
  match index? 4 loop.toNat, yesNo? enable, inRange? 10 100 timeout.toNat with
  | some l, some e, some t =>
    let r := s.loops[l].configure e t
    accept [r.state.code] (s.setLoop l r)
  | _, _, _ => refuse .outOfRange s

/-- The five error counts set to 0 (R6, R15). -/
def Receiver.clearCounts (r : Receiver) : Receiver :=
  { r with framing := 0, noise := 0, check := 0, protocol := 0, overrun := 0 }

/-- LOOP_STATUS (R15). -/
def serveLoopStatus (loop clear : Byte) (s : State) : Served :=
  match index? 4 loop.toNat, yesNo? clear with
  | some l, some c =>
    accept s.loops[l].bytes (if c then s.setLoop l s.loops[l].clearCounts else s)
  | _, _ => refuse .outOfRange s

def execLoopConfig (loop enable timeout : Byte) (s : State) : Host.Outcome State Fault Refusal :=
  .next (s.takeRequest 0x10#8 (serveLoopConfig loop enable timeout))

def execLoopStatus (loop clear : Byte) (s : State) : Host.Outcome State Fault Refusal :=
  .next (s.takeRequest 0x11#8 (serveLoopStatus loop clear))

end Sys2Proof.Machine
end

