-- ==== Sys2Proof/Machine/Lines.lean ====
section
/-! DEFINITION. The line scanner (09): visits, readings, declarations, what a changed line state does at the amplifier switching
unit, and the line commands. -/

namespace Sys2Proof.Machine

/-! ### Readings and declarations (R162 to R164) -/

/-- The class the two monitor levels give (R162). -/
def readClass (cls1 cls0 : Bool) : LineClass :=
  match cls1, cls0 with
  | false, false => .normal
  | false, true => .opened
  | true, false => .short
  | true, true => .earth

/-- The declared class of a line state; NOT_SCANNED and LOCKED_OUT have none (R160). -/
def LineState.declared : LineState → Option LineClass
  | .normal => some .normal
  | .opened => some .opened
  | .earth => some .earth
  | .short | .isolated => some .short
  | .notScanned | .lockedOut => none

/-- A reading entered in a line's record (R162). -/
def Line.enter (x : Line) (c : LineClass) : Line :=
  if x.reading = some c then { x with run := satSucc 3 x.run } else { x with reading := some c, run := 1 }

/-- The class the declaration test declares, if it declares one (R163). -/
def Line.declares (x : Line) : Option LineClass :=
  match x.state.declared, x.reading with
  | some d, some c => if x.run = 3 && c ≠ d then some c else none
  | _, _ => none

/-- A SHORT declared, by the zone's connection and the allowance (R164). -/
def Line.shorted (x : Line) (connected : Bool) : Line :=
  if connected then
    if x.allowance = 0 then { x with state := .lockedOut }
    else { x with state := .isolated, allowance := x.allowance - 1 }
  else { x with state := .short }

/-- A class declared on a line (R163, R164). -/
def Line.declare (x : Line) (connected : Bool) : LineClass → Line
  | .normal => { x with state := .normal }
  | .opened => { x with state := .opened }
  | .earth => { x with state := .earth }
  | .short => x.shorted connected

/-! ### The scanner and its neighbours -/

/-- The state with one line record replaced. -/
def State.setLine (s : State) (n : Fin 48) (x : Line) : State :=
  s.setScanner { s.scanner with lines := s.scanner.lines.set n x }

/-- A line state change taken by the amplifier switching unit: one that makes the line ineligible or eligible has the
group's feed chosen and its zones decided again; one between two eligible or two ineligible states is not acted on (R115). -/
def State.lineChanged (s : State) (n : Fin 48) (old : LineState) : State :=
  if old.eligible = s.scanner.lines[n].state.eligible then s
  else s.onDesk fun v d => (d.mapAudio (Audio.retarget v v.configs[n].duty)).finish v

/-- The reading of a visit: it is entered, and the declaration test is made in the same event (R162 to R164, R169). -/
def State.takeReading (s : State) (n : Fin 48) (c : LineClass) : State :=
  let x := s.scanner.lines[n].enter c
  match x.declares with
  | none => s.setLine n x
  | some d =>
    let s' := s.setLine n (x.declare (s.audio.connections[n] = .connected) d)
    (s'.setNotices (s'.notices.raiseLineFault n)).lineChanged n x.state

/-! ### Visits (R161) -/

/-- A zone's kind is not UNUSED. -/
def State.used (s : State) (z : Fin 48) : Bool :=
  s.resolver.configs[z].kind ≠ .unused

/-- The line whose visit is next: the first after the last one visited whose zone is used (R161). -/
def State.nextLine (s : State) : Option (Fin 48) :=
  firstAfter s.scanner.last s.used

/-- A visit begins: the line is the visit in progress and the last visited, and the line select names it (R161). -/
def State.beginVisit (s : State) (n : Fin 48) : State :=
  (s.setScanner { s.scanner with visit := some { line := n, discard := false }, last := n }).onAudio
    fun a => a.selectLine n

/-- After a visit: the next begins at the same tick, or the line select goes to none (R122, R161). -/
def State.afterVisit (s : State) : State :=
  match s.nextLine with
  | some n => s.beginVisit n
  | none => s.onAudio Audio.clearLine

/-- VISIT_START: a visit begins when none is in progress and a zone is used; otherwise none begins (R161). -/
def execVisitStart (s : State) : Host.Outcome State Fault Refusal :=
  match s.scanner.visit, s.nextLine with
  | none, some n => .next (s.beginVisit n)
  | _, _ => .next s

/-- VISIT_END: the reading of the visit in progress is taken, unless its zone was written UNUSED meanwhile, and the next
visit begins; without a visit in progress nothing ends (R161, R162, R170). -/
def execVisitEnd (cls1 cls0 : Bool) (s : State) : Host.Outcome State Fault Refusal :=
  match s.scanner.visit with
  | none => .next s
  | some visit =>
    let s := s.setScanner { s.scanner with visit := none }
    let s := if visit.discard then s else s.takeReading visit.line (readClass cls1 cls0)
    .next s.afterVisit

/-! ### Lines and the zone table (R170) -/

/-- A line record when its zone comes into use (R170). -/
def Line.intoUse (x : Line) : Line :=
  { x with state := if x.state = .lockedOut then .lockedOut else .normal, reading := none, run := 0 }

/-- A line record when its zone goes out of use; LOCKED_OUT is kept whole (R166, R170). -/
def Line.outOfUse (x : Line) : Line :=
  if x.state = .lockedOut then x else { x with state := .notScanned, reading := none, run := 0 }

/-- The visit in progress when a zone goes out of use: its reading will be discarded (R170). -/
def Scanner.discardVisit (x : Scanner) (n : Fin 48) : Scanner :=
  { x with visit := x.visit.map fun v => if v.line = n then { v with discard := true } else v }

/-- The scanner told of a ZONE_WRITE that leaves the zone as it stands in the table; `was` says whether it was used
before (R170). -/
def State.zoneWritten (s : State) (n : Fin 48) (was : Bool) : State :=
  let x := s.scanner.lines[n]
  match was, s.used n with
  | false, true => (s.setLine n x.intoUse).lineChanged n x.state
  | true, false =>
    ((s.setScanner (s.scanner.discardVisit n)).setLine n x.outOfUse).lineChanged n x.state
  | _, _ => s

/-! ### Line commands (R167, R168) -/

/-- LINE_RECONNECT (R167). -/
def serveLineReconnect (line : Byte) (s : State) : Served :=
  match index? 48 line.toNat with
  | none => refuse .outOfRange s
  | some n =>
    let x := s.scanner.lines[n]
    if x.state = .lockedOut then
      let state := if s.used n then LineState.normal else LineState.notScanned
      accept [state.code] ((s.setLine n { x with state := state, allowance := 3 }).lineChanged n x.state)
    else refuse .refusedState s

/-- The line is the visit in progress (R168). -/
def State.visiting (s : State) (n : Fin 48) : Bool :=
  s.scanner.visit.any fun v => v.line = n

/-- A line's status, 5 bytes (R168). -/
def State.lineBytes (s : State) (n : Fin 48) : List Byte :=
  let x := s.scanner.lines[n]
  let reading := match x.reading with
    | some c => c.code
    | none => absent
  [x.state.code, reading, byte x.run, byte x.allowance, flagByte (s.visiting n)]

/-- LINE_STATUS (R168). -/
def serveLineStatus (line : Byte) (s : State) : Served :=
  match index? 48 line.toNat with
  | none => refuse .outOfRange s
  | some n => accept (s.lineBytes n) s

def execLineReconnect (line : Byte) (s : State) : Host.Outcome State Fault Refusal :=
  .next (s.takeRequest 0x70#8 (serveLineReconnect line))

def execLineStatus (line : Byte) (s : State) : Host.Outcome State Fault Refusal :=
  .next (s.takeRequest 0x71#8 (serveLineStatus line))

end Sys2Proof.Machine
end

