-- ==== Sys2Proof/Machine/ZonePlan.lean ====
section
/-! DEFINITION. The zone commands (05) and the zone tests (06). -/

namespace Sys2Proof.Machine

/-! ### The zone table (R80 to R82, R100) -/

/-- The summed load of an amplifier when a zone takes a configuration: every other used zone of that amplifier, and the
written zone unless it is UNUSED (R81). -/
def State.summedLoad (s : State) (z : Fin 48) (c : ZoneConfig) : Nat :=
  let others := (List.finRange 48).filter fun y => y ≠ z && s.used y && s.resolver.configs[y].duty = c.duty
  (others.map fun y => s.resolver.configs[y].load).sum + if c.kind = .unused then 0 else c.load

/-- Order 2 of R80: a used zone's floors are in order and below F. -/
def ZoneConfig.floorsOk (c : ZoneConfig) (floors : Nat) : Bool :=
  c.kind = .unused || (c.low ≤ c.high && c.high < floors)

/-- An accepted write: the fields are stored, the zone is resolved again (R96), and the scanner is told (R170). -/
def State.writeZone (s : State) (z : Fin 48) (c : ZoneConfig) : State :=
  ((s.setResolver { s.resolver with configs := s.resolver.configs.set z c }).inputChange).zoneWritten z (s.used z)

/-- ZONE_WRITE (R80, R81). -/
def serveZoneWrite (zone : Byte) (raw : RawZone) (s : State) : Served :=
  match index? 48 zone.toNat, zoneConfig? raw with
  | some z, some c =>
    if !c.floorsOk s.engine.floors then refuse .outOfRange s
    else if s.audio.connections[z] ≠ .disconnected then refuse .alarmActive s
    else if c.kind ≠ .unused && Config.ampRating < s.summedLoad z c then refuse .overload s
    else accept (bytes2 (s.summedLoad z c)) (s.writeZone z c)
  | _, _ => refuse .outOfRange s

/-- ZONE_READ (R82). -/
def serveZoneRead (zone : Byte) (s : State) : Served :=
  match index? 48 zone.toNat with
  | some z => accept s.resolver.configs[z].bytes s
  | none => refuse .outOfRange s

/-- The serving amplifier of a zone: its group's server, none for an UNUSED zone (R100, R123). -/
def State.servingAmp (s : State) (z : Fin 48) : Option (Fin 12) :=
  if s.used z then s.audio.serverOf s.resolver.configs[z].duty else none

/-- A zone's status, 10 bytes (R100). -/
def State.zoneBytes (s : State) (z : Fin 48) : List Byte :=
  let r := s.resolver.records[z]
  [s.resolver.configs[z].kind.code, r.rank.code, r.source.code, optByte (r.program.map Fin.val)]
    ++ optBytes2 r.governing
    ++ [s.audio.connections[z].code, flagByte s.audio.carried[z], s.scanner.lines[z].state.code,
        optByte ((s.servingAmp z).map Fin.val)]

/-- ZONE_STATUS (R100). -/
def serveZoneStatus (zone : Byte) (s : State) : Served :=
  match index? 48 zone.toNat with
  | some z => accept (s.zoneBytes z) s
  | none => refuse .outOfRange s

/-! ### Zone tests (R109, R110) -/

/-- How many of the zones listed are used (R103, R109). -/
def State.usedCount (s : State) (zones : List (Fin 48)) : Nat :=
  (zones.filter s.used).length

/-- The test claims with a claim placed on each zone listed (R109). -/
def Resolver.placeTests (r : Resolver) (zones : List (Fin 48)) (program : Fin 16) :
    Vector (Option (Fin 16)) 48 :=
  Vector.ofFn fun z => if zones.contains z then some program else r.tests[z]

/-- The test claims without those of the zones that satisfy `p`. -/
def Resolver.dropTests (r : Resolver) (p : Fin 48 → Bool) : Vector (Option (Fin 16)) 48 :=
  Vector.ofFn fun z => if p z then none else r.tests[z]

/-- ZONE_TEST_START (R109). -/
def serveZoneTestStart (program : Byte) (zones : ZoneList) (s : State) : Served :=
  match zoneSet? zones, index? 16 program.toNat with
  | some zs, some p =>
    if s.engine.alarmActive then refuse .alarmActive s
    else accept [byte (s.usedCount zs)] (s.setTests (s.resolver.placeTests zs p)).inputChange
  | _, _ => refuse .outOfRange s

/-- The zones listed that hold a test claim (R110). -/
def State.tested (s : State) (zones : List (Fin 48)) : List (Fin 48) :=
  zones.filter fun z => s.resolver.tests[z].isSome

/-- ZONE_TEST_STOP: a stop that withdraws nothing hands the resolver nothing (R110). -/
def serveZoneTestStop (zones : ZoneList) (s : State) : Served :=
  match zoneSet? zones with
  | some zs =>
    let gone := s.tested zs
    accept [byte gone.length]
      (if gone.isEmpty then s else (s.setTests (s.resolver.dropTests fun z => gone.contains z)).inputChange)
  | none => refuse .outOfRange s

/-! ### The commands -/

def execZoneWrite (zone : Byte) (raw : RawZone) (s : State) : Host.Outcome State Fault Refusal :=
  .next (s.takeRequest 0x40#8 (serveZoneWrite zone raw))

def execZoneRead (zone : Byte) (s : State) : Host.Outcome State Fault Refusal :=
  .next (s.takeRequest 0x41#8 (serveZoneRead zone))

def execZoneStatus (zone : Byte) (s : State) : Host.Outcome State Fault Refusal :=
  .next (s.takeRequest 0x42#8 (serveZoneStatus zone))

def execZoneTestStart (program : Byte) (zones : ZoneList) (s : State) : Host.Outcome State Fault Refusal :=
  .next (s.takeRequest 0x43#8 (serveZoneTestStart program zones))

def execZoneTestStop (zones : ZoneList) (s : State) : Host.Outcome State Fault Refusal :=
  .next (s.takeRequest 0x44#8 (serveZoneTestStop zones))

end Sys2Proof.Machine
end

