-- ==== Sys2Proof/Machine/Mics.lean ====
section
/-! DEFINITION. The microphone sessions (06): opening, refreshing, closing and timing out. -/

namespace Sys2Proof.Machine

/-- The session slot of a microphone (R102). -/
def Sessions.of (x : Sessions) : Mic → Option Session
  | .fireService => x.fireService
  | .management => x.management

/-- The slots with one written. -/
def Sessions.put (x : Sessions) (mic : Mic) (session : Option Session) : Sessions :=
  match mic with
  | .fireService => { x with fireService := session }
  | .management => { x with management := session }

/-- The state with one session slot written. -/
def State.setSession (s : State) (mic : Mic) (session : Option Session) : State :=
  s.setSessions (s.sessions.put mic session)

/-- The talk timer a talk limit loads (R103, R105). -/
def Session.load (x : Session) : Session :=
  { x with timer := x.limit * Config.ticksPerSecond }

/-- MIC_OPEN (R103). -/
def serveMicOpen (mic : Byte) (limit : BitVec 16) (zones : ZoneList) (s : State) : Served :=
  match mic? mic, zoneSet? zones, inRange? 10 600 limit.toNat with
  | some m, some zs, some l =>
    if (s.sessions.of m).isSome then refuse .busy s
    else
      let session : Session := { zones := zs, limit := l, timer := l * Config.ticksPerSecond, openedAt := s.now }
      accept (bytes4 s.now ++ [byte (s.usedCount zs)]) (s.setSession m (some session)).inputChange
  | _, _, _ => refuse .outOfRange s

/-- MIC_REFRESH (R105). -/
def serveMicRefresh (mic : Byte) (s : State) : Served :=
  match mic? mic with
  | none => refuse .outOfRange s
  | some m =>
    match s.sessions.of m with
    | none => refuse .notFound s
    | some x => accept (bytes2 x.load.timer) (s.setSession m (some x.load))

/-- MIC_CLOSE; the ticks open wrap with the running tick count (R106). -/
def serveMicClose (mic : Byte) (s : State) : Served :=
  match mic? mic with
  | none => refuse .outOfRange s
  | some m =>
    match s.sessions.of m with
    | none => refuse .notFound s
    | some x => accept (bytes4 (s.now - x.openedAt)) (s.setSession m none).inputChange

/-- MIC_STATUS (R107). -/
def serveMicStatus (mic : Byte) (s : State) : Served :=
  match mic? mic with
  | none => refuse .outOfRange s
  | some m => accept (sessionBytes (s.sessions.of m)) s

/-- TALK_TIMER_EXPIRY: the talk timer of an open session has run to 0: the session closes with MIC_TIMEOUT. An expiry that
finds the timer reloaded or the slot closed does not happen (R104 to R106). -/
def execTalkTimerExpiry (mic : Mic) (s : State) : Host.Outcome State Fault Refusal :=
  match s.sessions.of mic with
  | some x =>
    if x.timer = 0 then
      .next ((s.setSession mic none).setNotices (s.notices.raiseMicTimeout mic)).inputChange
    else .next s
  | none => .next s

def execMicOpen (mic : Byte) (limit : BitVec 16) (zones : ZoneList) (s : State) : Host.Outcome State Fault Refusal :=
  .next (s.takeRequest 0x48#8 (serveMicOpen mic limit zones))

def execMicRefresh (mic : Byte) (s : State) : Host.Outcome State Fault Refusal :=
  .next (s.takeRequest 0x49#8 (serveMicRefresh mic))

def execMicClose (mic : Byte) (s : State) : Host.Outcome State Fault Refusal :=
  .next (s.takeRequest 0x4A#8 (serveMicClose mic))

def execMicStatus (mic : Byte) (s : State) : Host.Outcome State Fault Refusal :=
  .next (s.takeRequest 0x4B#8 (serveMicStatus mic))

end Sys2Proof.Machine
end

