-- ==== Sys2Proof/Machine/Power.lean ====
section
/-! DEFINITION. Power-on reset, RESTART, IDENTIFY, NOTICE_READ and the expiry of the supervision timer (10). -/

namespace Sys2Proof.Machine

/-! ### Power-on reset -/

/-- A transaction in progress when the part is reset: its bytes are discarded and LNK_DO carries 00h until it ends (R172). -/
def Link.abandoned (l : Link) : Option Transaction :=
  l.transaction.map fun _ => { served := false, out := [] }

/-- POWER_ON_RESET: every block at its power-on values; a transaction in progress is abandoned; the input pins are the
outside's and the queue is the model's (R16, R35, R57, R95, R113, R139, R159, R171, R172, R188; log entries 20, 21). -/
def execPowerOnReset (s : State) : Host.Outcome State Fault Refusal :=
  .next
    { State.reset with
      link := { Link.reset with transaction := s.link.abandoned }
      pins := s.pins
      pending := s.pending }

/-! ### RESTART (R186, R187) -/

/-- A receiver at RESTART (R16). -/
def Receiver.restart (r : Receiver) : Receiver :=
  { r with partialReport := [], buffer := [] }

/-- The incident engine at RESTART: every slot FREE with its generation kept (R57). -/
def Engine.restart (e : Engine) : Engine :=
  { e with slots := Vector.ofFn fun k => { e.slots[k] with incident := none }, ages := [] }

/-- The feeds, pending targets, connections, players and demand list at RESTART (R139, R159). -/
def Audio.restart (a : Audio) : Audio :=
  let a := { a with
    amps := Vector.ofFn fun i => { a.amps[i] with feed := .none, pending := none }
    connections := Vector.replicate 48 .disconnected
    carried := Vector.replicate 48 false
    demand := [] }
  (List.finRange 6).foldl Audio.idlePlayer a

/-- A refresh of the switching output that the change of the image has not already asked for (R139). -/
def Audio.refreshFrom (before : Image) (a : Audio) : Audio :=
  if a.image = before then a.refresh else a

/-- The amplifier switching unit at RESTART: the groups of RECOVERED amplifiers return, freed standbys serve the unserved
queue, and the output is refreshed with the resulting image (R139). Two returns at once are made in the order of
`Desk.close` (log entry 32). -/
def Desk.restart (v : View) (d : Desk) : Desk :=
  ((d.mapAudio Audio.restart).finish v).mapAudio (Audio.refreshFrom d.audio.image)

/-- RESTART taken by every block; the notice set is emptied last (R16, R35, R57, R95, R113, R139, R159, R171, R187; log
entry 11). -/
def State.restart (s : State) : State :=
  let s := s.setLoops (Vector.ofFn fun l => s.loops[l].restart)
  let s := s.setMap { s.map with misses := [] }
  let s := s.setEngine s.engine.restart
  let s := s.setSessions { fireService := none, management := none }
  let s := s.setTests (Vector.replicate 48 none)
  let s := s.setRecords s.resolved
  (s.onDesk Desk.restart).emptyNotices

/-- RESTART (R186). -/
def serveRestart (s : State) : Served :=
  if s.engine.alarmActive then refuse .alarmActive s else accept [] s.restart

/-! ### IDENTIFY and NOTICE_READ (R183, R185) -/

/-- IDENTIFY (R185). -/
def serveIdentify (s : State) : Served :=
  accept (bytes2 Config.partCode.toNat ++ [Config.revision] ++ bytes4 s.now) s

/-- NOTICE_READ (R183). -/
def serveNoticeRead (s : State) : Served :=
  accept s.noticePayload s.emptyNotices

def execIdentify (s : State) : Host.Outcome State Fault Refusal :=
  .next (s.takeRequest 0x01#8 serveIdentify)

def execNoticeRead (s : State) : Host.Outcome State Fault Refusal :=
  .next (s.takeRequest 0x02#8 serveNoticeRead)

def execRestart (s : State) : Host.Outcome State Fault Refusal :=
  .next (s.takeRequest 0x03#8 serveRestart)

/-! ### Link supervision (R178, R179) -/

/-- The link enters AUTONOMOUS mode: the cause map flushes its miss list, then the incident engine ends its
investigations (R34, R75, R179; log entry 12). -/
def State.enterAutonomous (s : State) : State :=
  let s := (s.setLink { s.link with mode := .autonomous, supervision := none }).flushMisses
  s.engineEvent (s.engine.autonomousEntry s.now)

/-- SUPERVISION_TIMER_EXPIRY: the supervision timer of a LINKED link has run to 0. An expiry that finds the timer
reloaded or stopped does not happen (R178, R179). -/
def execSupervisionTimerExpiry (s : State) : Host.Outcome State Fault Refusal :=
  match s.link.mode, s.link.supervision with
  | .linked, some 0 => .next s.enterAutonomous
  | _, _ => .next s

end Sys2Proof.Machine
end

