-- ==== Sys2Proof/Machine/Frames.lean ====
section
/-! DEFINITION. Request frames (10, 11): from the bits of a transaction to bytes, from bytes to a frame, from a frame to a
command; the bytes that spell a command; and the start and end of transactions. -/

namespace Sys2Proof.Machine

/-! ### Payloads (11, Command Codes; R192, R194) -/

/-- What orders 1 and 2 of R176 make of a command code and payload. -/
inductive Asked where
  | unknown
  | badLength
  | request (i : Instr)
  deriving DecidableEq, Repr

/-- A request without a payload. -/
def ask0 (i : Instr) : List Byte → Asked
  | [] => .request i
  | _ => .badLength

/-- A request of one byte. -/
def ask1 (f : Byte → Instr) : List Byte → Asked
  | [a] => .request (f a)
  | _ => .badLength

/-- A request of two bytes. -/
def ask2 (f : Byte → Byte → Instr) : List Byte → Asked
  | [a, b] => .request (f a b)
  | _ => .badLength

/-- A request of three bytes. -/
def ask3 (f : Byte → Byte → Byte → Instr) : List Byte → Asked
  | [a, b, c] => .request (f a b c)
  | _ => .badLength

/-- A request of a map entry after the fields of `head`. -/
def askEntry (f : RawEntry → Instr) : List Byte → Asked
  | [a, b, c, d, e, g, h, i] =>
    .request (f { loop := a, base := b, span := c, zone := d, floor := e, cls := g, rule := h, profile := i })
  | _ => .badLength

/-- A request of a profile. -/
def askProfile (f : RawProfile → Instr) : List Byte → Asked
  | [a, b, c, d, e, g, h, i, j, k, l, m, n] =>
    .request (f
      { up := a, down := b, margin := c, interval := word2 d e, limit := g, ackWindow := word2 h i
        investigate := word2 j k, evacuate := l, alert := m, building := n })
  | _ => .badLength

/-- A request of a zone configuration. -/
def askZone (f : RawZone → Instr) : List Byte → Asked
  | [a, b, c, d, e, g] => .request (f { kind := a, low := b, high := c, duty := d, load := word2 e g })
  | _ => .badLength

/-- A request of a segment descriptor. -/
def askSegment (f : RawSegment → Instr) : List Byte → Asked
  | [a, b, c, d, e, g, h, i, j, k, l] =>
    .request (f
      { kind := a, pattern := b, duration := word2 c d, start := word2 e g, pages := word2 h i, retries := j
        repeats := k, next := l })
  | _ => .badLength

/-- A request whose payload begins with one byte. -/
def askAfter (f : Byte → List Byte → Asked) : List Byte → Asked
  | a :: rest => f a rest
  | [] => .badLength

/-- A request that ends in a zone list (R192, R194). -/
def askZones (f : ZoneList → Instr) : List Byte → Asked
  | [] => .badLength
  | count :: zones =>
    if count = 0xFF#8 then if zones.isEmpty then .request (f .all) else .badLength
    else if 1 ≤ count.toNat ∧ count.toNat ≤ 48 then
      if zones.length = count.toNat then .request (f (.listed zones)) else .badLength
    else if zones.isEmpty then .request (f (.listed [])) else .badLength

/-- The request of a command code and payload, by the command-code table (11, Command Codes; R176, R194). -/
def requestOf (code : Byte) (payload : List Byte) : Asked :=
  match code.toNat with
  | 0x01 => ask0 .identify payload
  | 0x02 => ask0 .noticeRead payload
  | 0x03 => ask0 .restart payload
  | 0x10 => ask3 .loopConfig payload
  | 0x11 => ask2 .loopStatus payload
  | 0x20 => askAfter (fun n => askEntry (.mapWrite n)) payload
  | 0x21 => askEntry .mapPlace payload
  | 0x22 => ask1 .mapRead payload
  | 0x23 => ask2 .mapProbe payload
  | 0x24 => ask1 .mapRemove payload
  | 0x25 => ask1 .mapSetWired payload
  | 0x26 => ask3 .mapSetDefault payload
  | 0x27 => ask0 .mapStatus payload
  | 0x28 => ask0 .missList payload
  | 0x29 => ask2 .missDefault payload
  | 0x30 => ask0 .incidentList payload
  | 0x31 => ask2 (fun a b => .incidentRead (word2 a b)) payload
  | 0x32 => ask2 (fun a b => .incidentAck (word2 a b)) payload
  | 0x33 => ask2 (fun a b => .incidentSilence (word2 a b)) payload
  | 0x34 => ask2 (fun a b => .incidentResound (word2 a b)) payload
  | 0x35 => ask2 (fun a b => .incidentGeneral (word2 a b)) payload
  | 0x36 => ask3 (fun a b c => .incidentReset (word2 a b) c) payload
  | 0x37 => ask0 .saturationClear payload
  | 0x38 => askAfter (fun n => askProfile (.profileWrite n)) payload
  | 0x39 => ask1 .profileRead payload
  | 0x3A => ask1 .buildingSet payload
  | 0x40 => askAfter (fun z => askZone (.zoneWrite z)) payload
  | 0x41 => ask1 .zoneRead payload
  | 0x42 => ask1 .zoneStatus payload
  | 0x43 => askAfter (fun p => askZones (.zoneTestStart p)) payload
  | 0x44 => askZones .zoneTestStop payload
  | 0x48 => askAfter (fun m => askAfter fun a => askAfter fun b => askZones (.micOpen m (word2 a b))) payload
  | 0x49 => ask1 .micRefresh payload
  | 0x4A => ask1 .micClose payload
  | 0x4B => ask1 .micStatus payload
  | 0x50 => ask1 .ampRestore payload
  | 0x51 => ask0 .ampStatus payload
  | 0x52 => ask0 .playerStatus payload
  | 0x60 => askAfter (fun n => askSegment (.segmentWrite n)) payload
  | 0x61 => ask1 .segmentRead payload
  | 0x62 => ask2 .programSet payload
  | 0x63 => ask1 .programRead payload
  | 0x64 => ask3 (fun a b c => .storeSet (word3 a b c)) payload
  | 0x70 => ask1 .lineReconnect payload
  | 0x71 => ask1 .lineStatus payload
  | _ => .unknown

/-! ### The bytes that spell a request (11) -/

/-- A two-byte field, most significant byte first (R190). -/
def wordBytes (w : BitVec 16) : List Byte :=
  [w.extractLsb' 8 8, w.extractLsb' 0 8]

/-- The eight bytes of a map entry. -/
def entryBytes (e : RawEntry) : List Byte :=
  [e.loop, e.base, e.span, e.zone, e.floor, e.cls, e.rule, e.profile]

/-- The thirteen bytes of a profile. -/
def profileBytes (p : RawProfile) : List Byte :=
  [p.up, p.down, p.margin] ++ wordBytes p.interval ++ [p.limit] ++ wordBytes p.ackWindow ++ wordBytes p.investigate
    ++ [p.evacuate, p.alert, p.building]

/-- The six bytes of a zone configuration. -/
def zoneConfigBytes (z : RawZone) : List Byte :=
  [z.kind, z.low, z.high, z.duty] ++ wordBytes z.load

/-- The eleven bytes of a segment descriptor. -/
def segmentBytes (x : RawSegment) : List Byte :=
  [x.kind, x.pattern] ++ wordBytes x.duration ++ wordBytes x.start ++ wordBytes x.pages
    ++ [x.retries, x.repeats, x.next]

/-- The bytes of a zone list (R192). -/
def zoneListBytes : ZoneList → List Byte
  | .all => [0xFF#8]
  | .listed zones => byte zones.length :: zones

/-- The command code and payload that spell a request; an event is spelt by none. -/
def requestBytes : Instr → Option (Byte × List Byte)
  | .identify => some (0x01#8, [])
  | .noticeRead => some (0x02#8, [])
  | .restart => some (0x03#8, [])
  | .loopConfig loop enable timeout => some (0x10#8, [loop, enable, timeout])
  | .loopStatus loop clear => some (0x11#8, [loop, clear])
  | .mapWrite index entry => some (0x20#8, index :: entryBytes entry)
  | .mapPlace entry => some (0x21#8, entryBytes entry)
  | .mapRead index => some (0x22#8, [index])
  | .mapProbe loop address => some (0x23#8, [loop, address])
  | .mapRemove index => some (0x24#8, [index])
  | .mapSetWired count => some (0x25#8, [count])
  | .mapSetDefault cls rule deadline => some (0x26#8, [cls, rule, deadline])
  | .mapStatus => some (0x27#8, [])
  | .missList => some (0x28#8, [])
  | .missDefault loop address => some (0x29#8, [loop, address])
  | .incidentList => some (0x30#8, [])
  | .incidentRead handle => some (0x31#8, wordBytes handle)
  | .incidentAck handle => some (0x32#8, wordBytes handle)
  | .incidentSilence handle => some (0x33#8, wordBytes handle)
  | .incidentResound handle => some (0x34#8, wordBytes handle)
  | .incidentGeneral handle => some (0x35#8, wordBytes handle)
  | .incidentReset handle force => some (0x36#8, wordBytes handle ++ [force])
  | .saturationClear => some (0x37#8, [])
  | .profileWrite number profile => some (0x38#8, number :: profileBytes profile)
  | .profileRead number => some (0x39#8, [number])
  | .buildingSet floors => some (0x3A#8, [floors])
  | .zoneWrite zone config => some (0x40#8, zone :: zoneConfigBytes config)
  | .zoneRead zone => some (0x41#8, [zone])
  | .zoneStatus zone => some (0x42#8, [zone])
  | .zoneTestStart program zones => some (0x43#8, program :: zoneListBytes zones)
  | .zoneTestStop zones => some (0x44#8, zoneListBytes zones)
  | .micOpen mic limit zones => some (0x48#8, mic :: (wordBytes limit ++ zoneListBytes zones))
  | .micRefresh mic => some (0x49#8, [mic])
  | .micClose mic => some (0x4A#8, [mic])
  | .micStatus mic => some (0x4B#8, [mic])
  | .ampRestore amp => some (0x50#8, [amp])
  | .ampStatus => some (0x51#8, [])
  | .playerStatus => some (0x52#8, [])
  | .segmentWrite index descriptor => some (0x60#8, index :: segmentBytes descriptor)
  | .segmentRead index => some (0x61#8, [index])
  | .programSet program head => some (0x62#8, [program, head])
  | .programRead program => some (0x63#8, [program])
  | .storeSet size => some (0x64#8, [size.extractLsb' 16 8, size.extractLsb' 8 8, size.extractLsb' 0 8])
  | .lineReconnect line => some (0x70#8, [line])
  | .lineStatus line => some (0x71#8, [line])
  | .powerOnReset | .loopCharacter _ _ | .silenceTimerExpiry _ | .reportTake _ | .deadlineExpiry _ _
  | .investigationTimerExpiry _ | .stepTimerExpiry _ | .repetitionEnd _ | .arbiterGrant | .fetchComplete _ _
  | .pageEnd _ | .debouncedFaultChange _ | .switchingLoad | .visitStart | .visitEnd _ _ | .talkTimerExpiry _
  | .supervisionTimerExpiry | .transactionStart _ | .transactionEnd _ _ | .loopLineReads1 _ => none

/-- The bytes a request frame's CRC covers (R189). -/
def coveredBytes (code : Byte) (payload : List Byte) : List Byte :=
  code :: byte payload.length :: payload

/-- A request frame, from its sync byte to its CRC (R174, 11). -/
def requestFrame (code : Byte) (payload : List Byte) : List Byte :=
  0x5A#8 :: (coveredBytes code payload ++ crcBytes (coveredBytes code payload))

/-! ### From bits to a frame (R172, R174, R175) -/

/-- Eight bits as a byte, most significant first (R172). -/
def byteOfBits (bits : List Bool) : Byte :=
  bits.foldl (fun b x => (b <<< 1) ||| (if x then 1#8 else 0#8)) 0#8

/-- The whole bytes clocked in a transaction; a final byte of fewer than eight clocks is discarded (R172). -/
def wholeBytes : List Bool → List Byte
  | a :: b :: c :: d :: e :: f :: g :: h :: rest => byteOfBits [a, b, c, d, e, f, g, h] :: wholeBytes rest
  | _ => []

/-- The bits a byte travels as, most significant first (R172). -/
def bitsOfByte (b : Byte) : List Bool :=
  [b.getLsbD 7, b.getLsbD 6, b.getLsbD 5, b.getLsbD 4, b.getLsbD 3, b.getLsbD 2, b.getLsbD 1, b.getLsbD 0]

/-- What the bytes of a served transaction are (R174, R175). -/
inductive Frame where
  | poll
  | failed (code : Byte)
  | valid (code : Byte) (payload : List Byte)
  deriving DecidableEq, Repr

/-- The frame check on the bytes after the payload length (R175). -/
def checkFrame (code length : Byte) (body : List Byte) : Frame :=
  if Config.maxRequestPayload < length.toNat then .failed code
  else if body.length < length.toNat + 2 then .failed code
  else
    let payload := body.take length.toNat
    let received := (body.drop length.toNat).take 2
    if received = crcBytes (code :: length :: payload) then .valid code payload else .failed code

/-- The bytes of a served transaction judged (R174, R175). -/
def frameOf : List Byte → Frame
  | [] => .poll
  | sync :: rest =>
    if sync ≠ 0x5A#8 then .poll
    else
      match rest with
      | [] => .failed 0x00#8
      | [code] => .failed code
      | code :: length :: body => checkFrame code length body

/-! ### Taking a request (R176) -/

/-- What carrying out a request does, command by command. Rows that are no requests have no command code (R176). -/
def serveRequest : Instr → State → Served
  | .identify => serveIdentify
  | .noticeRead => serveNoticeRead
  | .restart => serveRestart
  | .loopConfig loop enable timeout => serveLoopConfig loop enable timeout
  | .loopStatus loop clear => serveLoopStatus loop clear
  | .mapWrite index entry => serveMapWrite index entry
  | .mapPlace entry => serveMapPlace entry
  | .mapRead index => serveMapRead index
  | .mapProbe loop address => serveMapProbe loop address
  | .mapRemove index => serveMapRemove index
  | .mapSetWired count => serveMapSetWired count
  | .mapSetDefault cls rule deadline => serveMapSetDefault cls rule deadline
  | .mapStatus => serveMapStatus
  | .missList => serveMissList
  | .missDefault loop address => serveMissDefault loop address
  | .incidentList => serveIncidentList
  | .incidentRead handle => serveIncidentRead handle
  | .incidentAck handle => serveIncidentAck handle
  | .incidentSilence handle => serveIncidentSilence handle
  | .incidentResound handle => serveIncidentResound handle
  | .incidentGeneral handle => serveIncidentGeneral handle
  | .incidentReset handle force => serveIncidentReset handle force
  | .saturationClear => serveSaturationClear
  | .profileWrite number profile => serveProfileWrite number profile
  | .profileRead number => serveProfileRead number
  | .buildingSet floors => serveBuildingSet floors
  | .zoneWrite zone config => serveZoneWrite zone config
  | .zoneRead zone => serveZoneRead zone
  | .zoneStatus zone => serveZoneStatus zone
  | .zoneTestStart program zones => serveZoneTestStart program zones
  | .zoneTestStop zones => serveZoneTestStop zones
  | .micOpen mic limit zones => serveMicOpen mic limit zones
  | .micRefresh mic => serveMicRefresh mic
  | .micClose mic => serveMicClose mic
  | .micStatus mic => serveMicStatus mic
  | .ampRestore amp => serveAmpRestore amp
  | .ampStatus => serveAmpStatus
  | .playerStatus => servePlayerStatus
  | .segmentWrite index descriptor => serveSegmentWrite index descriptor
  | .segmentRead index => serveSegmentRead index
  | .programSet program head => serveProgramSet program head
  | .programRead program => serveProgramRead program
  | .storeSet size => serveStoreSet size
  | .lineReconnect line => serveLineReconnect line
  | .lineStatus line => serveLineStatus line
  | .powerOnReset | .loopCharacter _ _ | .silenceTimerExpiry _ | .reportTake _ | .deadlineExpiry _ _
  | .investigationTimerExpiry _ | .stepTimerExpiry _ | .repetitionEnd _ | .arbiterGrant | .fetchComplete _ _
  | .pageEnd _ | .debouncedFaultChange _ | .switchingLoad | .visitStart | .visitEnd _ _ | .talkTimerExpiry _
  | .supervisionTimerExpiry | .transactionStart _ | .transactionEnd _ _ | .loopLineReads1 _ => refuse .unknown

/-- The three orders of R176 on a command code and payload. -/
def serveFrame (code : Byte) (payload : List Byte) : State → Served :=
  match requestOf code payload with
  | .unknown => refuse .unknown
  | .badLength => refuse .outOfRange
  | .request i => serveRequest i

/-- The release of a served transaction: a poll does nothing, a failed frame is answered CHECK_FAIL, a valid request is
taken (R174 to R176). -/
def State.judgeFrame (s : State) : Frame → State
  | .poll => s
  | .failed code => s.respond code .checkFail []
  | .valid code payload => s.takeRequest code (serveFrame code payload)

/-! ### Transactions (R172, R173) -/

/-- 20 us have passed since the last release, or there was none (R172). -/
def Link.servable (l : Link) (moment : Nat) : Bool :=
  match l.lastRelease with
  | some t => t + Config.releaseNs ≤ moment
  | none => true

/-- The response buffer's bytes as they are taken for shifting out (R173). -/
def Link.outgoing (l : Link) : List Byte :=
  match l.response with
  | some r => r.bytes
  | none => []

/-- A transaction begins: a served one takes the response out of the buffer (R172, R173). -/
def Link.start (l : Link) (moment : Nat) : Link :=
  if l.servable moment then
    { l with transaction := some { served := true, out := l.outgoing }, response := none }
  else { l with transaction := some { served := false, out := [] } }

/-- A byte that LNK_DO carries in a transaction, counted from 0: the response, then 00h (R172, R173). -/
def Transaction.outByte (t : Transaction) (n : Nat) : Byte :=
  t.out[n]?.getD 0

/-- TRANSACTION_START: LNK_SEL_N falls at a moment; one that is already low does not fall (R172, R173). -/
def execTransactionStart (moment : Nat) (s : State) : Host.Outcome State Fault Refusal :=
  match s.link.transaction with
  | none => .next (s.setLink (s.link.start moment))
  | some _ => .next s

/-- The link once LNK_SEL_N has risen at a moment (R172). -/
def State.release (s : State) (moment : Nat) : State :=
  s.setLink { s.link with transaction := none, lastRelease := some moment }

/-- TRANSACTION_END: LNK_SEL_N rises at a moment, and the bits clocked in are judged if the transaction was served; without
a transaction it is high already (R172, R174 to R176). -/
def execTransactionEnd (moment : Nat) (bits : List Bool) (s : State) : Host.Outcome State Fault Refusal :=
  match s.link.transaction with
  | none => .next s
  | some t =>
    let s := s.release moment
    if t.served then .next (s.judgeFrame (frameOf (wholeBytes bits))) else .next s

end Sys2Proof.Machine
end

