-- ==== Sys2Proof/Machine/Dispatch.lean ====
section
/-! DEFINITION. One arm per command: each calls its meaning. -/

namespace Sys2Proof.Machine

def exec (i : Instr) (s : State) : Host.Outcome State Fault Refusal :=
  match i with
  | .powerOnReset => Sys2Proof.Machine.execPowerOnReset s
  | .loopCharacter loop char => Sys2Proof.Machine.execLoopCharacter loop char s
  | .silenceTimerExpiry loop => Sys2Proof.Machine.execSilenceTimerExpiry loop s
  | .reportTake moment => Sys2Proof.Machine.execReportTake moment s
  | .deadlineExpiry loop address => Sys2Proof.Machine.execDeadlineExpiry loop address s
  | .investigationTimerExpiry slot => Sys2Proof.Machine.execInvestigationTimerExpiry slot s
  | .stepTimerExpiry slot => Sys2Proof.Machine.execStepTimerExpiry slot s
  | .repetitionEnd player => Sys2Proof.Machine.execRepetitionEnd player s
  | .arbiterGrant => Sys2Proof.Machine.execArbiterGrant s
  | .fetchComplete samples check => Sys2Proof.Machine.execFetchComplete samples check s
  | .pageEnd player => Sys2Proof.Machine.execPageEnd player s
  | .debouncedFaultChange amp => Sys2Proof.Machine.execDebouncedFaultChange amp s
  | .switchingLoad => Sys2Proof.Machine.execSwitchingLoad s
  | .visitStart => Sys2Proof.Machine.execVisitStart s
  | .visitEnd cls1 cls0 => Sys2Proof.Machine.execVisitEnd cls1 cls0 s
  | .talkTimerExpiry mic => Sys2Proof.Machine.execTalkTimerExpiry mic s
  | .supervisionTimerExpiry => Sys2Proof.Machine.execSupervisionTimerExpiry s
  | .transactionStart moment => Sys2Proof.Machine.execTransactionStart moment s
  | .transactionEnd moment bits => Sys2Proof.Machine.execTransactionEnd moment bits s
  | .identify => Sys2Proof.Machine.execIdentify s
  | .noticeRead => Sys2Proof.Machine.execNoticeRead s
  | .restart => Sys2Proof.Machine.execRestart s
  | .loopConfig loop enable timeout => Sys2Proof.Machine.execLoopConfig loop enable timeout s
  | .loopStatus loop clear => Sys2Proof.Machine.execLoopStatus loop clear s
  | .mapWrite index entry => Sys2Proof.Machine.execMapWrite index entry s
  | .mapPlace entry => Sys2Proof.Machine.execMapPlace entry s
  | .mapRead index => Sys2Proof.Machine.execMapRead index s
  | .mapProbe loop address => Sys2Proof.Machine.execMapProbe loop address s
  | .mapRemove index => Sys2Proof.Machine.execMapRemove index s
  | .mapSetWired count => Sys2Proof.Machine.execMapSetWired count s
  | .mapSetDefault cls rule deadline => Sys2Proof.Machine.execMapSetDefault cls rule deadline s
  | .mapStatus => Sys2Proof.Machine.execMapStatus s
  | .missList => Sys2Proof.Machine.execMissList s
  | .missDefault loop address => Sys2Proof.Machine.execMissDefault loop address s
  | .incidentList => Sys2Proof.Machine.execIncidentList s
  | .incidentRead handle => Sys2Proof.Machine.execIncidentRead handle s
  | .incidentAck handle => Sys2Proof.Machine.execIncidentAck handle s
  | .incidentSilence handle => Sys2Proof.Machine.execIncidentSilence handle s
  | .incidentResound handle => Sys2Proof.Machine.execIncidentResound handle s
  | .incidentGeneral handle => Sys2Proof.Machine.execIncidentGeneral handle s
  | .incidentReset handle force => Sys2Proof.Machine.execIncidentReset handle force s
  | .saturationClear => Sys2Proof.Machine.execSaturationClear s
  | .profileWrite number profile => Sys2Proof.Machine.execProfileWrite number profile s
  | .profileRead number => Sys2Proof.Machine.execProfileRead number s
  | .buildingSet floors => Sys2Proof.Machine.execBuildingSet floors s
  | .zoneWrite zone config => Sys2Proof.Machine.execZoneWrite zone config s
  | .zoneRead zone => Sys2Proof.Machine.execZoneRead zone s
  | .zoneStatus zone => Sys2Proof.Machine.execZoneStatus zone s
  | .zoneTestStart program zones => Sys2Proof.Machine.execZoneTestStart program zones s
  | .zoneTestStop zones => Sys2Proof.Machine.execZoneTestStop zones s
  | .micOpen mic limit zones => Sys2Proof.Machine.execMicOpen mic limit zones s
  | .micRefresh mic => Sys2Proof.Machine.execMicRefresh mic s
  | .micClose mic => Sys2Proof.Machine.execMicClose mic s
  | .micStatus mic => Sys2Proof.Machine.execMicStatus mic s
  | .ampRestore amp => Sys2Proof.Machine.execAmpRestore amp s
  | .ampStatus => Sys2Proof.Machine.execAmpStatus s
  | .playerStatus => Sys2Proof.Machine.execPlayerStatus s
  | .segmentWrite index descriptor => Sys2Proof.Machine.execSegmentWrite index descriptor s
  | .segmentRead index => Sys2Proof.Machine.execSegmentRead index s
  | .programSet program head => Sys2Proof.Machine.execProgramSet program head s
  | .programRead program => Sys2Proof.Machine.execProgramRead program s
  | .storeSet size => Sys2Proof.Machine.execStoreSet size s
  | .lineReconnect line => Sys2Proof.Machine.execLineReconnect line s
  | .lineStatus line => Sys2Proof.Machine.execLineStatus line s
  | .loopLineReads1 loop => Sys2Proof.Machine.execLoopLineReads1 loop s

end Sys2Proof.Machine
end

