-- ==== Sys2Proof/Machine/Ticks.lean ====
section
/-! DEFINITION. The tick of 100 ms: what every timer and sampler does at it, and the events that fall due, which it puts into
the queue in one fixed order (00, Time; log entries 1 and 2). -/

namespace Sys2Proof.Machine

/-! ### Timers -/

/-- A receiver at a tick: a running silence timer falls by one (R12, R13). -/
def Receiver.tick (r : Receiver) : Receiver :=
  { r with timer := r.timer.map fun t => t - 1 }

/-- The silence timer of a loop has run to 0 (R13). -/
def Receiver.due (r : Receiver) : Bool :=
  (r.state = .awaiting || r.state = .live) && r.timer = some 0

/-- The miss list at a tick: every deadline falls by one (R32). -/
def CauseMap.tick (m : CauseMap) : CauseMap :=
  { m with misses := m.misses.map fun x => { x with deadline := x.deadline - 1 } }

/-- An incident's stage timer at a tick: it falls by one while it runs, in INVESTIGATING when not all-clear and in
PHASED (R59, R65). -/
def Incident.tick (i : Incident) : Incident :=
  match i.stage with
  | .investigating p t => if i.allClear then i else { i with stage := .investigating p (t - 1) }
  | .phased (some t) => { i with stage := .phased (some (t - 1)) }
  | _ => i

/-- The event of a slot whose stage timer has run to 0 while it ran (R59, R64, R67). -/
def Slot.due (x : Slot) (slot : Fin 32) : List Instr :=
  match x.incident with
  | some i =>
    match i.stage with
    | .investigating _ 0 => if i.allClear then [] else [.investigationTimerExpiry slot]
    | .phased (some 0) => [.stepTimerExpiry slot]
    | _ => []
  | none => []

/-- The incident engine at a tick (R59). -/
def Engine.tick (e : Engine) : Engine :=
  { e with slots := Vector.ofFn fun k => { e.slots[k] with incident := e.slots[k].incident.map Incident.tick } }

/-- A session at a tick: its talk timer falls by one (R104). -/
def Session.tick (x : Session) : Session :=
  { x with timer := x.timer - 1 }

/-- The sessions at a tick (R104). -/
def Sessions.tick (x : Sessions) : Sessions :=
  { fireService := x.fireService.map Session.tick, management := x.management.map Session.tick }

/-- A session whose talk timer has run to 0 (R104). -/
def Sessions.due (x : Sessions) (mic : Mic) : Bool :=
  (x.of mic).any fun y => y.timer = 0

/-- The link at a tick: the supervision timer of a LINKED link falls by one (R178). -/
def Link.tick (l : Link) : Link :=
  { l with supervision := l.supervision.map fun t => t - 1 }

/-- The supervision timer has run to 0 (R178). -/
def Link.due (l : Link) : Bool :=
  l.mode = .linked && l.supervision = some 0

/-! ### Samples -/

/-- An amplifier's fault line sampled (R124): a sample that agrees sets the run count to 0, one that differs raises it.
At the fifth it is left at 4, and the change it brings sets it to 0. -/
def Amp.sample (amp : Amp) (low : Bool) : Amp :=
  if low = amp.fault then { amp with run := 0 } else { amp with run := satSucc 4 amp.run }

/-- The sample is the fifth in a row that differs (R124). -/
def Amp.fifth (amp : Amp) (low : Bool) : Bool :=
  low ≠ amp.fault && 4 ≤ amp.run

/-- A player's tone generator at a tick: the pattern it makes runs on (R141; log entry 26). -/
def Generator.tick (g : Generator) : Generator :=
  { g with place := g.place + Config.tickSamples }

/-- A player at a tick (R141). -/
def Player.tick (p : Player) : Player :=
  { p with walk := p.walk.map fun w => { w with generator := w.generator.map Generator.tick } }

/-- The audio side at a tick: each fault line is sampled (R124), and each player's tone generator runs on (R141). -/
def Audio.tick (a : Audio) (pins : Pins) : Audio :=
  { a with
    amps := Vector.ofFn fun i => a.amps[i].sample pins.ampFaultLow[i]
    players := Vector.ofFn fun k => a.players[k].tick }

/-! ### The tick -/

/-- The state with its timers and samplers one tick on. -/
def State.advance (s : State) : State :=
  let s := s.setNow (s.now + 1)
  let s := s.setLoops (Vector.ofFn fun l => s.loops[l].tick)
  let s := s.setMap s.map.tick
  let s := s.setEngine s.engine.tick
  let s := s.setSessions s.sessions.tick
  let s := s.setAudio (s.audio.tick s.pins)
  s.setLink s.link.tick

/-- The scanner's event at a tick: the visit in progress ends with the class on the monitor pins, or a visit begins
where a zone is used (R161, R162). -/
def State.visitDue (s : State) : List Instr :=
  if s.scanner.visit.isSome then [.visitEnd s.pins.cls1 s.pins.cls0]
  else if s.nextLine.isSome then [.visitStart]
  else []

/-- The events that fall due at a tick, in the model's fixed order; `before` is the state ahead of the tick, for the fault
samples, and `s` the state with its timers one tick on (log entry 2). -/
def State.due (before s : State) : List Instr :=
  ((List.finRange 4).filter fun l => s.loops[l].due).map .silenceTimerExpiry
    ++ (s.map.misses.filter fun x => x.deadline = 0).map (fun x => .deadlineExpiry x.loop x.address)
    ++ ((List.finRange 32).map fun k => s.engine.slots[k].due k).flatten
    ++ ((List.finRange 12).filter fun i => before.audio.amps[i].fifth s.pins.ampFaultLow[i]).map .debouncedFaultChange
    ++ ([Mic.fireService, Mic.management].filter s.sessions.due).map .talkTimerExpiry
    ++ (if s.link.due then [.supervisionTimerExpiry] else [])
    ++ s.visitDue

/-- One tick: the timers and samplers move on, and the events that fall due join the queue. -/
def State.tick (s : State) : State :=
  let t := s.advance
  t.setPending (t.pending ++ State.due s t)

end Sys2Proof.Machine
end

