-- ==== Sys2Proof/Safety.lean ====
section
/-! DEFINITION. The terms in which claims are made: the invariants of the part, block by block, and what an answered request
leaves as it was. -/

namespace Sys2Proof.Machine

/-! ### Invariants, block by block -/

/-- A receiver within its bounds: up to four reports and three characters held (R3, R10), counts up to 255 (R6), the timeout
in its range and the timer within it, running exactly in AWAITING and LIVE (R12 to R14). -/
structure Receiver.Bounded (r : Receiver) : Prop where
  buffer : r.buffer.length ≤ 4
  partialReport : r.partialReport.length ≤ 3
  timeout : 10 ≤ r.timeout ∧ r.timeout ≤ 100
  running : r.timer.isSome ↔ (r.state = .awaiting ∨ r.state = .live)
  timer : ∀ t, r.timer = some t → t ≤ r.timeout
  counts : r.framing ≤ 255 ∧ r.noise ≤ 255 ∧ r.check ≤ 255 ∧ r.protocol ≤ 255 ∧ r.overrun ≤ 255
  lastCycle : r.lastCycle ≤ 255

/-- The cause map within its bounds: the cursor at or above the wired count (R21), the deadline in its range (R25), at most
four misses (R28), at most one for a device (R27, R29), their deadlines at most 100. -/
structure CauseMap.Bounded (m : CauseMap) : Prop where
  cursor : m.wired.val ≤ m.cursor.val
  deadline : 5 ≤ m.deadline ∧ m.deadline ≤ 100
  misses : m.misses.length ≤ 4
  devices : m.misses.Pairwise fun x y => ¬ (x.loop = y.loop ∧ x.address = y.address)
  deadlines : ∀ x ∈ m.misses, x.deadline ≤ 100

/-- The entry matches a device (R18): it is valid, its loop selector equals the loop or is ANY, and the address lies between
the base address and the base address plus span minus one. -/
abbrev MapEntry.Matches (e : MapEntry) (loop : Fin 4) (address : Nat) : Prop :=
  e.valid = true ∧ (e.selector = some loop ∨ e.selector = none) ∧ e.base ≤ address ∧ address ≤ e.base + e.span - 1

/-- The written map entries agree among themselves: no device is matched by two valid entries (R19), and the valid entries
of a detection zone carry one floor and one profile (R20). -/
structure CauseMap.Consistent (m : CauseMap) : Prop where
  apart : ∀ (i j : Fin 96) (loop : Fin 4) (address : Nat),
    m.entries[i].Matches loop address → m.entries[j].Matches loop address → i = j
  agree : ∀ i j : Fin 96, m.entries[i].valid = true → m.entries[j].valid = true →
    m.entries[i].zone = m.entries[j].zone →
      m.entries[i].floor = m.entries[j].floor ∧ m.entries[i].profile = m.entries[j].profile

/-- An incident within its bounds: one to twelve listed devices, no device twice (R39, R44, R45), step count at most 80
(R67), unlisted count at most 255 (R45). -/
structure Incident.Bounded (i : Incident) : Prop where
  listed : 1 ≤ i.detectors.length ∧ i.detectors.length ≤ 12
  devices : i.detectors.Pairwise fun x y => ¬ (x.loop = y.loop ∧ x.address = y.address)
  step : i.step ≤ 80
  unlisted : i.unlisted ≤ 255

/-- The incident engine within its bounds: the age list holds each live slot once and no other (R40), at most one live
incident of a detection zone (R41), F in 1..80 (R56). -/
structure Engine.Bounded (e : Engine) : Prop where
  ages : e.ages.Nodup
  live : ∀ k : Fin 32, k ∈ e.ages ↔ e.slots[k].incident.isSome
  zones : ∀ (j k : Fin 32) (a b : Incident), e.slots[j].incident = some a → e.slots[k].incident = some b →
    a.zone = b.zone → j = k
  incidents : ∀ (k : Fin 32) (i : Incident), e.slots[k].incident = some i → i.Bounded
  floors : 1 ≤ e.floors ∧ e.floors ≤ 80

/-- An open session within its bounds (R102): its talk limit in range, its talk timer at most the limit, a zone in its set.
-/
structure Session.Bounded (x : Session) : Prop where
  limit : 10 ≤ x.limit ∧ x.limit ≤ 600
  timer : x.timer ≤ x.limit * 10
  zones : x.zones ≠ []

/-- The link within its bounds: the supervision timer runs exactly in LINKED mode, and holds at most 100 (R178, R179). -/
structure Link.Bounded (l : Link) : Prop where
  running : l.supervision.isSome ↔ l.mode = .linked
  timer : ∀ t, l.supervision = some t → t ≤ 100

/-- The blocks that hold counts, timers and lists, each within its bounds; in AUTONOMOUS mode the miss list is empty (R28,
R34). -/
structure State.Bounded (s : State) : Prop where
  loops : ∀ l : Fin 4, s.loops[l].Bounded
  map : s.map.Bounded
  engine : s.engine.Bounded
  sessions : ∀ (m : Mic) (x : Session), s.sessions.of m = some x → x.Bounded
  link : s.link.Bounded
  autonomous : s.link.mode = .autonomous → s.map.misses = []
  deviceFault : ∀ d, s.notices.deviceFault = some d → 1 ≤ d.count ∧ d.count ≤ 255

/-- Every runtime record is the resolution of its zone from the inputs as they stand (R96). -/
def State.RecordsResolved (s : State) : Prop :=
  ∀ z : Fin 48, s.resolver.records[z] = resolveZone s.engine s.sessions s.resolver z

/-- The zone plan and the map lie inside the building: floors in order and below F in every used zone (R79), and floors
below F in every valid entry (R17, R56). -/
structure State.InBuilding (s : State) : Prop where
  zones : ∀ z : Fin 48, s.resolver.configs[z].kind ≠ .unused →
    s.resolver.configs[z].low ≤ s.resolver.configs[z].high ∧ s.resolver.configs[z].high < s.engine.floors
  entries : ∀ i : Fin 96, s.map.entries[i].valid = true → s.map.entries[i].floor < s.engine.floors

/-- A line record within its bounds (R160). -/
structure Line.Bounded (x : Line) : Prop where
  run : x.run ≤ 3
  allowance : x.allowance ≤ 3
  reading : x.reading = none ↔ x.run = 0

/-- The line records follow the zone table: a used zone's line is scanned, an UNUSED zone's line is NOT_SCANNED or
LOCKED_OUT (R160, R170). -/
structure State.LinesFollowPlan (s : State) : Prop where
  bounded : ∀ n : Fin 48, s.scanner.lines[n].Bounded
  used : ∀ n : Fin 48, s.resolver.configs[n].kind ≠ .unused → s.scanner.lines[n].state ≠ .notScanned
  unused : ∀ n : Fin 48, s.resolver.configs[n].kind = .unused →
    s.scanner.lines[n].state = .notScanned ∨ s.scanner.lines[n].state = .lockedOut

/-- The audio side within its bounds: no program held by two players (R134), run counts at most 4 (R124), players' counts at
most 255 and 65535 (R146), the store size in range (R153). -/
structure Audio.Bounded (a : Audio) : Prop where
  players : ∀ (j k : Fin 6) (v w : Walk), a.players[j].walk = some v → a.players[k].walk = some w →
    v.program = w.program → j = k
  runs : ∀ i : Fin 12, a.amps[i].run ≤ 4
  counts : ∀ k : Fin 6, a.players[k].failed ≤ 255 ∧ a.players[k].underruns ≤ 255
  passes : ∀ (k : Fin 6) (w : Walk), a.players[k].walk = some w → w.passes ≤ 65535
  size : 1 ≤ a.store.size ∧ a.store.size ≤ 65536

/-- The switching image follows the unit (R114, R122, R137): each amplifier's source is its feed's delivery, and exactly the
relays of CONNECTED zones are closed, each to its group's server. -/
structure State.ImageFollows (s : State) : Prop where
  sources : ∀ i : Fin 12, s.audio.image.sources[i] = s.audio.sourceOf s.audio.amps[i].feed
  relays : ∀ z : Fin 48, s.audio.image.relays[z] =
    if s.audio.connections[z] = .connected then s.audio.serverOf s.resolver.configs[z].duty else none

/-- The amplifier records agree with one another (R123 to R130): each fault shows in its amplifier's state; a NORMAL duty
amplifier serves its own group, a RECOVERED one is served by the standby standing in for it, a FAILED one by that or by
none; a standby that stands in is the server of its group; an amplifier that serves no group carries NONE with no pending
target; the unserved queue holds the groups without a server, each once, and waits only while no standby is IDLE; and no
return of R130 is due. -/
structure Audio.AmpsAgree (a : Audio) : Prop where
  duty : ∀ k : Fin 10, a.amps[dutyAmp k].state = .normal ∨ a.amps[dutyAmp k].state = .recovered ∨
    a.amps[dutyAmp k].state = .failed
  standby : ∀ i ∈ standbys, a.amps[i].state = .idle ∨ a.amps[i].state = .failed ∨ ∃ k, a.amps[i].state = .standingIn k
  faults : ∀ i : Fin 12, a.amps[i].fault = true ↔ a.amps[i].state = .failed
  normal : ∀ k : Fin 10, a.amps[dutyAmp k].state = .normal → a.serverOf k = some (dutyAmp k)
  recovered : ∀ k : Fin 10, a.amps[dutyAmp k].state = .recovered →
    ∃ i ∈ standbys, a.serverOf k = some i ∧ a.amps[i].state = .standingIn k ∧
      (a.amps[i].feed ≠ .none ∨ a.amps[i].pending ≠ none)
  failed : ∀ k : Fin 10, a.amps[dutyAmp k].state = .failed →
    (∃ i ∈ standbys, a.serverOf k = some i ∧ a.amps[i].state = .standingIn k) ∨ (a.serverOf k = none ∧ k ∈ a.unserved)
  standing : ∀ i ∈ standbys, ∀ k, a.amps[i].state = .standingIn k → a.serverOf k = some i
  spare : ∀ i : Fin 12, (∀ k : Fin 10, a.serverOf k ≠ some i) → a.amps[i].feed = .none ∧ a.amps[i].pending = none
  queue : a.unserved.Nodup ∧ ∀ k ∈ a.unserved, a.amps[dutyAmp k].state = .failed ∧ a.serverOf k = none
  waiting : a.unserved ≠ [] → ∀ i ∈ standbys, a.amps[i].state ≠ .idle
  order : a.failOrder.Nodup ∧ ∀ k : Fin 10, a.amps[dutyAmp k].state = .failed → k ∈ a.failOrder

/-- The feeds follow the records: what a group's server is to carry has the rank of the group's target (R117), a pending
target never ranks above the current feed (R119), and every zone's connection is what the table of R114 gives. -/
structure State.FeedsFollow (s : State) : Prop where
  wanted : ∀ (g : Fin 10) (i : Fin 12), s.audio.serverOf g = some i →
    (s.audio.amps[i].pending.getD s.audio.amps[i].feed).rank = (s.view.target g).rank
  held : ∀ (i : Fin 12) (x : Feed), s.audio.amps[i].pending = some x → x.rank.value ≤ s.audio.amps[i].feed.rank.value
  connections : ∀ z : Fin 48, s.audio.connections[z] = s.audio.decide s.view z

/-- Every CONNECTED zone hears a feed whose rank is at least the zone's resolved rank (R119). -/
def State.ConnectedHear (s : State) : Prop :=
  ∀ z : Fin 48, s.audio.connections[z] = .connected → ∃ i : Fin 12,
    s.audio.serverOf s.resolver.configs[z].duty = some i ∧
      s.resolver.records[z].rank.value ≤ s.audio.amps[i].feed.rank.value

/-- Nothing at the amplifier switching unit or the pool waits to happen: no pending target, no standby standing in, no
RELEASING player, and the demand list that of the feeds. -/
structure State.AudioQuiet (s : State) : Prop where
  pending : ∀ i : Fin 12, s.audio.amps[i].pending = none
  standbys : ∀ i ∈ standbys, ∀ k, s.audio.amps[i].state ≠ .standingIn k
  releasing : ∀ (k : Fin 6) (w : Walk), s.audio.players[k].walk = some w → w.releasing = false
  demand : s.audio.demand = s.audio.demandOf s.view

/-! ### Outcomes and frames -/

/-- The state after a valid request that changes nothing but what every valid request changes (R176, R177): the link, and
LINK_RESTORED where it was AUTONOMOUS. -/
def State.answer (s : State) (code : Byte) (r : Result) (payload : List Byte) : State :=
  { s with
    link := { s.link with
      mode := .linked
      supervision := some 100
      response := some { code := code, result := r, payload := payload } }
    notices := if s.link.mode = .autonomous then { s.notices with linkRestored := true } else s.notices }

/-- The two states differ at most in the audio side and the notice set. -/
def State.OnlyAudio (s t : State) : Prop :=
  t = { s with audio := t.audio, notices := t.notices }

/-- The handle names the live incident `i` in slot `k` (R36, R37). -/
def State.Names (s : State) (handle : BitVec 16) (k : Fin 32) (i : Incident) : Prop :=
  handle.toNat ≤ 8191 ∧ k.val = handle.toNat % 32 ∧ s.engine.slots[k].generation.toNat = handle.toNat / 32 ∧
    s.engine.slots[k].incident = some i

/-- At a moment the turn is loop `l`'s, whose oldest report is `r` ahead of `rest`: 3 ms have passed since the last take,
and every loop that comes before `l` after the last loop taken has an empty buffer (R10). -/
structure State.Turn (s : State) (moment : Nat) (l : Fin 4) (r : Report) (rest : List Report) : Prop where
  due : ∀ t, s.map.lastTake = some t → t + 3000000 ≤ moment
  buffer : s.loops[l].buffer = r :: rest
  passed : ∀ j : Fin 4, (j.val + 3 - s.map.lastLoop.val) % 4 < (l.val + 3 - s.map.lastLoop.val) % 4 →
    s.loops[j].buffer = []

/-- The engine with a changed record in a slot: the record takes the running tick count as changed-at and the slot joins the
changed-incident set (R38, R53). -/
def State.WithRecord (s t : State) (k : Fin 32) (i : Incident) : Prop :=
  t.engine = { s.engine with
    slots := s.engine.slots.set k { s.engine.slots[k] with incident := some { i with changedAt := s.now } }
    changed := addMember k s.engine.changed }

/-- Outside the incident engine, the resolver's records and test claims, the audio side, the notice set and the link nothing
changes; and the link changes only by a valid request. -/
structure State.OnlyIncidents (s t : State) : Prop where
  now : t.now = s.now
  loops : t.loops = s.loops
  map : t.map = s.map
  sessions : t.sessions = s.sessions
  scanner : t.scanner = s.scanner
  pins : t.pins = s.pins
  pending : t.pending = s.pending
  configs : t.resolver.configs = s.resolver.configs

/-- A command on an incident has changed its record and answered the state it left (04, Commands on Stages): every zone is
resolved again, and nothing outside the incident's reach changes. -/
structure State.StageChanged (s t : State) (code : Byte) (k : Fin 32) (i : Incident) : Prop where
  record : s.WithRecord t k i
  response : t.link = (s.answer code .ok [i.stage.name.code]).link
  resolved : t.RecordsResolved
  frame : s.OnlyIncidents t

/-- The incident after its entry to PHASED, and on to GENERAL where the coverage test passes at once (R66, R69). -/
def Engine.phasedEntry (e : Engine) (i : Incident) : Incident :=
  { i with
    step := 0
    stage :=
      if coverage e.floors e.profiles[i.profile] i.floor 0 then .general
      else if e.profiles[i.profile].interval = 0 then .phased none
      else .phased (some e.profiles[i.profile].interval) }

/-- The receiver after a character that is placed: the noise count rises where the samples of a cell disagree (R1, R6). -/
def noiseCounted (r : Receiver) (c : LineChar) : Receiver :=
  if charNoisy c then { r with noise := min 255 (r.noise + 1) } else r

/-- The check character of a report with address, kind and value characters (R2): 255 minus their sum modulo 256. -/
def checkOf (a k v : Byte) : Byte :=
  byte (255 - (a.toNat + k.toNat + v.toNat) % 256)

/-- The command-code table (11, Command Codes): each code with the length of its payload, or, for the three commands that
end in a zone list, the length of the fields before it. -/
def commandTable : List (Nat × Nat × Bool) :=
  [(0x01, 0, false), (0x02, 0, false), (0x03, 0, false), (0x10, 3, false), (0x11, 2, false), (0x20, 9, false),
   (0x21, 8, false), (0x22, 1, false), (0x23, 2, false), (0x24, 1, false), (0x25, 1, false), (0x26, 3, false),
   (0x27, 0, false), (0x28, 0, false), (0x29, 2, false), (0x30, 0, false), (0x31, 2, false), (0x32, 2, false),
   (0x33, 2, false), (0x34, 2, false), (0x35, 2, false), (0x36, 3, false), (0x37, 0, false), (0x38, 14, false),
   (0x39, 1, false), (0x3A, 1, false), (0x40, 7, false), (0x41, 1, false), (0x42, 1, false), (0x43, 1, true),
   (0x44, 0, true), (0x48, 3, true), (0x49, 1, false), (0x4A, 1, false), (0x4B, 1, false), (0x50, 1, false),
   (0x51, 0, false), (0x52, 0, false), (0x60, 12, false), (0x61, 1, false), (0x62, 2, false), (0x63, 1, false),
   (0x64, 3, false), (0x70, 1, false), (0x71, 1, false)]

/-- The payload length that a command allows (R194): the table's, and with a zone list one byte for its count, which stands
after the fixed part, and the count itself when it is 1..48. -/
def allowedLength (fixed : Nat) (zoneList : Bool) (payload : List Byte) : Nat :=
  if zoneList then
    match payload[fixed]? with
    | some count => fixed + 1 + (if 1 ≤ count.toNat ∧ count.toNat ≤ 48 then count.toNat else 0)
    | none => fixed + 1
  else fixed

/-- A bound report reaches the incident engine (R41): the engine takes it; SATURATION is raised at an ALARM that finds
neither a live incident for its detection zone nor a FREE slot (R47); and every test claim is withdrawn where an incident
then stands in PHASED or GENERAL that did not stand in an alarm stage before, or where the saturation flag becomes set
(R111). Without either, and with the flag clear, every test claim stays. -/
structure State.Reported (s t : State) (r : BoundReport) : Prop where
  engine : t.engine = s.engine.takeReport s.now s.autonomous r
  saturation : t.notices.saturation = true ↔ s.notices.saturation = true ∨
    (r.kind = .alarm ∧ ∀ k : Fin 32, ∃ i, s.engine.slots[k].incident = some i ∧ i.zone ≠ r.binding.zone)
  withdrawn : ((∃ (k : Fin 32) (i : Incident), t.engine.slots[k].incident = some i ∧
      (i.stage.name = .phased ∨ i.stage.name = .general) ∧
      ∀ old, s.engine.slots[k].incident = some old →
        old.stage.name ≠ .phased ∧ old.stage.name ≠ .general ∧ old.stage.name ≠ .silenced) ∨
    (t.engine.saturated = true ∧ s.engine.saturated = false)) → ∀ z : Fin 48, t.resolver.tests[z] = none
  kept : (∀ (k : Fin 32) (i : Incident), t.engine.slots[k].incident = some i →
      (i.stage.name = .phased ∨ i.stage.name = .general) →
      ∃ old, s.engine.slots[k].incident = some old ∧
        (old.stage.name = .phased ∨ old.stage.name = .general ∨ old.stage.name = .silenced)) →
    t.engine.saturated = false → t.resolver.tests = s.resolver.tests

/-- What every take does to the map, whatever becomes of the report: the turn and the time of the take are kept, and the
cursor moves one index down, from W to 95 (R10, R21). -/
def State.Taken (s : State) (moment : Nat) (l : Fin 4) (t : State) (misses : List Miss) : Prop :=
  t.map = { s.map with
    cursor := t.map.cursor
    lastLoop := l
    lastTake := some moment
    misses := misses } ∧
  t.map.cursor.val = if s.map.cursor.val ≤ s.map.wired.val then 95 else s.map.cursor.val - 1

/-- The response that a state holds for the next transaction (R173). -/
def State.Holds (t : State) (code : Byte) (r : Result) (payload : List Byte) : Prop :=
  t.link.response = some { code := code, result := r, payload := payload }

end Sys2Proof.Machine
end

