-- ==== Sys2Proof/WellFormed.lean ====
section
/-! DEFINITION. Which commands can be spelt on the part's ports. Operand types bound every field but the
zone list, whose count byte bounds the numbers that follow it, and the payload length, which the frame bounds. -/

namespace Sys2Proof

/-- A zone list that a count byte can introduce (R192): ALL, or up to 48 numbers (none stands for
every count outside the range). -/
def ZoneList.wf : ZoneList → Bool
  | .all => true
  | .listed zones => zones.length ≤ 48

/-- The command can be spelt. Every command but those with a zone list always can. -/
def Instr.wf : Instr → Bool
  | .zoneTestStart _ zones => zones.wf
  | .zoneTestStop zones => zones.wf
  | .micOpen _ _ zones => zones.wf
  | _ => true

end Sys2Proof
end

