-- ==== Sys2Proof/Certificates/Slice0/Obligations.lean ====
section
/-! DEFINITION. The statements for the provers. Each docstring says which rules a statement formalises. -/

open Sys2Proof Sys2Proof.Machine

/-! ### The step, the tick and power-on reset -/

/-- A step carries out the command at the front of the queue, on the state with the queue's rest. The queue is the model's
own (log entry 1). -/
def Obligations.StepRunsTheFrontCommand : Prop :=
  ∀ (s : State) (c : Instr) (rest : List Instr), s.pending = c :: rest → step s = exec c { s with pending := rest }

/-- A step on an empty queue is one tick (log entry 1): the running tick count rises by one (00, Time). Silence timers (R12,
R13), miss deadlines (R32), talk timers (R104), the supervision timer (R178) and the timers of PHASED incidents and of
INVESTIGATING ones that are not all-clear (R59, R65) fall by one; a player's tone generator runs on by 800 samples (R140,
R141); each fault line is sampled, and the fifth sample in a row that differs puts DEBOUNCED_FAULT_CHANGE into the queue
(R124); nothing else changes but the queue. That an empty queue ticks, that expiries come as commands of the queue, and that
a tone is counted at ticks, is the model's choice (log entries 1, 2 and 26). -/
def Obligations.EmptyQueueStepIsOneTick : Prop :=
  ∀ s : State, s.pending = [] → ∃ t, step s = .next t ∧
    t.now = s.now + 1 ∧
    (∀ l : Fin 4, t.loops[l] = { s.loops[l] with timer := s.loops[l].timer.map fun n => n - 1 }) ∧
    t.map = { s.map with misses := s.map.misses.map fun x => { x with deadline := x.deadline - 1 } } ∧
    (∀ m : Mic, t.sessions.of m = (s.sessions.of m).map fun x => { x with timer := x.timer - 1 }) ∧
    t.link = { s.link with supervision := s.link.supervision.map fun n => n - 1 } ∧
    t.engine = { s.engine with slots := t.engine.slots } ∧
    t.audio = { s.audio with amps := t.audio.amps, players := t.audio.players } ∧
    (∀ k : Fin 6, t.audio.players[k] = { s.audio.players[k] with
      walk := s.audio.players[k].walk.map fun w => { w with
        generator := w.generator.map fun g => { g with place := g.place + 800 } } }) ∧
    t.resolver = s.resolver ∧ t.scanner = s.scanner ∧ t.notices = s.notices ∧ t.pins = s.pins ∧
    (∀ k : Fin 32,
      t.engine.slots[k].generation = s.engine.slots[k].generation ∧
      (s.engine.slots[k].incident = none → t.engine.slots[k].incident = none) ∧
      ∀ i, s.engine.slots[k].incident = some i →
        (∀ n, i.stage = .phased (some n) →
          t.engine.slots[k].incident = some { i with stage := .phased (some (n - 1)) }) ∧
        (∀ p n, i.stage = .investigating p n → i.allClear = false →
          t.engine.slots[k].incident = some { i with stage := .investigating p (n - 1) }) ∧
        (∀ p n, i.stage = .investigating p n → i.allClear = true → t.engine.slots[k].incident = some i) ∧
        (i.stage.timer = none → t.engine.slots[k].incident = some i) ∧
        (∀ n, i.stage = .silencedPhased n → t.engine.slots[k].incident = some i)) ∧
    ∀ i : Fin 12,
      (s.pins.ampFaultLow[i] = s.audio.amps[i].fault →
        t.audio.amps[i] = { s.audio.amps[i] with run := 0 } ∧ .debouncedFaultChange i ∉ t.pending) ∧
      (s.pins.ampFaultLow[i] ≠ s.audio.amps[i].fault → s.audio.amps[i].run < 4 →
        t.audio.amps[i] = { s.audio.amps[i] with run := s.audio.amps[i].run + 1 } ∧
          .debouncedFaultChange i ∉ t.pending) ∧
      (s.pins.ampFaultLow[i] ≠ s.audio.amps[i].fault → s.audio.amps[i].run = 4 →
        t.audio.amps[i] = s.audio.amps[i] ∧ .debouncedFaultChange i ∈ t.pending)

/-- The expiries a tick puts into the queue are those of the timers that reach 0 at it, and the scanner's event is the end
of the visit in progress with the levels on the monitor pins, or else a start where a zone is used (R13, R32, R59, R104,
R161, R178; the queue is log entry 2). That a tick queues them is the model's choice. -/
def Obligations.TickQueuesWhatFallsDue : Prop :=
  ∀ s : State, s.pending = [] → ∃ t, step s = .next t ∧
    (∀ l : Fin 4, .silenceTimerExpiry l ∈ t.pending ↔
      (s.loops[l].state = .awaiting ∨ s.loops[l].state = .live) ∧ ∃ n, s.loops[l].timer = some n ∧ n ≤ 1) ∧
    (∀ (l : Fin 4) (a : Byte), .deadlineExpiry l a ∈ t.pending ↔
      ∃ x ∈ s.map.misses, x.loop = l ∧ x.address = a ∧ x.deadline ≤ 1) ∧
    (∀ k : Fin 32, .stepTimerExpiry k ∈ t.pending ↔
      ∃ i n, s.engine.slots[k].incident = some i ∧ i.stage = .phased (some n) ∧ n ≤ 1) ∧
    (∀ k : Fin 32, .investigationTimerExpiry k ∈ t.pending ↔
      ∃ i p n, s.engine.slots[k].incident = some i ∧ i.stage = .investigating p n ∧ n ≤ 1 ∧ i.allClear = false) ∧
    (∀ m : Mic, .talkTimerExpiry m ∈ t.pending ↔ ∃ x, s.sessions.of m = some x ∧ x.timer ≤ 1) ∧
    (.supervisionTimerExpiry ∈ t.pending ↔
      s.link.mode = .linked ∧ ∃ n, s.link.supervision = some n ∧ n ≤ 1) ∧
    (∀ a b : Bool, .visitEnd a b ∈ t.pending ↔ s.scanner.visit.isSome ∧ a = s.pins.cls1 ∧ b = s.pins.cls0) ∧
    (.visitStart ∈ t.pending ↔
      s.scanner.visit = none ∧ ∃ z : Fin 48, s.resolver.configs[z].kind ≠ .unused)

/-- Every command completes from every state: none of the block's commands stops it (00, Refusal and degradation; log entry
28). -/
def Obligations.EveryCommandCompletes : Prop :=
  ∀ (c : Instr) (s : State), ∃ t, exec c s = .next t

/-- Power-on reset brings the receivers (R16), the cause map (R17, R35), the engine (R55, R57) and the link (R188) to their
power-on values, and abandons a transaction in progress (R172). That the input pins and the queue are kept is the model's
choice (log entries 1, 20 and 21). -/
def Obligations.PowerOnResetReportSide : Prop :=
  ∀ s : State, ∃ t, exec .powerOnReset s = .next t ∧
    (∀ l : Fin 4, t.loops[l].state = .awaiting ∧ t.loops[l].line = .seeking ∧ t.loops[l].timeout = 30 ∧
      t.loops[l].timer = some 30 ∧ t.loops[l].partialReport = [] ∧ t.loops[l].buffer = [] ∧
      t.loops[l].framing = 0 ∧ t.loops[l].noise = 0 ∧ t.loops[l].check = 0 ∧ t.loops[l].protocol = 0 ∧
      t.loops[l].overrun = 0 ∧ t.loops[l].lastCycle = 0) ∧
    (∀ i : Fin 96, t.map.entries[i].valid = false ∧ t.map.entries[i].bytes = [0, 1, 1, 1, 0, 0, 0, 0]) ∧
    t.map.wired = 0 ∧ t.map.cursor = 95 ∧ t.map.lastLoop = 3 ∧ t.map.defaultCls = .smoke ∧
    t.map.defaultRule = .single ∧ t.map.deadline = 20 ∧ t.map.misses = [] ∧
    (∀ k : Fin 32, t.engine.slots[k].incident = none ∧ t.engine.slots[k].generation = 0) ∧
    t.engine.ages = [] ∧ t.engine.changed = [] ∧ t.engine.saturated = false ∧ t.engine.floors = 80 ∧
    (∀ n : Fin 16, t.engine.profiles[n].bytes = [1, 0, 2, 0x04, 0xB0, 0, 0x01, 0x2C, 0x07, 0x08, 0, 1, 0]) ∧
    t.link.response = none ∧ t.link.mode = .linked ∧ t.link.supervision = some 100 ∧ t.link.lastRelease = none ∧
    t.link.transaction = s.link.transaction.map (fun _ => { served := false, out := [] }) ∧
    t.notices = Notices.empty ∧ t.noticeN = true ∧ t.now = 0 ∧ t.pins = s.pins ∧ t.pending = s.pending

/-- Power-on reset brings the zone plan (R79, R95), sessions and test claims (R113), the amplifier side (R139), the players
and the store (R159) and the line scanner (R171) to their power-on values. -/
def Obligations.PowerOnResetSoundSide : Prop :=
  ∀ s : State, ∃ t, exec .powerOnReset s = .next t ∧
    (∀ z : Fin 48, t.resolver.configs[z] = { kind := .unused, low := 0, high := 0, duty := 0, load := 1 } ∧
      t.resolver.records[z] = { rank := .none, source := .none, program := none, governing := none } ∧
      t.resolver.tests[z] = none ∧ t.audio.connections[z] = .disconnected ∧ t.audio.carried[z] = false ∧
      t.scanner.lines[z] = { state := .notScanned, reading := none, run := 0, allowance := 3 }) ∧
    t.sessions.fireService = none ∧ t.sessions.management = none ∧
    (∀ k : Fin 10, t.audio.amps[dutyAmp k].state = .normal ∧ t.audio.serverOf k = some (dutyAmp k)) ∧
    (∀ i ∈ standbys, t.audio.amps[i].state = .idle) ∧
    (∀ i : Fin 12, t.audio.amps[i].fault = false ∧ t.audio.amps[i].run = 0 ∧ t.audio.amps[i].failedAt = none ∧
      t.audio.amps[i].feed = .none ∧ t.audio.amps[i].pending = none) ∧
    t.audio.unserved = [] ∧ t.audio.demand = [] ∧
    (∃ img, t.audio.shifting = some img ∧ img.lineSelect = none ∧ (∀ i : Fin 12, img.sources[i] = .none) ∧
      ∀ z : Fin 48, img.relays[z] = none) ∧
    (∀ k : Fin 6, t.audio.players[k] =
      { walk := none, failed := 0, underruns := 0, playing := none, ready := none }) ∧
    (∀ i : Fin 128, t.audio.segments[i] = .unused) ∧
    (∀ p : Fin 16, t.audio.programs[p] = { head := none, broken := false }) ∧
    t.audio.store.size = 65536 ∧ (∀ k : Fin 6, t.audio.store.requests[k] = none) ∧ t.audio.store.fetch = none ∧
    t.audio.store.lastServed = 5 ∧ t.scanner.last = 47 ∧ t.scanner.visit = none

/-! ### The command link -/

/-- Every request command is taken by the link before it is judged: LINKED with the timer at 100, LINK_RESTORED from
AUTONOMOUS, and its response in the buffer (R176, R177, R180). NOTICE_READ and an accepted RESTART, which empty the notice
set after it is raised, alone leave LINK_RESTORED otherwise (R183, R187). That a request row stands for the whole taking is
the model's reading (log entry 6). -/
def Obligations.RequestIsTakenByTheLink : Prop :=
  ∀ (i : Instr) (code : Byte) (payload : List Byte) (s : State), requestBytes i = some (code, payload) →
    ∃ t, exec i s = .next t ∧ t.link.mode = .linked ∧ t.link.supervision = some 100 ∧
      t.link.lastRelease = s.link.lastRelease ∧ t.link.transaction = s.link.transaction ∧
      (i ≠ .noticeRead → i ≠ .restart →
        (t.notices.linkRestored = true ↔ s.notices.linkRestored = true ∨ s.link.mode = .autonomous)) ∧
      ∃ r p, t.Holds code r p ∧ (r ≠ .ok → p = [] ∧ t = s.answer code r [])

/-- A refused request changes no record of any block and answers no payload (R177; 00, Refusal and degradation). -/
def Obligations.RefusalChangesNothing : Prop :=
  ∀ (i : Instr) (s : State), (serveRequest i s).result ≠ .ok →
    (serveRequest i s).payload = [] ∧ (serveRequest i s).state = s

/-- The payload that spells a well-formed request is read back as that request, every operand with it (11, Command Codes;
R192, R194). -/
def Obligations.RequestPayloadsReadBack : Prop :=
  ∀ (i : Instr) (code : Byte) (payload : List Byte), i.wf = true → requestBytes i = some (code, payload) →
    requestOf code payload = .request i

/-- A served transaction whose bytes are the frame of a well-formed request, with any fill after its CRC, carries that
request out at its release (R172, R174 to R176, R189). That a request row stands for the taking of the whole request is the
model's reading (log entry 6). -/
def Obligations.RequestFrameIsCarriedOut : Prop :=
  ∀ (i : Instr) (code : Byte) (payload : List Byte) (moment : Nat) (fill : List Bool) (s : State) (x : Transaction),
    i.wf = true → requestBytes i = some (code, payload) → s.link.transaction = some x → x.served = true →
    exec (.transactionEnd moment ((requestFrame code payload).flatMap bitsOfByte ++ fill)) s
      = exec i { s with link := { s.link with transaction := none, lastRelease := some moment } }

/-- A transaction begins at the fall of LNK_SEL_N: served, it takes the response out of the buffer for shifting out, with
00h after it; sooner than 20 us after the last release it is not served and shifts out 00h alone (R172, R173). A start
inside a transaction has no effect, and moments are nanoseconds, by the model's choice (log entries 4 and 5). -/
def Obligations.TransactionStartTakesTheResponse : Prop :=
  ∀ (moment : Nat) (s : State),
    (s.link.transaction.isSome → exec (.transactionStart moment) s = .next s) ∧
    (s.link.transaction = none → (∀ n, s.link.lastRelease = some n → n + 20000 ≤ moment) →
      ∃ x : Transaction, x.served = true ∧
        exec (.transactionStart moment) s
          = .next { s with link := { s.link with transaction := some x, response := none } } ∧
        (∀ r, s.link.response = some r →
          (∀ n (h : n < r.bytes.length), x.outByte n = r.bytes[n]) ∧ ∀ n, r.bytes.length ≤ n → x.outByte n = 0) ∧
        (s.link.response = none → ∀ n, x.outByte n = 0)) ∧
    (s.link.transaction = none → (∃ n, s.link.lastRelease = some n ∧ moment < n + 20000) →
      ∃ x : Transaction, x.served = false ∧ (∀ n, x.outByte n = 0) ∧
        exec (.transactionStart moment) s = .next { s with link := { s.link with transaction := some x } })

/-- A release that ends no transaction, an unserved one, or a poll takes no request (R172, R174). A frame that fails the
frame check is answered CHECK_FAIL with its command code, or 00h where none was received, and has no other effect (R175). A
valid request whose code the command-code table does not list is answered UNKNOWN, and one whose payload length is not the
length its command allows OUT_OF_RANGE; both count as valid for the link, and any other request is carried out as a command
of its code (R176, R194). A release without a transaction has no effect by the model's choice (log entry 4). -/
def Obligations.ReleaseWithoutCommand : Prop :=
  (∀ (moment : Nat) (bits : List Bool) (s : State),
    (s.link.transaction = none → exec (.transactionEnd moment bits) s = .next s) ∧
    (∀ x, s.link.transaction = some x →
      (x.served = false ∨ wholeBytes bits = [] ∨ ∃ b rest, wholeBytes bits = b :: rest ∧ b ≠ 0x5A) →
      exec (.transactionEnd moment bits) s
        = .next { s with link := { s.link with transaction := none, lastRelease := some moment } })) ∧
  (∀ (moment : Nat) (bits : List Bool) (s : State) (x : Transaction) (rest : List Byte),
      s.link.transaction = some x → x.served = true → wholeBytes bits = 0x5A :: rest →
      (rest.length < 2 ∨ (∃ code length body, rest = code :: length :: body ∧
        (120 < length.toNat ∨ body.length < length.toNat + 2 ∨
          (body.drop length.toNat).take 2 ≠ crcBytes (code :: length :: body.take length.toNat)))) →
      exec (.transactionEnd moment bits) s = .next { s with
        link := { s.link with
          transaction := none
          lastRelease := some moment
          response := some { code := rest.headD 0, result := .checkFail, payload := [] } } }) ∧
  ∀ (moment : Nat) (bits : List Bool) (s : State) (x : Transaction) (code length : Byte) (body : List Byte),
    s.link.transaction = some x → x.served = true → wholeBytes bits = 0x5A :: code :: length :: body →
    length.toNat ≤ 120 → length.toNat + 2 ≤ body.length →
    let payload := body.take length.toNat
    (body.drop length.toNat).take 2 = crcBytes (code :: length :: payload) →
    let released := { s with link := { s.link with transaction := none, lastRelease := some moment } }
    ((∀ row ∈ commandTable, row.1 ≠ code.toNat) →
      exec (.transactionEnd moment bits) s = .next (released.answer code .unknown [])) ∧
    ∀ (fixed : Nat) (zoneList : Bool), (code.toNat, fixed, zoneList) ∈ commandTable →
      (payload.length ≠ allowedLength fixed zoneList payload →
        exec (.transactionEnd moment bits) s = .next (released.answer code .outOfRange [])) ∧
      (payload.length = allowedLength fixed zoneList payload →
        ∃ i, (requestBytes i).map Prod.fst = some code ∧ requestOf code payload = .request i ∧
          exec (.transactionEnd moment bits) s = exec i released)

/-- The CRC (R189): loaded with FFFFh; each byte is added into the upper eight bits and shifted through eight times, 1021h
added where a 1 leaves the top; it travels high byte first; "123456789" gives 29B1h; and running it over the covered bytes
and then the two bytes received ends at 0 when they agree. -/
def Obligations.CrcRule : Prop :=
  crc [] = 0xFFFF#16 ∧
    (∀ (bs : List Byte) (b : Byte), crc (bs ++ [b]) = (fun r : BitVec 16 =>
      if r.getLsbD 15 then (r <<< 1) ^^^ 0x1021#16 else r <<< 1)^[8] (crc bs ^^^ (b.setWidth 16 <<< 8))) ∧
    (∀ bs : List Byte, crcBytes bs = [(crc bs).extractLsb' 8 8, (crc bs).extractLsb' 0 8]) ∧
    crc [0x31, 0x32, 0x33, 0x34, 0x35, 0x36, 0x37, 0x38, 0x39] = 0x29B1#16 ∧
    (∀ bs : List Byte, crc (bs ++ crcBytes bs) = 0)

/-- IDENTIFY answers the part code, the revision and the running tick count, and changes nothing but what every request does
(R185). NOTICE_N is high exactly while no notice is pending (R182). NOTICE_READ answers the pending notices, their number
first, each as its kind code and its detail in the order of the notice payload table, and empties the set with the
changed-incident set, so that NOTICE_N rises (R53, R181 to R183, R193). -/
def Obligations.IdentifyAndNoticeRead : Prop :=
  ∀ s : State,
    exec .identify s = .next (s.answer 0x01 .ok ([0x24, 0x80, 0x01] ++ bytes4 s.now)) ∧
    (s.noticeN = true ↔ s.notices = Notices.empty ∧ s.engine.changed = []) ∧
    let set := fun (kind : Byte) (members : List Nat) =>
      if members = [] then [] else [kind :: byte members.length :: members.map byte]
    let plain := fun (kind : Byte) (raised : Bool) => if raised then [[kind]] else []
    let n := s.notices
    let bodies : List (List Byte) :=
      set 0x01 (s.engine.changed.map Fin.val) ++ plain 0x02 n.bindingMiss
        ++ (match n.deviceFault with
            | some d => [[0x03, byte d.loop.val, d.address, d.kind.code, byte d.count]]
            | none => [])
        ++ set 0x04 (n.loopFault.map Fin.val) ++ set 0x05 (n.lineFault.map Fin.val)
        ++ set 0x06 (n.ampFault.map Fin.val) ++ set 0x07 (n.programBroken.map Fin.val)
        ++ set 0x08 (n.testDone.map Fin.val)
        ++ set 0x09 ((if n.micTimeoutFire then [0] else []) ++ if n.micTimeoutManagement then [1] else [])
        ++ plain 0x0A n.saturation ++ plain 0x0B (n.linkRestored || s.link.mode = .autonomous)
    ∃ t, exec .noticeRead s = .next t ∧ t.noticeN = true ∧
      t = { s.answer 0x02 .ok (byte bodies.length :: bodies.flatten) with
        notices := Notices.empty
        engine := { s.engine with changed := [] } }

/-- RESTART is refused ALARM_ACTIVE in an alarm stage or under the saturation flag; otherwise every block takes it, keeping
and emptying what its chapter says (R16, R35, R57, R95, R113, R139, R159, R171, R186, R187). Amplifier states, servers and
the unserved queue are kept, but for the groups of RECOVERED amplifiers, which return, and the standbys they free, which
take the head of the queue or are IDLE; the switching output is refreshed with the resulting image; a fetch in flight will
be dropped (R139, R156, R159). That standby 10 comes first where both are freed is the model's choice (log entry 32), as is
the order of the blocks and the refresh in any case (log entry 11). -/
def Obligations.RestartRule : Prop :=
  ∀ s : State,
    ((s.engine.saturated = true ∨ ∃ (k : Fin 32) (i : Incident), s.engine.slots[k].incident = some i ∧
        (i.stage.name = .phased ∨ i.stage.name = .general ∨ i.stage.name = .silenced)) →
      exec .restart s = .next (s.answer 0x03 .alarmActive [])) ∧
    (s.engine.saturated = false → (∀ (k : Fin 32) (i : Incident), s.engine.slots[k].incident = some i →
        i.stage.name = .watch ∨ i.stage.name = .confirming ∨ i.stage.name = .investigating) →
      ∃ t, exec .restart s = .next t ∧ t.link = (s.answer 0x03 .ok []).link ∧
        (∀ l : Fin 4, t.loops[l] = { s.loops[l] with partialReport := [], buffer := [] }) ∧
        t.map = { s.map with misses := [] } ∧
        (∀ k : Fin 32, t.engine.slots[k] = { s.engine.slots[k] with incident := none }) ∧
        t.engine = { s.engine with slots := t.engine.slots, ages := [], changed := [] } ∧
        t.sessions.fireService = none ∧ t.sessions.management = none ∧
        t.resolver.configs = s.resolver.configs ∧
        (∀ z : Fin 48, t.resolver.tests[z] = none ∧ t.resolver.records[z].rank = .none ∧
          t.audio.connections[z] = .disconnected ∧ t.audio.carried[z] = false) ∧
        (∀ i : Fin 12, t.audio.amps[i].feed = .none ∧ t.audio.amps[i].pending = none ∧
          t.audio.amps[i].fault = s.audio.amps[i].fault ∧ t.audio.amps[i].run = s.audio.amps[i].run ∧
          t.audio.amps[i].failedAt = s.audio.amps[i].failedAt) ∧
        (∀ k : Fin 6, t.audio.players[k] = { s.audio.players[k] with walk := none, playing := none, ready := none } ∧
          t.audio.store.requests[k] = none) ∧
        (
          let frees := fun i : Fin 12 => match s.audio.amps[i].state with
            | .standingIn k => decide (s.audio.amps[dutyAmp k].state = .recovered)
            | _ => false
          let freed := standbys.filter frees
          let unserved := s.audio.unserved
          (∀ k, s.audio.amps[10].state = .standingIn k → s.audio.amps[11].state ≠ .standingIn k) →
          unserved.Nodup → (∀ k ∈ unserved, s.audio.amps[dutyAmp k].state = .failed) →
          t.audio.failOrder = s.audio.failOrder ∧ t.audio.unserved = unserved.drop freed.length ∧
          (∀ i ∈ standbys, frees i = false → t.audio.amps[i].state = s.audio.amps[i].state) ∧
          (∀ (n : Nat) (i : Fin 12), freed[n]? = some i →
            (unserved[n]? = none → t.audio.amps[i].state = .idle) ∧
            ∀ j, unserved[n]? = some j → t.audio.amps[i].state = .standingIn j ∧ t.audio.serverOf j = some i) ∧
          ∀ k : Fin 10,
            ((∃ i ∈ standbys, s.audio.amps[i].state = .standingIn k ∧ s.audio.amps[dutyAmp k].state = .recovered) →
              t.audio.amps[dutyAmp k].state = .normal ∧ t.audio.serverOf k = some (dutyAmp k)) ∧
            ((∀ i ∈ standbys, s.audio.amps[i].state = .standingIn k → s.audio.amps[dutyAmp k].state ≠ .recovered) →
              t.audio.amps[dutyAmp k].state = s.audio.amps[dutyAmp k].state ∧
              (k ∉ unserved.take freed.length → t.audio.serverOf k = s.audio.serverOf k))) ∧
        (
          let image : Image :=
            { lineSelect := s.audio.image.lineSelect, sources := Vector.replicate 12 .none
              relays := Vector.replicate 48 none }
          t.audio.image = image ∧ t.audio.loaded = s.audio.loaded ∧
          (s.audio.shifting = none → t.audio.shifting = some image) ∧
          ∀ img, s.audio.shifting = some img → t.audio.shifting = some img ∧ t.audio.refreshDue = true) ∧
        t.audio.store.fetch = s.audio.store.fetch.map (fun f => { f with wanted := false }) ∧
        t.audio.demand = [] ∧ t.audio.segments = s.audio.segments ∧ t.audio.programs = s.audio.programs ∧
        t.audio.store.size = s.audio.store.size ∧ t.audio.store.lastServed = s.audio.store.lastServed ∧
        t.scanner = s.scanner ∧ t.notices = Notices.empty ∧ t.now = s.now ∧ t.pins = s.pins ∧
        t.pending = s.pending)

/-- The supervision timer of a LINKED link at 0 takes it into AUTONOMOUS mode: the timer stops; the miss list is flushed,
its entries handed to the engine in list order under the default binding, each as its first kind and then its last kind
where that differs; and every live INVESTIGATING incident then enters PHASED, the others staying as they are (R26, R31, R34,
R75, R179). An expiry that finds another mode or timer does nothing (R178). The idle expiry is the model's reading (log
entry 3), and that the flush comes before the PHASED entries its choice (log entry 12). -/
def Obligations.SupervisionExpiry : Prop :=
  ∀ s : State,
    (s.link.mode = .linked → s.link.supervision = some 0 →
      ∃ t, exec .supervisionTimerExpiry s = .next t ∧
        t.link = { s.link with mode := .autonomous, supervision := none } ∧
        t.map = { s.map with misses := [] } ∧
        (
          let default : Binding :=
            { zone := 0, floor := none, cls := s.map.defaultCls, rule := s.map.defaultRule, profile := 15 }
          let bound := fun (x : Miss) (kind : AlarmKind) =>
            ({ loop := x.loop, address := x.address, kind := kind, binding := default } : BoundReport)
          let flushed := (s.map.misses.flatMap fun x =>
            bound x x.first :: if x.last = x.first then [] else [bound x x.last]).foldl
              (fun e r => Engine.takeReport e s.now true r) s.engine
          t.engine = { flushed with slots := t.engine.slots, changed := t.engine.changed } ∧
          ∀ k : Fin 32,
            (∀ i, k ∈ flushed.ages → flushed.slots[k].incident = some i → i.stage.name = .investigating →
              t.engine.slots[k] = { flushed.slots[k] with
                incident := some { flushed.phasedEntry i with changedAt := s.now } } ∧
              k ∈ t.engine.changed) ∧
            ((k ∉ flushed.ages ∨ ∀ i, flushed.slots[k].incident = some i → i.stage.name ≠ .investigating) →
              t.engine.slots[k] = flushed.slots[k] ∧ (k ∈ t.engine.changed ↔ k ∈ flushed.changed))) ∧
        t.loops = s.loops ∧ t.sessions = s.sessions ∧ t.scanner = s.scanner ∧ t.now = s.now ∧ t.pins = s.pins ∧
        t.pending = s.pending ∧ t.resolver.configs = s.resolver.configs) ∧
    (s.link.mode = .autonomous ∨ s.link.supervision ≠ some 0 → exec .supervisionTimerExpiry s = .next s)

/-! ### Loop receivers -/

/-- A character is lost on a DISABLED loop and while the receiver waits for 1, and a glitch changes nothing; a stop cell
that reads 0 is a framing error, which abandons the report in progress, raises the framing count and waits for 1 (R1, R4).
Any other is placed by its mark bit: with the mark set it begins a report, abandoning one in progress with a protocol count;
with the mark clear it is appended, or ignored with a protocol count where none is in progress. Its eight bits are the data
cells, least significant first (R1, R3, R6). -/
def Obligations.LoopCharacterTaken : Prop :=
  ∀ (l : Fin 4) (c : LineChar) (s : State),
    ((s.loops[l].state = .disabled ∨ s.loops[l].line = .waitingForOne ∨ cellValue c.start = true) →
      exec (.loopCharacter l c) s = .next s) ∧
    (s.loops[l].state ≠ .disabled → s.loops[l].line = .seeking → cellValue c.start = false →
      cellValue c.stop = false →
      exec (.loopCharacter l c) s = .next { s with
        loops := s.loops.set l { s.loops[l] with
          line := .waitingForOne
          partialReport := []
          framing := min 255 (s.loops[l].framing + 1) } }) ∧
    (∀ j : Fin 8, (charData c).getLsbD j.val = cellValue c.data[j]) ∧
    (s.loops[l].state ≠ .disabled → s.loops[l].line = .seeking → cellValue c.start = false →
      cellValue c.stop = true →
      (cellValue c.mark = true → s.loops[l].partialReport = [] →
        exec (.loopCharacter l c) s = .next { s with
          loops := s.loops.set l { noiseCounted s.loops[l] c with partialReport := [charData c] } }) ∧
      (cellValue c.mark = true → s.loops[l].partialReport ≠ [] →
        exec (.loopCharacter l c) s = .next { s with
          loops := s.loops.set l { noiseCounted s.loops[l] c with
            partialReport := [charData c]
            protocol := min 255 (s.loops[l].protocol + 1) } }) ∧
      (cellValue c.mark = false → s.loops[l].partialReport = [] →
        exec (.loopCharacter l c) s = .next { s with
          loops := s.loops.set l { noiseCounted s.loops[l] c with
            protocol := min 255 (s.loops[l].protocol + 1) } }) ∧
      (cellValue c.mark = false →
        (s.loops[l].partialReport.length = 1 ∨ s.loops[l].partialReport.length = 2) →
        exec (.loopCharacter l c) s = .next { s with
          loops := s.loops.set l { noiseCounted s.loops[l] c with
            partialReport := s.loops[l].partialReport ++ [charData c] } }))

/-- The fourth character of a report completes it. A check that disagrees raises the check count; a kind that is no kind, or
an address that does not suit it, the protocol count. A valid report makes the loop LIVE with its timer loaded, raises
LOOP_FAULT where it was SILENT, and goes to the buffer, to DEVICE_FAULT or to the last cycle count by its kind (R2, R5 to
R10, R12). At a full buffer the overrun count rises, and an ALARM takes the place of the oldest report that is none, while
every other report, and an ALARM among alarms, is discarded (R11). -/
def Obligations.LoopReportCompleted : Prop :=
  ∀ (l : Fin 4) (c : LineChar) (a k v : Byte) (s : State),
    s.loops[l].state ≠ .disabled → s.loops[l].line = .seeking → cellValue c.start = false →
    cellValue c.stop = true → cellValue c.mark = false → s.loops[l].partialReport = [a, k, v] →
    ∃ t, exec (.loopCharacter l c) s = .next t ∧
      t = { s with loops := t.loops, notices := t.notices } ∧
      (∀ j, j ≠ l → t.loops[j] = s.loops[j]) ∧
      let r : Receiver := { noiseCounted s.loops[l] c with partialReport := [] }
      let heard : Receiver := { r with state := .live, timer := some r.timeout }
      let told : Notices :=
        if s.loops[l].state = .silent then { s.notices with loopFault := addMember l s.notices.loopFault }
        else s.notices
      (charData c ≠ checkOf a k v →
        t.loops[l] = { r with check := min 255 (r.check + 1) } ∧ t.notices = s.notices) ∧
      (charData c = checkOf a k v →
        (k.toNat ∉ [1, 2, 3, 4, 5, 15] ∨ (k.toNat = 15 ∧ a ≠ 0) ∨
            (k.toNat ≠ 15 ∧ (a.toNat = 0 ∨ 250 < a.toNat)) →
          t.loops[l] = { r with protocol := min 255 (r.protocol + 1) } ∧ t.notices = s.notices) ∧
        (k.toNat = 15 → a = 0 → t.loops[l] = { heard with lastCycle := v.toNat } ∧ t.notices = told) ∧
        (∀ kind : AlarmKind, k = kind.code → 1 ≤ a.toNat → a.toNat ≤ 250 →
          let report : Report := { loop := l, address := a, kind := kind }
          let overrun := min 255 (r.overrun + 1)
          t.notices = told ∧
          (r.buffer.length < 4 → t.loops[l] = { heard with buffer := r.buffer ++ [report] }) ∧
          (4 ≤ r.buffer.length → (kind ≠ .alarm ∨ ∀ y ∈ r.buffer, y.kind = .alarm) →
            t.loops[l] = { heard with overrun := overrun }) ∧
          ∀ before y after, 4 ≤ r.buffer.length → kind = .alarm → r.buffer = before ++ y :: after →
            (∀ z ∈ before, z.kind = .alarm) → y.kind ≠ .alarm →
            t.loops[l] = { heard with overrun := overrun, buffer := before ++ after ++ [report] }) ∧
        (∀ kind : TroubleKind, k = kind.code → 1 ≤ a.toNat → a.toNat ≤ 250 →
          t.loops[l] = heard ∧
          t.notices = { told with
            deviceFault := some
              { loop := l, address := a, kind := kind
                count := match s.notices.deviceFault with
                  | some d => min 255 (d.count + 1)
                  | none => 1 } }))

/-- A report offered to a full buffer raises the overrun count. No buffered ALARM leaves for it: an ALARM takes the place of
a report that is not one, while one stands in the buffer, and every other report is discarded (R11). -/
def Obligations.FullBufferKeepsAlarms : Prop :=
  ∀ (r : Receiver) (x : Report), r.buffer.length = 4 →
    (r.offer x).overrun = min 255 (r.overrun + 1) ∧
    ((x.kind ≠ .alarm ∨ ∀ y ∈ r.buffer, y.kind = .alarm) → (r.offer x).buffer = r.buffer) ∧
    (x.kind = .alarm → (∃ y ∈ r.buffer, y.kind ≠ .alarm) →
      ∃ before y after, r.buffer = before ++ y :: after ∧ (∀ z ∈ before, z.kind = .alarm) ∧ y.kind ≠ .alarm ∧
        (r.offer x).buffer = before ++ after ++ [x])

/-- The silence timer of an AWAITING or LIVE loop at 0 makes it SILENT with LOOP_FAULT, and an expiry that finds anything
else does nothing (R13); a line that reads 1 ends the wait after a framing error (R1). The idle expiry is the model's
reading (log entry 3). -/
def Obligations.SilenceExpiryAndLineReads1 : Prop :=
  ∀ (l : Fin 4) (s : State),
    ((s.loops[l].state = .awaiting ∨ s.loops[l].state = .live) → s.loops[l].timer = some 0 →
      exec (.silenceTimerExpiry l) s = .next { s with
        loops := s.loops.set l { s.loops[l] with state := .silent, timer := none }
        notices := { s.notices with loopFault := addMember l s.notices.loopFault } }) ∧
    ((s.loops[l].state = .disabled ∨ s.loops[l].state = .silent ∨ s.loops[l].timer ≠ some 0) →
      exec (.silenceTimerExpiry l) s = .next s) ∧
    (s.loops[l].state ≠ .disabled → exec (.loopLineReads1 l) s = .next { s with
      loops := s.loops.set l { s.loops[l] with line := .seeking } }) ∧
    (s.loops[l].state = .disabled → exec (.loopLineReads1 l) s = .next s)

/-- LOOP_CONFIG, by the present state and the enable field, and its refusals (R14); LOOP_STATUS answers the loop's record
and clears its five error counts where it is asked to (R6, R15). -/
def Obligations.LoopCommands : Prop :=
  (∀ (loop enable timeout : Byte) (s : State),
      ((3 < loop.toNat ∨ 1 < enable.toNat ∨ timeout.toNat < 10 ∨ 100 < timeout.toNat) →
        exec (.loopConfig loop enable timeout) s = .next (s.answer 0x10 .outOfRange [])) ∧
      ∀ l : Fin 4, loop.toNat = l.val → enable.toNat ≤ 1 → 10 ≤ timeout.toNat → timeout.toNat ≤ 100 →
        ∃ r : Receiver,
          exec (.loopConfig loop enable timeout) s
            = .next { s.answer 0x10 .ok [r.state.code] with loops := s.loops.set l r } ∧
          (enable = 1 → s.loops[l].state = .disabled → r = { s.loops[l] with
            state := .awaiting, line := .seeking, timeout := timeout.toNat, timer := some timeout.toNat
            partialReport := [], buffer := [] }) ∧
          (enable = 1 → s.loops[l].state = .awaiting ∨ s.loops[l].state = .live →
            r = { s.loops[l] with timeout := timeout.toNat, timer := some timeout.toNat }) ∧
          (enable = 1 → s.loops[l].state = .silent → r = { s.loops[l] with timeout := timeout.toNat }) ∧
          (enable = 0 → s.loops[l].state = .disabled → r = { s.loops[l] with timeout := timeout.toNat }) ∧
          (enable = 0 → s.loops[l].state ≠ .disabled → r = { s.loops[l] with
            state := .disabled, line := .seeking, timeout := timeout.toNat, timer := none
            partialReport := [], buffer := [] })) ∧
  ∀ (loop clear : Byte) (s : State),
    (3 < loop.toNat ∨ 1 < clear.toNat → exec (.loopStatus loop clear) s = .next (s.answer 0x11 .outOfRange [])) ∧
    ∀ l : Fin 4, loop.toNat = l.val →
      let r := s.loops[l]
      let payload := [r.state.code, byte r.timeout, byte (r.timer.getD 0), byte r.buffer.length, byte r.framing,
        byte r.noise, byte r.check, byte r.protocol, byte r.overrun, byte r.lastCycle]
      (clear = 0 → exec (.loopStatus loop clear) s = .next (s.answer 0x11 .ok payload)) ∧
      (clear = 1 → exec (.loopStatus loop clear) s = .next { s.answer 0x11 .ok payload with
        loops := s.loops.set l { r with framing := 0, noise := 0, check := 0, protocol := 0, overrun := 0 } })

/-! ### Records and lists that requests carry -/

/-- The ranges in which the fields of a written map entry (R17), profile (R55), zone configuration (R80) and segment
descriptor (R140, R142) are accepted; each accepted record reads back as it was written, the fields that its segment kind
does not have apart (R190, R191). A zone list names, by ALL, every zone, and by 1 to 48 numbers, each 0..47, the set of
them, without repeats; any other list is not accepted (R102, R192). -/
def Obligations.RecordFieldRanges : Prop :=
  (∀ (floors : Nat) (raw : RawEntry),
    ((entry? floors raw).isSome ↔
      (raw.loop.toNat ≤ 3 ∨ raw.loop = 0xFF) ∧ 1 ≤ raw.base.toNat ∧ raw.base.toNat ≤ 250 ∧
      raw.span.toNat ∈ [1, 2, 4, 8, 16, 32, 64, 128] ∧ raw.span.toNat ∣ raw.base.toNat ∧ raw.zone ≠ 0 ∧
      raw.floor.toNat < floors ∧ raw.cls.toNat ≤ 3 ∧ raw.rule.toNat ≤ 2 ∧ raw.profile.toNat ≤ 15) ∧
    ∀ e, entry? floors raw = some e → e.valid = true ∧ e.bytes =
      [raw.loop, raw.base, raw.span, raw.zone, raw.floor, raw.cls, raw.rule, raw.profile]) ∧
  (∀ raw : RawProfile,
    ((profile? raw).isSome ↔
      raw.up.toNat ≤ 79 ∧ raw.down.toNat ≤ 79 ∧ raw.margin.toNat ≤ 79 ∧ raw.limit.toNat ≤ 80 ∧
      raw.evacuate.toNat ≤ 15 ∧ raw.alert.toNat ≤ 15 ∧ raw.building.toNat ≤ 1) ∧
    ∀ p, profile? raw = some p → p.bytes = profileBytes raw) ∧
  (∀ raw : RawZone,
    ((zoneConfig? raw).isSome ↔
      raw.kind.toNat ≤ 4 ∧ raw.low.toNat ≤ 79 ∧ raw.high.toNat ≤ 79 ∧ raw.duty.toNat ≤ 9 ∧
      1 ≤ raw.load.toNat ∧ raw.load.toNat ≤ 480) ∧
    ∀ c, zoneConfig? raw = some c → c.bytes = zoneConfigBytes raw) ∧
  (∀ raw : RawSegment,
    let repeated := 1 ≤ raw.repeats.toNat ∧ raw.repeats.toNat ≤ 15 ∧ raw.next.toNat ≤ 129
    let timed := 1 ≤ raw.duration.toNat ∧ raw.duration.toNat ≤ 600
    ((segment? raw).isSome ↔
      raw.kind = 0 ∨ (raw.kind = 1 ∧ raw.pattern.toNat ≤ 3 ∧ timed ∧ repeated) ∨
      (raw.kind = 2 ∧ 1 ≤ raw.pages.toNat ∧ raw.pages.toNat ≤ 4096 ∧ raw.retries.toNat ≤ 3 ∧ repeated) ∨
      (raw.kind = 3 ∧ timed ∧ repeated)) ∧
    ∀ x, segment? raw = some x →
      (raw.kind = 0 → x = .unused) ∧
      (raw.kind = 1 → x.bytes = segmentBytes { raw with start := 0xFFFF, pages := 0xFFFF, retries := 0xFF }) ∧
      (raw.kind = 2 → x.bytes = segmentBytes { raw with pattern := 0xFF, duration := 0xFFFF }) ∧
      (raw.kind = 3 → x.bytes =
        segmentBytes { raw with pattern := 0xFF, start := 0xFFFF, pages := 0xFFFF, retries := 0xFF })) ∧
  zoneSet? .all = some (List.finRange 48) ∧
  ∀ zones : List Byte,
    ((zoneSet? (.listed zones)).isSome ↔ 1 ≤ zones.length ∧ zones.length ≤ 48 ∧ ∀ b ∈ zones, b.toNat ≤ 47) ∧
    ∀ set, zoneSet? (.listed zones) = some set →
      set.Pairwise (fun a b => a < b) ∧ ∀ z : Fin 48, z ∈ set ↔ byte z.val ∈ zones

/-! ### Cause map -/

/-- REPORT_TAKE takes the oldest report of the loop whose turn it is, and none begins before 3 ms have passed or while every
buffer is empty (R10). A pending device's report is merged; one that hits goes to the engine under its entry's binding (R21,
R27, R29). One that is neither makes, LINKED with room in the list, an entry with a fresh deadline and BINDING_MISS; at a
full list, or in AUTONOMOUS mode, it is handed on under the default binding, the full list raising BINDING_MISS (R26 to R30,
R34). A report handed to the engine raises SATURATION where the engine cannot take its ALARM (R47), and withdraws every test
claim where an incident enters an alarm stage or the saturation flag is set (R111). A take that comes too early, or finds
nothing, has no effect, and the first is due at once, by the model's choice (log entries 4, 5 and 24). -/
def Obligations.ReportTakeRule : Prop :=
  (∀ (moment : Nat) (s : State),
    (((∃ n, s.map.lastTake = some n ∧ moment < n + 3000000) ∨ ∀ l : Fin 4, s.loops[l].buffer = []) →
      exec (.reportTake moment) s = .next s) ∧
    ∀ (l : Fin 4) (r : Report) (rest : List Report), s.Turn moment l r rest →
      ∃ t, exec (.reportTake moment) s = .next t ∧
        t.loops = s.loops.set l { s.loops[l] with buffer := rest } ∧
        t.now = s.now ∧ t.sessions = s.sessions ∧ t.scanner = s.scanner ∧ t.link = s.link ∧ t.pins = s.pins ∧
        t.pending = s.pending ∧ t.resolver.configs = s.resolver.configs ∧
        ((∃ x ∈ s.map.misses, x.loop = r.loop ∧ x.address = r.address) →
          s.Taken moment l t (s.map.misses.map fun x =>
            if x.loop = r.loop ∧ x.address = r.address then { x with last := r.kind } else x) ∧
          t.engine = s.engine ∧ t.resolver = s.resolver ∧ t.audio = s.audio ∧ t.notices = s.notices) ∧
        ((∀ x ∈ s.map.misses, ¬ (x.loop = r.loop ∧ x.address = r.address)) →
          ∀ i : Fin 96, s.map.entries[i].Matches r.loop r.address.toNat →
          (∀ j : Fin 96, j < i → ¬ s.map.entries[j].Matches r.loop r.address.toNat) →
          let e := s.map.entries[i]
          s.Taken moment l t s.map.misses ∧
          s.Reported t { loop := r.loop, address := r.address, kind := r.kind, binding :=
            { zone := e.zone, floor := some e.floor, cls := e.cls, rule := e.rule, profile := e.profile } })) ∧
  ∀ (moment : Nat) (s : State) (l : Fin 4) (r : Report) (rest : List Report), s.Turn moment l r rest →
    (∀ x ∈ s.map.misses, ¬ (x.loop = r.loop ∧ x.address = r.address)) →
    (∀ i : Fin 96, ¬ s.map.entries[i].Matches r.loop r.address.toNat) →
    let bound : BoundReport :=
      { loop := r.loop, address := r.address, kind := r.kind
        binding := { zone := 0, floor := none, cls := s.map.defaultCls, rule := s.map.defaultRule, profile := 15 } }
    ∃ t, exec (.reportTake moment) s = .next t ∧
      (s.link.mode = .linked → s.map.misses.length < 4 →
        s.Taken moment l t (s.map.misses ++
          [{ loop := r.loop, address := r.address, first := r.kind, last := r.kind, deadline := s.map.deadline }]) ∧
        t = { s with
          loops := s.loops.set l { s.loops[l] with buffer := rest }
          map := t.map
          notices := { s.notices with bindingMiss := true } }) ∧
      (s.link.mode = .linked → 4 ≤ s.map.misses.length →
        s.Taken moment l t s.map.misses ∧ t.notices.bindingMiss = true ∧ s.Reported t bound) ∧
      (s.link.mode = .autonomous →
        s.Taken moment l t s.map.misses ∧ t.notices.bindingMiss = s.notices.bindingMiss ∧ s.Reported t bound)

/-- MAP_WRITE judges range, then OVERLAP, then CONFLICT: another valid entry whose selector is the same, or ANY on either
side, and whose block shares an address; another valid entry of the same detection zone with another floor or profile.
Accepted, it stores the entry, and the waiting devices it matches leave the miss list, counted in its response, and go to
the engine in list order under the written binding (R17 to R20, R22, R31). MAP_PLACE does so at the cursor, which then moves
one index down, from W to 95, and answers the index it wrote (R21, R23). Where no waiting device matches, nothing changes
but the map and what every request changes. -/
def Obligations.MapWriteAndPlace : Prop :=
  ∀ (raw : RawEntry) (s : State),
    let overlap := fun (i : Fin 96) (e : MapEntry) => ∃ j : Fin 96, j ≠ i ∧
      let x := s.map.entries[j]
      x.valid = true ∧ (e.selector = x.selector ∨ e.selector = none ∨ x.selector = none) ∧
        e.base ≤ x.base + x.span - 1 ∧ x.base ≤ e.base + e.span - 1
    let conflict := fun (i : Fin 96) (e : MapEntry) => ∃ j : Fin 96, j ≠ i ∧
      let x := s.map.entries[j]
      x.valid = true ∧ x.zone = e.zone ∧ (x.floor ≠ e.floor ∨ x.profile ≠ e.profile)
    let matched := fun e : MapEntry => s.map.misses.filter fun x => decide (e.Matches x.loop x.address.toNat)
    let unmatched := fun e : MapEntry => s.map.misses.filter fun x => decide (¬ e.Matches x.loop x.address.toNat)
    let handed := fun e : MapEntry => (matched e).flatMap fun x => x.reports
      { zone := e.zone, floor := some e.floor, cls := e.cls, rule := e.rule, profile := e.profile }
    let frame := fun (t : State) (e : MapEntry) =>
      t.engine = (handed e).foldl (fun g r => Engine.takeReport g s.now false r) s.engine ∧
        t.now = s.now ∧ t.loops = s.loops ∧ t.sessions = s.sessions ∧ t.scanner = s.scanner ∧ t.pins = s.pins ∧
        t.pending = s.pending ∧ t.resolver.configs = s.resolver.configs
    (∀ index : Byte,
      ((95 < index.toNat ∨ entry? s.engine.floors raw = none) →
        exec (.mapWrite index raw) s = .next (s.answer 0x20 .outOfRange [])) ∧
      ∀ (i : Fin 96) (e : MapEntry), index.toNat = i.val → entry? s.engine.floors raw = some e →
        (overlap i e → exec (.mapWrite index raw) s = .next (s.answer 0x20 .overlap [])) ∧
        (¬ overlap i e → conflict i e → exec (.mapWrite index raw) s = .next (s.answer 0x20 .conflict [])) ∧
        (¬ overlap i e → ¬ conflict i e → ∃ t, exec (.mapWrite index raw) s = .next t ∧
          t.map = { s.map with entries := s.map.entries.set i e, misses := unmatched e } ∧
          t.Holds 0x20 .ok [byte (matched e).length] ∧ frame t e ∧
          (matched e = [] → t = { s.answer 0x20 .ok [0] with map := t.map }))) ∧
    (entry? s.engine.floors raw = none → exec (.mapPlace raw) s = .next (s.answer 0x21 .outOfRange [])) ∧
    ∀ e : MapEntry, entry? s.engine.floors raw = some e →
      let i := s.map.cursor
      (overlap i e → exec (.mapPlace raw) s = .next (s.answer 0x21 .overlap [])) ∧
      (¬ overlap i e → conflict i e → exec (.mapPlace raw) s = .next (s.answer 0x21 .conflict [])) ∧
      (¬ overlap i e → ¬ conflict i e → ∃ t, exec (.mapPlace raw) s = .next t ∧
        t.map = { s.map with
          entries := s.map.entries.set i e, cursor := t.map.cursor, misses := unmatched e } ∧
        (t.map.cursor.val = if i.val ≤ s.map.wired.val then 95 else i.val - 1) ∧
        t.Holds 0x21 .ok [byte i.val, byte (matched e).length] ∧ frame t e ∧
        (matched e = [] → t = { s.answer 0x21 .ok [byte i.val, 0] with map := t.map }))

/-- The commands that read the map answer from it and change nothing else than any request does, MAP_PROBE with the entry
that matches the device; MAP_REMOVE, MAP_SET_WIRED and MAP_SET_DEFAULT change the map alone (R18, R24, R25, R33). -/
def Obligations.MapCommands : Prop :=
  ∀ s : State,
    (∀ index : Byte, (95 < index.toNat →
        exec (.mapRead index) s = .next (s.answer 0x22 .outOfRange []) ∧
        exec (.mapRemove index) s = .next (s.answer 0x24 .outOfRange []) ∧
        exec (.mapSetWired index) s = .next (s.answer 0x25 .outOfRange [])) ∧
      ∀ i : Fin 96, index.toNat = i.val →
        exec (.mapRead index) s = .next (s.answer 0x22 .ok
          ([if s.map.entries[i].valid then 1 else 0, if i.val < s.map.wired.val then 1 else 0]
            ++ s.map.entries[i].bytes)) ∧
        exec (.mapRemove index) s = .next { s.answer 0x24 .ok [] with
          map := { s.map with entries := s.map.entries.set i { s.map.entries[i] with valid := false } } } ∧
        exec (.mapSetWired index) s = .next { s.answer 0x25 .ok [] with
          map := { s.map with wired := i, cursor := 95 } }) ∧
    (∀ loop address : Byte, (3 < loop.toNat ∨ address.toNat = 0 ∨ 250 < address.toNat →
        exec (.mapProbe loop address) s = .next (s.answer 0x23 .outOfRange [])) ∧
      ∀ l : Fin 4, loop.toNat = l.val → 1 ≤ address.toNat → address.toNat ≤ 250 →
        ((∀ i : Fin 96, ¬ s.map.entries[i].Matches l address.toNat) →
          exec (.mapProbe loop address) s = .next (s.answer 0x23 .ok [0xFF])) ∧
        ∀ i : Fin 96, s.map.entries[i].Matches l address.toNat →
          (∀ j : Fin 96, j < i → ¬ s.map.entries[j].Matches l address.toNat) →
          exec (.mapProbe loop address) s = .next (s.answer 0x23 .ok [byte i.val])) ∧
    (∀ c r d : Byte, (3 < c.toNat ∨ 2 < r.toNat ∨ d.toNat < 5 ∨ 100 < d.toNat →
        exec (.mapSetDefault c r d) s = .next (s.answer 0x26 .outOfRange [])) ∧
      ∀ (cls : Cls) (rule : Confirm), c = cls.code → r = rule.code → 5 ≤ d.toNat → d.toNat ≤ 100 →
        exec (.mapSetDefault c r d) s = .next { s.answer 0x26 .ok [] with
          map := { s.map with defaultCls := cls, defaultRule := rule, deadline := d.toNat } }) ∧
    exec .mapStatus s = .next (s.answer 0x27 .ok
      [byte s.map.wired.val, byte s.map.cursor.val, byte (s.map.entries.toList.filter fun e => e.valid).length,
        byte s.map.misses.length, s.map.defaultCls.code, s.map.defaultRule.code, byte s.map.deadline]) ∧
    exec .missList s = .next (s.answer 0x28 .ok
      (byte s.map.misses.length :: s.map.misses.flatMap fun x =>
        [byte x.loop.val, x.address, x.first.code, x.last.code, byte x.deadline]))

/-- A device's miss list entry resolves under the default binding at its deadline (R32) and by MISS_DEFAULT (R33): it leaves
the list, and its first kind, then its last kind where it differs, go to the engine (R31). An expiry that finds no entry at
0 has no effect: the model's reading (log entry 3). -/
def Obligations.MissResolvesUnderDefault : Prop :=
  ∀ (l : Fin 4) (address : Byte) (s : State),
    ((∀ x ∈ s.map.misses, x.loop = l → x.address = address → x.deadline ≠ 0) →
      exec (.deadlineExpiry l address) s = .next s) ∧
    (∀ loop : Byte, (3 < loop.toNat ∨ address.toNat = 0 ∨ 250 < address.toNat) →
      exec (.missDefault loop address) s = .next (s.answer 0x29 .outOfRange [])) ∧
    (∀ loop : Byte, loop.toNat = l.val → 1 ≤ address.toNat → address.toNat ≤ 250 →
      (∀ x ∈ s.map.misses, ¬ (x.loop = l ∧ x.address = address)) →
      exec (.missDefault loop address) s = .next (s.answer 0x29 .notFound [])) ∧
    ∀ (before after : List Miss) (x : Miss), s.map.misses = before ++ x :: after →
      (∀ y ∈ before ++ after, ¬ (y.loop = x.loop ∧ y.address = x.address)) → x.loop = l → x.address = address →
      let bound := fun kind : AlarmKind => ({ loop := x.loop, address := x.address, kind := kind, binding :=
        { zone := 0, floor := none, cls := s.map.defaultCls, rule := s.map.defaultRule, profile := 15 } } : BoundReport)
      let reports := bound x.first :: if x.last = x.first then [] else [bound x.last]
      let taken (autonomous : Bool) :=
        reports.foldl (fun e r => Engine.takeReport e s.now autonomous r) s.engine
      (x.deadline = 0 → ∃ t, exec (.deadlineExpiry l address) s = .next t ∧
        t.map = { s.map with misses := before ++ after } ∧ t.engine = taken s.autonomous ∧ t.link = s.link ∧
        t.loops = s.loops ∧ t.sessions = s.sessions ∧ t.scanner = s.scanner) ∧
      (∀ loop : Byte, loop.toNat = l.val → 1 ≤ address.toNat → address.toNat ≤ 250 →
        ∃ t, exec (.missDefault loop address) s = .next t ∧
        t.map = { s.map with misses := before ++ after } ∧ t.engine = taken false ∧ t.Holds 0x29 .ok [] ∧
        t.loops = s.loops ∧ t.sessions = s.sessions ∧ t.scanner = s.scanner)

/-! ### Incident engine -/

/-- Every command that carries a handle checks it first (R37): above 8191 it is refused OUT_OF_RANGE, and one whose slot is
FREE or live with another generation is refused STALE; a refused command changes no record. -/
def Obligations.HandleCheck : Prop :=
  ∀ (handle : BitVec 16) (force : Byte) (s : State),
    ∀ c ∈ [(Instr.incidentRead handle, 0x31#8), (.incidentAck handle, 0x32#8), (.incidentSilence handle, 0x33#8),
      (.incidentResound handle, 0x34#8), (.incidentGeneral handle, 0x35#8), (.incidentReset handle force, 0x36#8)],
      (8191 < handle.toNat → exec c.1 s = .next (s.answer c.2 .outOfRange [])) ∧
      (handle.toNat ≤ 8191 → (∀ k : Fin 32, k.val = handle.toNat % 32 →
          s.engine.slots[k].incident = none ∨ s.engine.slots[k].generation.toNat ≠ handle.toNat / 32) →
        exec c.1 s = .next (s.answer c.2 .stale []))

/-- INCIDENT_SILENCE takes PHASED and GENERAL to SILENCED with the timer kept, INCIDENT_RESOUND takes SILENCED back to the
stage it was silenced from with that timer, and INCIDENT_GENERAL takes every stage but GENERAL to GENERAL; in any other
stage each is refused REFUSED_STATE (R58, R69, R71, R72, R74). An entry to GENERAL from no alarm stage withdraws the test
claims (R111). -/
def Obligations.IncidentStageCommands : Prop :=
  ∀ (handle : BitVec 16) (s : State) (k : Fin 32) (i : Incident), s.Names handle k i →
    (∀ x, i.stage = .phased x → ∃ t, exec (.incidentSilence handle) s = .next t ∧
      s.StageChanged t 0x33 k { i with stage := .silencedPhased x }) ∧
    (i.stage = .general → ∃ t, exec (.incidentSilence handle) s = .next t ∧
      s.StageChanged t 0x33 k { i with stage := .silencedGeneral }) ∧
    (i.stage.name ≠ .phased → i.stage.name ≠ .general →
      exec (.incidentSilence handle) s = .next (s.answer 0x33 .refusedState [])) ∧
    (∀ x, i.stage = .silencedPhased x → ∃ t, exec (.incidentResound handle) s = .next t ∧
      s.StageChanged t 0x34 k { i with stage := .phased x }) ∧
    (i.stage = .silencedGeneral → ∃ t, exec (.incidentResound handle) s = .next t ∧
      s.StageChanged t 0x34 k { i with stage := .general }) ∧
    (i.stage.name ≠ .silenced → exec (.incidentResound handle) s = .next (s.answer 0x34 .refusedState [])) ∧
    (i.stage.name ≠ .general → ∃ t, exec (.incidentGeneral handle) s = .next t ∧
      s.StageChanged t 0x35 k { i with stage := .general } ∧
      (i.stage.name ≠ .phased → i.stage.name ≠ .silenced → ∀ z : Fin 48, t.resolver.tests[z] = none)) ∧
    (i.stage.name = .general → exec (.incidentGeneral handle) s = .next (s.answer 0x35 .refusedState []))

/-- INCIDENT_ACK sets the acknowledged flag. In the ACK_WINDOW phase it also begins INVESTIGATE with the investigate time,
or, where that is 0 and the incident is not all-clear, the incident enters PHASED at once. A command that leaves the record
as it was changes nothing but what every request does (R38, R64, R65, R70). INCIDENT_RESET retires the incident where every
listed detector is CLEAR and either nothing is counted unlisted or it is forced; otherwise it is refused STILL_ACTIVE.
Retirement frees the slot, keeps its generation, takes it off the age list and into the changed set (R36, R40, R48, R50,
R53). -/
def Obligations.IncidentAckAndReset : Prop :=
  (∀ (handle : BitVec 16) (s : State) (k : Fin 32) (i : Incident), s.Names handle k i →
    let p := s.engine.profiles[i.profile]
    ((∀ n, i.stage ≠ .investigating .ackWindow n) → i.acknowledged = true →
      exec (.incidentAck handle) s = .next (s.answer 0x32 .ok [i.stage.name.code])) ∧
    ((∀ n, i.stage ≠ .investigating .ackWindow n) → i.acknowledged = false →
      ∃ t, exec (.incidentAck handle) s = .next t ∧ s.WithRecord t k { i with acknowledged := true } ∧
        t = { s.answer 0x32 .ok [i.stage.name.code] with engine := t.engine }) ∧
    (∀ n, i.stage = .investigating .ackWindow n → (p.investigate ≠ 0 ∨ i.allClear = true) →
      ∃ t, exec (.incidentAck handle) s = .next t ∧
        s.WithRecord t k { i with acknowledged := true, stage := .investigating .investigate p.investigate } ∧
        t = { s.answer 0x32 .ok [StageName.investigating.code] with engine := t.engine }) ∧
    (∀ n, i.stage = .investigating .ackWindow n → p.investigate = 0 → i.allClear = false →
      ∃ t, exec (.incidentAck handle) s = .next t ∧
        s.StageChanged t 0x32 k (s.engine.phasedEntry { i with acknowledged := true }))) ∧
  ∀ (handle : BitVec 16) (force : Byte) (s : State) (k : Fin 32) (i : Incident), s.Names handle k i →
    (1 < force.toNat → exec (.incidentReset handle force) s = .next (s.answer 0x36 .outOfRange [])) ∧
    (force.toNat ≤ 1 → ((∃ d ∈ i.detectors, d.last ≠ .clear) ∨ (force = 0 ∧ 0 < i.unlisted)) →
      exec (.incidentReset handle force) s = .next (s.answer 0x36 .stillActive [])) ∧
    (force.toNat ≤ 1 → (∀ d ∈ i.detectors, d.last = .clear) → (force = 1 ∨ i.unlisted = 0) →
      ∃ t, exec (.incidentReset handle force) s = .next t ∧
        t.engine = { s.engine with
          slots := s.engine.slots.set k { s.engine.slots[k] with incident := none }
          ages := s.engine.ages.filter fun j => j ≠ k
          changed := addMember k s.engine.changed } ∧
        t.link = (s.answer 0x36 .ok []).link ∧ t.RecordsResolved ∧ s.OnlyIncidents t)

/-- INCIDENT_READ answers the record under its handle, field by field in the order of its layout, and INCIDENT_LIST the
saturation flag and the handles in age order; SATURATION_CLEAR clears the flag, and every zone is resolved again where it
was set (R47, R51, R52, R54, R96). PROFILE_WRITE is refused OUT_OF_RANGE, then BUSY, and otherwise replaces the profile,
which PROFILE_READ answers (R55). BUILDING_SET is judged OUT_OF_RANGE, ALARM_ACTIVE, OUT_OF_RANGE in that order, and sets F
(R56). -/
def Obligations.EngineCommands : Prop :=
  ((∀ (handle : BitVec 16) (s : State) (k : Fin 32) (i : Incident), s.Names handle k i →
    let timer := match i.stage with
      | .investigating _ n => some n
      | .phased n | .silencedPhased n => n
      | _ => none
    let silencedFrom : Byte := match i.stage with
      | .silencedPhased _ => 3
      | .silencedGeneral => 4
      | _ => 0xFF
    let phase : Byte := match i.stage with
      | .investigating .ackWindow _ => 0
      | .investigating .investigate _ => 1
      | _ => 0xFF
    let clear := (∀ d ∈ i.detectors, d.last = .clear) ∧ i.unlisted = 0
    let flags := (if timer.isSome then 1 else 0) + (if i.acknowledged then 2 else 0) + if clear then 4 else 0
    exec (.incidentRead handle) s = .next (s.answer 0x31 .ok
      ([byte (handle.toNat / 256), byte handle.toNat, byte i.zone, match i.floor with
          | some f => byte f
          | none => 0xFF,
        i.cls.code, i.rule.code, byte i.profile.val, i.stage.name.code, silencedFrom, byte i.step, byte flags,
        byte (timer.getD 0 / 256), byte (timer.getD 0), phase, byte i.unlisted]
        ++ bytes4 i.openedAt ++ bytes4 i.changedAt ++ [byte i.detectors.length]
        ++ i.detectors.flatMap fun d => [byte d.loop.val, d.address, d.last.code] ++ bytes4 d.firstSeen))) ∧
  ∀ s : State,
    exec .incidentList s = .next (s.answer 0x30 .ok
      ([if s.engine.saturated then 1 else 0, byte s.engine.ages.length]
        ++ (s.engine.ages.map fun k => bytes2 (s.engine.slots[k].generation.toNat * 32 + k.val)).flatten)) ∧
    (s.engine.saturated = false → exec .saturationClear s = .next (s.answer 0x37 .ok [])) ∧
    (s.engine.saturated = true → ∃ t, exec .saturationClear s = .next t ∧
      t.engine = { s.engine with saturated := false } ∧ t.link = (s.answer 0x37 .ok []).link ∧
      t.resolver.tests = s.resolver.tests ∧ t.RecordsResolved ∧ s.OnlyIncidents t)) ∧
  (∀ (number : Byte) (raw : RawProfile) (s : State),
    (15 < number.toNat → exec (.profileRead number) s = .next (s.answer 0x39 .outOfRange [])) ∧
    ((15 < number.toNat ∨ profile? raw = none) →
      exec (.profileWrite number raw) s = .next (s.answer 0x38 .outOfRange [])) ∧
    ∀ n : Fin 16, number.toNat = n.val →
      exec (.profileRead number) s = .next (s.answer 0x39 .ok s.engine.profiles[n].bytes) ∧
      ∀ p, profile? raw = some p →
        (((∃ (k : Fin 32) (i : Incident), s.engine.slots[k].incident = some i ∧ i.profile = n) ∨
            (n = 15 ∧ s.engine.saturated = true)) →
          exec (.profileWrite number raw) s = .next (s.answer 0x38 .busy [])) ∧
        ((∀ (k : Fin 32) (i : Incident), s.engine.slots[k].incident = some i → i.profile ≠ n) →
            (n = 15 → s.engine.saturated = false) →
          exec (.profileWrite number raw) s = .next { s.answer 0x38 .ok [] with
            engine := { s.engine with profiles := s.engine.profiles.set n p } })) ∧
  ∀ (floors : Byte) (s : State),
    let live := ∃ k : Fin 32, s.engine.slots[k].incident ≠ none
    let reached := (∃ i : Fin 96, s.map.entries[i].valid = true ∧ floors.toNat ≤ s.map.entries[i].floor) ∨
      ∃ z : Fin 48, s.resolver.configs[z].kind ≠ .unused ∧ floors.toNat ≤ s.resolver.configs[z].high
    ((floors.toNat = 0 ∨ 80 < floors.toNat) → exec (.buildingSet floors) s = .next (s.answer 0x3A .outOfRange [])) ∧
    (1 ≤ floors.toNat → floors.toNat ≤ 80 → live →
      exec (.buildingSet floors) s = .next (s.answer 0x3A .alarmActive [])) ∧
    (1 ≤ floors.toNat → floors.toNat ≤ 80 → ¬ live → reached →
      exec (.buildingSet floors) s = .next (s.answer 0x3A .outOfRange [])) ∧
    (1 ≤ floors.toNat → floors.toNat ≤ 80 → ¬ live → ¬ reached →
      exec (.buildingSet floors) s = .next { s.answer 0x3A .ok [] with
        engine := { s.engine with floors := floors.toNat } })

/-- The timer of an INVESTIGATING incident that is not all-clear takes it to PHASED at 0, which withdraws every test claim
(R64, R111). A step timer at 0 raises the step count by one, and the coverage test then takes the incident to GENERAL or
leaves it PHASED with a fresh timer, or with none at step 80 (R67). An expiry that finds neither does nothing (R59, R65).
The coverage test passes when the phase limit is reached, or when the evacuation ring reaches the top and the bottom of the
building (R68). The idle expiry is the model's reading (log entry 3). -/
def Obligations.StageTimerExpiries : Prop :=
  (∀ (floors step : Nat) (p : Profile) (floor : Option Nat), 1 ≤ floors →
    (coverage floors p floor step = true ↔
      (p.limit ≠ 0 ∧ p.limit ≤ step) ∨
      ∃ f : Nat, floor = some f ∧
        (floors : Int) - 1 ≤ f + min ((p.up : Int) + step) (floors - 1) ∧
        (f : Int) - min ((p.down : Int) + step) (floors - 1) ≤ 0)) ∧
  ∀ (k : Fin 32) (s : State),
    ((∀ i, s.engine.slots[k].incident = some i → i.allClear = true ∨ ∀ p, i.stage ≠ .investigating p 0) →
      exec (.investigationTimerExpiry k) s = .next s) ∧
    ((∀ i, s.engine.slots[k].incident = some i → i.stage ≠ .phased (some 0)) →
      exec (.stepTimerExpiry k) s = .next s) ∧
    ∀ i, s.engine.slots[k].incident = some i →
      (∀ p, i.stage = .investigating p 0 → i.allClear = false →
        ∃ t, exec (.investigationTimerExpiry k) s = .next t ∧ s.WithRecord t k (s.engine.phasedEntry i) ∧
          (∀ z : Fin 48, t.resolver.tests[z] = none) ∧ t.link = s.link ∧ t.RecordsResolved ∧ s.OnlyIncidents t) ∧
      (i.stage = .phased (some 0) → i.step < 80 →
        ∃ t, exec (.stepTimerExpiry k) s = .next t ∧
          s.WithRecord t k { i with
            step := i.step + 1
            stage :=
              if coverage s.engine.floors s.engine.profiles[i.profile] i.floor (i.step + 1) then .general
              else if i.step + 1 = 80 ∨ s.engine.profiles[i.profile].interval = 0 then .phased none
              else .phased (some s.engine.profiles[i.profile].interval) } ∧
          (s.engine.saturated = false → t.resolver.tests = s.resolver.tests) ∧ t.link = s.link ∧
          t.RecordsResolved ∧ s.OnlyIncidents t)

/-- A bound report for a detection zone without a live incident (R36, R40 to R42, R47, R60, R63): a CLEAR is ignored; an
ALARM or PREALARM makes an incident in the lowest FREE slot, under the next generation and last in the age list, whose stage
the alarm entry test gives; at a full table an ALARM sets the saturation flag and a PREALARM is ignored. -/
def Obligations.EngineOpensIncident : Prop :=
  ∀ (e : Engine) (now : Tick) (autonomous : Bool) (r : BoundReport),
    (∀ (k : Fin 32) (i : Incident), e.slots[k].incident = some i → i.zone ≠ r.binding.zone) →
    (r.kind = .clear → e.takeReport now autonomous r = e) ∧
    ((∀ k : Fin 32, e.slots[k].incident ≠ none) →
      (r.kind = .alarm → e.takeReport now autonomous r = { e with saturated := true }) ∧
      (r.kind = .prealarm → e.takeReport now autonomous r = e)) ∧
    ∀ k : Fin 32, e.slots[k].incident = none → (∀ j : Fin 32, j < k → e.slots[j].incident ≠ none) →
      r.kind ≠ .clear →
      let opened : Incident :=
        { zone := r.binding.zone, floor := r.binding.floor, cls := r.binding.cls, rule := r.binding.rule
          profile := r.binding.profile, stage := .watch, step := 0, acknowledged := false
          detectors := [{ loop := r.loop, address := r.address, last := r.kind, firstSeen := now }]
          unlisted := 0, openedAt := now, changedAt := now }
      let window := e.profiles[r.binding.profile].ackWindow
      ∃ i, e.takeReport now autonomous r = { e with
          slots := e.slots.set k { generation := e.slots[k].generation + 1, incident := some i }
          ages := e.ages ++ [k]
          changed := addMember k e.changed } ∧
        (r.kind = .prealarm → i = opened) ∧
        (r.kind = .alarm → (r.binding.cls = .callPoint ∨ r.binding.cls = .sprinkler ∨ r.binding.rule = .single) →
          i = e.phasedEntry opened) ∧
        (r.kind = .alarm → (r.binding.cls = .smoke ∨ r.binding.cls = .heat) → r.binding.rule = .coincident →
          i = { opened with stage := .confirming }) ∧
        (r.kind = .alarm → (r.binding.cls = .smoke ∨ r.binding.cls = .heat) → r.binding.rule = .delayed →
          i = if window = 0 ∨ autonomous = true then e.phasedEntry opened
            else { opened with stage := .investigating .ackWindow window })

/-- Detector accounting (R44, R45): a listed device updates its entry, where an ALARM stays under a PREALARM; another is
appended while the list holds fewer than 12; past that the unlisted count rises, up to 255, with ALARM and PREALARM and
falls, down to 0, with CLEAR. -/
def Obligations.DetectorAccounting : Prop :=
  ∀ (now : Tick) (r : BoundReport) (i : Incident),
    ((∃ d ∈ i.detectors, d.loop = r.loop ∧ d.address = r.address) → i.account now r = { i with
      detectors := i.detectors.map fun d =>
        if d.loop = r.loop ∧ d.address = r.address then
          { d with last := if d.last = .alarm ∧ r.kind = .prealarm then .alarm else r.kind }
        else d }) ∧
    ((∀ d ∈ i.detectors, ¬ (d.loop = r.loop ∧ d.address = r.address)) →
      (i.detectors.length < 12 → i.account now r = { i with
        detectors := i.detectors ++
          [{ loop := r.loop, address := r.address, last := r.kind, firstSeen := now }] }) ∧
      (12 ≤ i.detectors.length → r.kind ≠ .clear → i.account now r = { i with unlisted := min 255 (i.unlisted + 1) }) ∧
      (12 ≤ i.detectors.length → r.kind = .clear → i.account now r = { i with unlisted := i.unlisted - 1 }))

/-- A bound report for the detection zone of a live incident is accounted first; WATCH and CONFIRMING retire when that
leaves them all-clear (R43, R49); an ALARM puts a WATCH incident to the alarm entry test (R60, R61), confirms a CONFIRMING
one (R62), takes an INVESTIGATING one to PHASED when it is another device's or urgent (R63), and resounds a SILENCED one
(R72, R73). Any other report leaves an INVESTIGATING incident its stage, phase and timer, and where it ends all-clear with
the timer at 0 the timer expires at once (R59, R63, R65); PHASED and GENERAL keep their stage. -/
def Obligations.LiveIncidentTakesReport : Prop :=
  ∀ (e : Engine) (now : Tick) (autonomous : Bool) (r : BoundReport) (k : Fin 32) (old : Incident),
    e.slots[k].incident = some old → old.zone = r.binding.zone →
    (∀ (j : Fin 32) (i : Incident), j ≠ k → e.slots[j].incident = some i → i.zone ≠ r.binding.zone) →
    let i := old.account now r
    let e' := e.takeReport now autonomous r
    let urgent := r.binding.cls = .callPoint ∨ r.binding.cls = .sprinkler
    ((old.stage.name = .watch ∨ old.stage.name = .confirming) → i.allClear = true → r.kind ≠ .alarm → e' = { e with
      slots := e.slots.set k { e.slots[k] with incident := none }
      ages := e.ages.filter fun j => j ≠ k
      changed := addMember k e.changed }) ∧
    ((old.stage.name = .watch ∨ old.stage.name = .confirming) → i.allClear = false → r.kind ≠ .alarm →
      e' = e.put now k old i) ∧
    (old.stage = .confirming → r.kind = .alarm → i.allClear = false →
      e' = e.put now k old
        (if urgent ∨ 2 ≤ (i.detectors.filter fun d => d.last = .alarm).length ∨ 0 < i.unlisted
          then e.phasedEntry i else i)) ∧
    (∀ p n, old.stage = .investigating p n → r.kind = .alarm →
      (urgent ∨ ∃ d rest, i.detectors = d :: rest ∧ ¬ (d.loop = r.loop ∧ d.address = r.address)) →
      e' = e.put now k old (e.phasedEntry i)) ∧
    (∀ p n, old.stage = .investigating p n →
      (r.kind ≠ .alarm ∨ (¬ urgent ∧ ∃ d rest, i.detectors = d :: rest ∧ d.loop = r.loop ∧ d.address = r.address)) →
      e' = e.put now k old (if old.allClear = true ∧ i.allClear = false ∧ n = 0 then e.phasedEntry i else i)) ∧
    (old.stage = .watch → r.kind = .alarm → i.allClear = false →
      let window := e.profiles[old.profile].ackWindow
      let first := ∃ d rest, i.detectors = d :: rest ∧ d.loop = r.loop ∧ d.address = r.address
      let several := 2 ≤ (i.detectors.filter fun d => d.last = .alarm).length ∨ 0 < i.unlisted
      ((urgent ∨ old.cls = .callPoint ∨ old.cls = .sprinkler ∨ old.rule = .single ∨
          (old.rule = .coincident ∧ several) ∨
          (old.rule = .delayed ∧ (¬ first ∨ window = 0 ∨ autonomous = true))) →
        e' = e.put now k old (e.phasedEntry i)) ∧
      (¬ urgent → (old.cls = .smoke ∨ old.cls = .heat) →
        (old.rule = .coincident → ¬ several → e' = e.put now k old { i with stage := .confirming }) ∧
        (old.rule = .delayed → first → window ≠ 0 → autonomous = false →
          e' = e.put now k old { i with stage := .investigating .ackWindow window, acknowledged := false }))) ∧
    ((old.stage.name = .phased ∨ old.stage.name = .general) → e' = e.put now k old i) ∧
    (∀ n, old.stage = .silencedPhased n → r.kind = .alarm → e' = e.put now k old { i with stage := .phased n }) ∧
    (old.stage = .silencedGeneral → r.kind = .alarm → e' = e.put now k old { i with stage := .general }) ∧
    (old.stage.name = .silenced → r.kind ≠ .alarm → e' = e.put now k old i)

/-! ### Zone resolver -/

/-- An incident in GENERAL claims EVACUATE on every used zone (R89), and a PHASED incident of known floor EVACUATE on every
STAIR (R86), one of unknown floor ALERT on every used zone (R88); in any other stage, and on an UNUSED zone, an incident
claims nothing (R58, R83). -/
def Obligations.ClaimsByStage : Prop :=
  ∀ (floors : Nat) (p : Profile) (i : Incident) (z : ZoneConfig),
    (z.kind = .unused → i.claim floors p z = .none) ∧
    (i.stage.name ≠ .phased → i.stage.name ≠ .general → i.claim floors p z = .none) ∧
    (z.kind ≠ .unused → i.stage.name = .general → i.claim floors p z = .evacuate) ∧
    (z.kind = .stair → i.stage.name = .phased → i.floor.isSome → i.claim floors p z = .evacuate) ∧
    (z.kind ≠ .unused → i.stage.name = .phased → i.floor = none → i.claim floors p z = .alert)

/-- The rings of a PHASED incident of known floor (R84, R85, R87): a FLOOR or CAR_PARK zone that holds the fire floor or
lies within the grown radius on its side evacuates; else one within the margin beyond it, or any under building alert, is
alerted; else it is not claimed. A LIFT_LOBBY takes what a FLOOR zone of its range takes, raised to ALERT. -/
def Obligations.RingClaims : Prop :=
  ∀ (floors f : Nat) (p : Profile) (i : Incident) (z : ZoneConfig),
    1 ≤ floors → z.low ≤ z.high → i.stage.name = .phased → i.floor = some f →
    let up := min (p.up + i.step) (floors - 1)
    let down := min (p.down + i.step) (floors - 1)
    let inside := (z.low ≤ f ∧ f ≤ z.high) ∨ (f < z.low ∧ z.low ≤ f + up) ∨ (z.high < f ∧ f ≤ z.high + down)
    let near := (f < z.low ∧ z.low ≤ f + up + p.margin) ∨ (z.high < f ∧ f ≤ z.high + down + p.margin)
    ((z.kind = .floor ∨ z.kind = .carPark) →
      (inside → i.claim floors p z = .evacuate) ∧
      (¬ inside → (near ∨ p.building = true) → i.claim floors p z = .alert) ∧
      (¬ inside → ¬ near → p.building = false → i.claim floors p z = .none)) ∧
    (z.kind = .liftLobby → i.claim floors p z =
      if i.claim floors p { z with kind := .floor } = .none then .alert
      else i.claim floors p { z with kind := .floor })

/-- Phased growth never takes a claim back: at a higher step count a PHASED incident claims at least the rank it claimed on
each zone, since its radii only grow (R84 to R88). -/
def Obligations.RingsOnlyGrow : Prop :=
  ∀ (floors : Nat) (p : Profile) (i : Incident) (z : ZoneConfig) (later : Nat),
    z.low ≤ z.high → i.stage.name = .phased → i.step ≤ later →
    (i.claim floors p z).value ≤ ({ i with step := later }.claim floors p z).value

/-- While the saturation flag is set, every zone that is not UNUSED resolves to EVACUATE or LIVE_FIRE, and to LIVE_FIRE only
where the fire service microphone speaks (R90). -/
def Obligations.SaturationEvacuates : Prop :=
  ∀ (e : Engine) (x : Sessions) (r : Resolver) (z : Fin 48), e.saturated = true → r.configs[z].kind ≠ .unused →
    let record := resolveZone e x r z
    (record.rank = .evacuate ∨ record.rank = .liveFire) ∧
    (record.rank = .liveFire ↔ ∃ y, x.fireService = some y ∧ z ∈ y.zones)

/-- The oldest incident that gives a zone EVACUATE governs it, ahead of the saturation flag and of every younger incident,
with the evacuate program of its profile; one that gives ALERT governs where nothing higher claims the zone (R92 to R94).
The fire service microphone comes before every incident's claim, and the management microphone before ALERT. On a zone no
incident claims, the fire service microphone comes before the saturation flag, that before the management microphone, that
before a test claim; UNUSED or unclaimed, it resolves to NONE (R91, R92, R94). -/
def Obligations.ResolvedSource : Prop :=
  (∀ (e : Engine) (x : Sessions) (r : Resolver) (z : Fin 48) (before after : List (Fin 32)) (k : Fin 32) (i : Incident),
    r.configs[z].kind ≠ .unused → e.ages = before ++ k :: after → e.slots[k].incident = some i →
    (∀ y, x.fireService = some y → z ∉ y.zones) →
    let claimOf := fun i : Incident => i.claim e.floors e.profiles[i.profile] r.configs[z]
    let handle := e.slots[k].generation.toNat * 32 + k.val
    (claimOf i = .evacuate →
      (∀ j ∈ before, ∀ y, e.slots[j].incident = some y → claimOf y ≠ .evacuate) →
      resolveZone e x r z =
        { rank := .evacuate, source := .incident, program := some e.profiles[i.profile].evacuate
          governing := some handle }) ∧
    (claimOf i = .alert → e.saturated = false → (∀ y, x.management = some y → z ∉ y.zones) →
      (∀ j ∈ e.ages, ∀ y, e.slots[j].incident = some y → claimOf y ≠ .evacuate) →
      (∀ j ∈ before, ∀ y, e.slots[j].incident = some y → claimOf y ≠ .alert) →
      resolveZone e x r z =
        { rank := .alert, source := .incident, program := some e.profiles[i.profile].alert
          governing := some handle })) ∧
  (∀ (e : Engine) (x : Sessions) (r : Resolver) (z : Fin 48), r.configs[z].kind ≠ .unused →
    let fire := ∃ y, x.fireService = some y ∧ z ∈ y.zones
    (fire → resolveZone e x r z = { rank := .liveFire, source := .fireService, program := none, governing := none }) ∧
    (¬ fire → e.saturated = false → (∃ y, x.management = some y ∧ z ∈ y.zones) →
      (∀ j ∈ e.ages, ∀ i, e.slots[j].incident = some i →
        i.claim e.floors e.profiles[i.profile] r.configs[z] ≠ .evacuate) →
      resolveZone e x r z = { rank := .liveMgmt, source := .management, program := none, governing := none })) ∧
  ∀ (e : Engine) (x : Sessions) (r : Resolver) (z : Fin 48),
    (∀ j ∈ e.ages, ∀ i, e.slots[j].incident = some i → i.claim e.floors e.profiles[i.profile] r.configs[z] = .none) →
    let fire := ∃ y, x.fireService = some y ∧ z ∈ y.zones
    let management := ∃ y, x.management = some y ∧ z ∈ y.zones
    let record := resolveZone e x r z
    (r.configs[z].kind = .unused → record = ZoneRecord.empty) ∧
    (r.configs[z].kind ≠ .unused →
      (fire → record = { rank := .liveFire, source := .fireService, program := none, governing := none }) ∧
      (¬ fire → e.saturated = true → record =
        { rank := .evacuate, source := .saturation, program := some e.profiles[15].evacuate, governing := none }) ∧
      (¬ fire → e.saturated = false → management → record =
        { rank := .liveMgmt, source := .management, program := none, governing := none }) ∧
      (¬ fire → e.saturated = false → ¬ management →
        (∀ p, r.tests[z] = some p → record =
          { rank := .test, source := .test, program := some p, governing := none }) ∧
        (r.tests[z] = none → record = ZoneRecord.empty)))

/-- ZONE_WRITE is refused OUT_OF_RANGE, then ALARM_ACTIVE while its zone is not DISCONNECTED, then OVERLOAD where the load
summed over the duty amplifier exceeds 480 W (R80, R81). Accepted, it stores the five fields, resolves the zone again (R96),
answers the summed load, and brings the zone's line into or out of use (R170). -/
def Obligations.ZoneWriteRule : Prop :=
  ∀ (zone : Byte) (raw : RawZone) (s : State),
    ((47 < zone.toNat ∨ zoneConfig? raw = none) →
      exec (.zoneWrite zone raw) s = .next (s.answer 0x40 .outOfRange [])) ∧
    ∀ (z : Fin 48) (c : ZoneConfig), zone.toNat = z.val → zoneConfig? raw = some c →
      let load : Nat := (if c.kind = .unused then 0 else c.load) +
        ∑ y : Fin 48, if y ≠ z ∧ s.resolver.configs[y].kind ≠ .unused ∧ s.resolver.configs[y].duty = c.duty
          then s.resolver.configs[y].load else 0
      let inside := c.kind = .unused ∨ (c.low ≤ c.high ∧ c.high < s.engine.floors)
      (¬ inside → exec (.zoneWrite zone raw) s = .next (s.answer 0x40 .outOfRange [])) ∧
      (inside → s.audio.connections[z] ≠ .disconnected →
        exec (.zoneWrite zone raw) s = .next (s.answer 0x40 .alarmActive [])) ∧
      (inside → s.audio.connections[z] = .disconnected → c.kind ≠ .unused → 480 < load →
        exec (.zoneWrite zone raw) s = .next (s.answer 0x40 .overload [])) ∧
      (inside → s.audio.connections[z] = .disconnected → (c.kind = .unused ∨ load ≤ 480) →
        ∃ t, exec (.zoneWrite zone raw) s = .next t ∧
        t.resolver.configs = s.resolver.configs.set z c ∧ t.resolver.tests = s.resolver.tests ∧
        t.Holds 0x40 .ok [byte (load / 256), byte load] ∧ t.RecordsResolved ∧
        t.engine = s.engine ∧ t.map = s.map ∧ t.sessions = s.sessions ∧ t.loops = s.loops ∧ t.now = s.now ∧
        t.pins = s.pins ∧ t.pending = s.pending ∧ t.scanner.last = s.scanner.last ∧
        (∀ n, n ≠ z → t.scanner.lines[n] = s.scanner.lines[n]) ∧
        let x := s.scanner.lines[z]
        (s.resolver.configs[z].kind = .unused → c.kind ≠ .unused → t.scanner.lines[z] =
          { x with state := if x.state = .lockedOut then .lockedOut else .normal, reading := none, run := 0 }) ∧
        (s.resolver.configs[z].kind ≠ .unused → c.kind = .unused → t.scanner.lines[z] =
          (if x.state = .lockedOut then x else { x with state := .notScanned, reading := none, run := 0 }) ∧
          t.scanner.visit = s.scanner.visit.map fun v => if v.line = z then { v with discard := true } else v) ∧
        ((s.resolver.configs[z].kind = .unused ↔ c.kind = .unused) → t.scanner = s.scanner))

/-- ZONE_READ answers the five fields of a zone's configuration and ZONE_STATUS the nine of its status, as they stand; a
zone number above 47 is refused OUT_OF_RANGE; neither changes anything more than every request does (R82, R100). -/
def Obligations.ZoneReadAndStatus : Prop :=
  ∀ (zone : Byte) (s : State),
    (47 < zone.toNat →
      exec (.zoneRead zone) s = .next (s.answer 0x41 .outOfRange []) ∧
      exec (.zoneStatus zone) s = .next (s.answer 0x42 .outOfRange [])) ∧
    ∀ z : Fin 48, zone.toNat = z.val →
      let c := s.resolver.configs[z]
      let r := s.resolver.records[z]
      exec (.zoneRead zone) s = .next (s.answer 0x41 .ok
        [c.kind.code, byte c.low, byte c.high, byte c.duty.val, byte (c.load / 256), byte c.load]) ∧
      exec (.zoneStatus zone) s = .next (s.answer 0x42 .ok
        ([c.kind.code, byte r.rank.value, r.source.code, optByte (r.program.map Fin.val)] ++ optBytes2 r.governing
          ++ [s.audio.connections[z].code, if s.audio.carried[z] then 1 else 0, s.scanner.lines[z].state.code,
            optByte (if c.kind = .unused then none else (s.audio.amps[dutyAmp c.duty].server.map Fin.val))]))

/-- ZONE_TEST_START is refused OUT_OF_RANGE, then ALARM_ACTIVE; accepted, it places a claim naming its program on every zone
listed, in place of an earlier one, and answers how many of them are used (R109). ZONE_TEST_STOP withdraws the claims of the
zones listed and answers their number (R110). -/
def Obligations.ZoneTests : Prop :=
  ∀ (zones : ZoneList) (s : State),
    (zoneSet? zones = none → exec (.zoneTestStop zones) s = .next (s.answer 0x44 .outOfRange [])) ∧
    (∀ program : Byte, (zoneSet? zones = none ∨ 15 < program.toNat) →
      exec (.zoneTestStart program zones) s = .next (s.answer 0x43 .outOfRange [])) ∧
    ∀ set, zoneSet? zones = some set →
      (∀ (program : Byte) (p : Fin 16), program.toNat = p.val →
        let alarm := s.engine.saturated = true ∨ ∃ (k : Fin 32) (i : Incident), s.engine.slots[k].incident = some i ∧
          (i.stage.name = .phased ∨ i.stage.name = .general ∨ i.stage.name = .silenced)
        (alarm → exec (.zoneTestStart program zones) s = .next (s.answer 0x43 .alarmActive [])) ∧
        (¬ alarm → ∃ t, exec (.zoneTestStart program zones) s = .next t ∧
          (∀ z : Fin 48, t.resolver.tests[z] = if z ∈ set then some p else s.resolver.tests[z]) ∧
          t.Holds 0x43 .ok [byte (set.filter fun z => s.resolver.configs[z].kind ≠ .unused).length] ∧
          t.engine = s.engine ∧ t.RecordsResolved ∧ s.OnlyIncidents t)) ∧
      ((∀ z ∈ set, s.resolver.tests[z] = none) → exec (.zoneTestStop zones) s = .next (s.answer 0x44 .ok [0])) ∧
      ((∃ z ∈ set, s.resolver.tests[z] ≠ none) → ∃ t, exec (.zoneTestStop zones) s = .next t ∧
        (∀ z : Fin 48, t.resolver.tests[z] = if z ∈ set then none else s.resolver.tests[z]) ∧
        t.Holds 0x44 .ok [byte (set.filter fun z => s.resolver.tests[z] ≠ none).length] ∧
        t.engine = s.engine ∧ t.RecordsResolved ∧ s.OnlyIncidents t)

/-! ### Microphone sessions -/

/-- The microphone sessions: MIC_OPEN, MIC_REFRESH, MIC_CLOSE and MIC_STATUS with their refusals (R103, R105 to R107), and
the expiry of a talk timer, which closes the session with MIC_TIMEOUT (R104). Opening, closing and timing out are input
changes (R96). The idle expiry is the model's reading (log entry 3). -/
def Obligations.MicSessionsRule : Prop :=
  ∀ (mic : Byte) (limit : BitVec 16) (zones : ZoneList) (s : State),
    ((1 < mic.toNat ∨ zoneSet? zones = none ∨ limit.toNat < 10 ∨ 600 < limit.toNat) →
      exec (.micOpen mic limit zones) s = .next (s.answer 0x48 .outOfRange [])) ∧
    (1 < mic.toNat →
      exec (.micRefresh mic) s = .next (s.answer 0x49 .outOfRange []) ∧
      exec (.micClose mic) s = .next (s.answer 0x4A .outOfRange []) ∧
      exec (.micStatus mic) s = .next (s.answer 0x4B .outOfRange [])) ∧
    ∀ m : Mic, mic = Mic.code m →
      (∀ set, zoneSet? zones = some set → 10 ≤ limit.toNat → limit.toNat ≤ 600 →
        (s.sessions.of m ≠ none → exec (.micOpen mic limit zones) s = .next (s.answer 0x48 .busy [])) ∧
        (s.sessions.of m = none → ∃ t, exec (.micOpen mic limit zones) s = .next t ∧
          t.sessions = s.sessions.put m (some
            { zones := set, limit := limit.toNat, timer := limit.toNat * 10, openedAt := s.now }) ∧
          t.Holds 0x48 .ok
            (bytes4 s.now ++ [byte (set.filter fun z => s.resolver.configs[z].kind ≠ .unused).length]) ∧
          t.engine = s.engine ∧ t.resolver.tests = s.resolver.tests ∧ t.RecordsResolved)) ∧
      (s.sessions.of m = none →
        exec (.micRefresh mic) s = .next (s.answer 0x49 .notFound []) ∧
        exec (.micClose mic) s = .next (s.answer 0x4A .notFound []) ∧
        exec (.micStatus mic) s = .next (s.answer 0x4B .ok [0]) ∧
        exec (.talkTimerExpiry m) s = .next s) ∧
      ∀ x, s.sessions.of m = some x →
        exec (.micRefresh mic) s = .next { s.answer 0x49 .ok (bytes2 (x.limit * 10)) with
          sessions := s.sessions.put m (some { x with timer := x.limit * 10 }) } ∧
        exec (.micStatus mic) s = .next (s.answer 0x4B .ok
          ([1] ++ zoneBitmap x.zones ++ bytes2 x.limit ++ bytes2 x.timer ++ bytes4 x.openedAt)) ∧
        (∃ t, exec (.micClose mic) s = .next t ∧ t.sessions = s.sessions.put m none ∧
          t.Holds 0x4A .ok (bytes4 (s.now - x.openedAt)) ∧
          t.engine = s.engine ∧ t.resolver.tests = s.resolver.tests ∧ t.RecordsResolved) ∧
        (x.timer ≠ 0 → exec (.talkTimerExpiry m) s = .next s) ∧
        (x.timer = 0 → ∃ t, exec (.talkTimerExpiry m) s = .next t ∧ t.sessions = s.sessions.put m none ∧
          t.notices.micTimeoutFire = (s.notices.micTimeoutFire || m = .fireService) ∧
          t.notices.micTimeoutManagement = (s.notices.micTimeoutManagement || m = .management) ∧
          t.link = s.link ∧ t.engine = s.engine ∧ t.resolver.tests = s.resolver.tests ∧ t.RecordsResolved)

/-! ### Amplifiers, feeds and players -/

/-- The feed table (R119): a target that is the same feed, of higher rank, or against a feed no player delivers switches at
once, discarding a pending target; against a feed a player delivers, any other target becomes pending. At a boundary of a
player each server it feeds that holds a pending target switches to it, and no other server does (R120). -/
def Obligations.FeedSwitching : Prop :=
  ∀ (a : Audio) (i : Fin 12) (target : Feed) (k : Fin 6),
    let c := a.amps[i].feed
    let delivered := ∃ (j : Fin 6) (w : Walk), a.players[j].walk = some w ∧ c.program? = some w.program
    ((target.rank = c.rank ∧ target.program? = c.program?) ∨ c.rank.value < target.rank.value ∨ ¬ delivered →
      a.applyTarget i target
        = { a with amps := a.amps.set i { a.amps[i] with feed := target, pending := none } }) ∧
    (¬ (target.rank = c.rank ∧ target.program? = c.program?) → target.rank.value ≤ c.rank.value → delivered →
      a.applyTarget i target = { a with amps := a.amps.set i { a.amps[i] with pending := some target } }) ∧
    a.boundary k = { a with amps := (a.boundary k).amps } ∧
    (∀ x, a.amps[i].pending = some x → a.delivererOf c = some k →
      (a.boundary k).amps[i] = { a.amps[i] with feed := x, pending := none }) ∧
    (a.amps[i].pending = none ∨ a.delivererOf c ≠ some k → (a.boundary k).amps[i] = a.amps[i])

/-- The target of a group's server has the highest rank among its candidate zones, and its program is one resolved there at
that rank: in ALERT and EVACUATE the one whose governing incident is the oldest, which is the feed's age key, with no key
only where none of that rank has a live governing incident; in TEST the lowest (R117). The connection table (R114), line by
line, and the carried flag (R116). -/
def Obligations.TargetAndConnection : Prop :=
  (∀ (v : View) (g : Fin 10),
    (∀ z : Fin 48, v.records[z].rank = .test ∨ v.records[z].rank = .alert ∨ v.records[z].rank = .evacuate →
      v.records[z].program.isSome) →
    let candidate := fun z : Fin 48 => v.configs[z].duty = g ∧ v.configs[z].kind ≠ .unused ∧
      v.records[z].rank ≠ .none ∧ v.lines[z].state.eligible = true
    ((∀ z, ¬ candidate z) → v.target g = .none) ∧
    (∀ z, candidate z → v.records[z].rank.value ≤ (v.target g).rank.value) ∧
    ((∃ z, candidate z) → ∃ z, candidate z ∧ v.records[z].rank = (v.target g).rank ∧
      ∀ p, (v.target g).program? = some p → v.records[z].program = some p) ∧
    (∀ (rank : ProgramRank) (p : Fin 16) (h : Nat), v.target g = .program rank p (some h) →
      h ∈ v.ages ∧
      (∃ z, candidate z ∧ v.records[z].rank = rank.rank ∧ v.records[z].governing = some h ∧
        v.records[z].program = some p) ∧
      ∀ (z : Fin 48) (h' : Nat), candidate z → v.records[z].rank = rank.rank → v.records[z].governing = some h' →
        h' ∈ v.ages → v.ages.idxOf h ≤ v.ages.idxOf h') ∧
    (∀ (rank : ProgramRank) (p : Fin 16), v.target g = .program rank p none → rank ≠ .test →
      ∀ (z : Fin 48) (h : Nat), candidate z → v.records[z].rank = rank.rank → v.records[z].governing = some h →
        h ∉ v.ages) ∧
    ∀ (p : Fin 16) (key : Option Nat), v.target g = .program .test p key → key = none ∧
      ∀ (z : Fin 48) (q : Fin 16), candidate z → v.records[z].rank = .test → v.records[z].program = some q → p ≤ q) ∧
  ∀ (v : View) (a : Audio) (z : Fin 48),
    let rank := v.records[z].rank
    let server := a.serverOf v.configs[z].duty
    let held := a.connections[z] = .connected ∧ ∃ i, server = some i ∧ a.amps[i].pending ≠ none
    let out := v.lines[z].state = .short ∨ v.lines[z].state = .isolated ∨ v.lines[z].state = .lockedOut
    (v.configs[z].kind = .unused → a.decide v z = .disconnected) ∧
    (v.configs[z].kind ≠ .unused →
      (out → rank ≠ .none → a.decide v z = .isolated) ∧
      (out → rank = .none → a.decide v z = .disconnected) ∧
      (¬ out → rank = .none → held → a.decide v z = .connected) ∧
      (¬ out → rank = .none → ¬ held → a.decide v z = .disconnected) ∧
      (¬ out → rank ≠ .none → server = none → a.decide v z = .unserved) ∧
      (¬ out → rank ≠ .none → server ≠ none → a.decide v z = .connected)) ∧
    (∀ c, a.carriedFlag v z c = true ↔ c = .connected ∧ ∃ i, server = some i ∧
      (rank.value < a.amps[i].feed.rank.value ∨
        (rank = a.amps[i].feed.rank ∧ a.amps[i].feed.program? ≠ v.records[z].program)))

/-- A zone group moves between working servers with its feed and pending target, leaving the old server with none; to no
server it loses both (R125). No other group's server and no amplifier's state changes. -/
def Obligations.GroupMoves : Prop :=
  ∀ (v : View) (a : Audio) (g : Fin 10) (i : Fin 12), a.serverOf g = some i →
    (∀ j, i ≠ j →
      let b := a.moveGroup v g (some j)
      b.serverOf g = some j ∧ b.amps[j].feed = a.amps[i].feed ∧ b.amps[j].pending = a.amps[i].pending ∧
      b.amps[i].feed = .none ∧ b.amps[i].pending = none ∧
      (∀ h, h ≠ g → b.serverOf h = a.serverOf h) ∧
      (∀ k : Fin 12, b.amps[k].state = a.amps[k].state ∧
        (k ≠ i → k ≠ j → b.amps[k].feed = a.amps[k].feed ∧ b.amps[k].pending = a.amps[k].pending)) ∧
      b = { a with amps := b.amps }) ∧
    let b := a.moveGroup v g none
    b.serverOf g = none ∧ b.amps[i].feed = .none ∧ b.amps[i].pending = none ∧
    (∀ h, h ≠ g → b.serverOf h = a.serverOf h) ∧
    (∀ k : Fin 12, b.amps[k].state = a.amps[k].state ∧
      (k ≠ i → b.amps[k].feed = a.amps[k].feed ∧ b.amps[k].pending = a.amps[k].pending)) ∧
    b = { a with amps := b.amps }

/-- DEBOUNCED_FAULT_CHANGE of a duty amplifier. A fault makes a NORMAL or RECOVERED one FAILED, with failed-at and
AMP_FAULT. The group of a NORMAL one moves to the lowest IDLE standby, which stands in for it; where both standbys are
FAILED or stand in for a FAILED amplifier, it has no server and joins the unserved queue. The group of a RECOVERED one stays
where it is. A fault gone brings a FAILED one without a server back to NORMAL with its group; one whose standby carries a
feed becomes RECOVERED, and one whose standby carries none NORMAL at once (R124, R126, R127, R129, R130). That the command
changes the fault whenever it is taken is the model's choice (log entry 33). -/
def Obligations.DutyAmplifierFaults : Prop :=
  ∀ (k : Fin 10) (s : State),
    let amp := s.audio.amps[dutyAmp k]
    ∃ t, exec (.debouncedFaultChange (dutyAmp k)) s = .next t ∧ s.OnlyAudio t ∧
      t.audio.amps[dutyAmp k].fault = !amp.fault ∧ t.audio.amps[dutyAmp k].run = 0 ∧
      ((amp.state = .normal ∨ amp.state = .recovered) → amp.fault = false → k ∉ s.audio.unserved →
        t.audio.amps[dutyAmp k].state = .failed ∧ t.audio.amps[dutyAmp k].failedAt = some s.now ∧
        dutyAmp k ∈ t.notices.ampFault ∧
        (amp.state = .recovered → t.audio.serverOf k = s.audio.serverOf k) ∧
        (∀ i ∈ standbys, amp.state = .normal → s.audio.amps[i].state = .idle →
          (∀ j ∈ standbys, j < i → s.audio.amps[j].state ≠ .idle) →
          t.audio.amps[i].state = .standingIn k ∧ t.audio.serverOf k = some i ∧ i ∈ t.notices.ampFault) ∧
        (amp.state = .normal → (∀ i ∈ standbys, s.audio.amps[i].state = .failed ∨
            ∃ j, s.audio.amps[i].state = .standingIn j ∧ s.audio.amps[dutyAmp j].state = .failed) →
          t.audio.serverOf k = none ∧ k ∈ t.audio.unserved)) ∧
      (amp.state = .failed → amp.fault = true →
        dutyAmp k ∈ t.notices.ampFault ∧
        (s.audio.serverOf k = none →
          t.audio.amps[dutyAmp k].state = .normal ∧ t.audio.serverOf k = some (dutyAmp k) ∧
          k ∉ t.audio.unserved) ∧
        ∀ i ∈ standbys, s.audio.serverOf k = some i → s.audio.amps[i].state = .standingIn k →
          s.audio.amps[i].pending = none → (∀ j, s.audio.amps[otherStandby i].state ≠ .standingIn j) →
          (s.audio.amps[i].feed ≠ .none →
            t.audio.amps[dutyAmp k].state = .recovered ∧ t.audio.serverOf k = some i ∧
            t.audio.amps[i].state = .standingIn k) ∧
          (s.audio.amps[i].feed = .none → s.audio.unserved = [] →
            t.audio.amps[dutyAmp k].state = .normal ∧ t.audio.serverOf k = some (dutyAmp k) ∧
            t.audio.amps[i].state = .idle ∧ i ∈ t.notices.ampFault))

/-- DEBOUNCED_FAULT_CHANGE of a standby amplifier. A fault makes an IDLE or STANDING_IN one FAILED, with AMP_FAULT; the
group it carried returns to a RECOVERED amplifier, moves to the other standby where that is IDLE, or, where that is FAILED
or stands in for another, has no server and joins the unserved queue. A fault gone makes a FAILED one IDLE, and where the
unserved queue is not empty it takes the group at its head at once (R124, R128, R129). That the command changes the fault
whenever it is taken is the model's choice (log entry 33). -/
def Obligations.StandbyAmplifierFaults : Prop :=
  ∀ (i : Fin 12) (s : State), i ∈ standbys →
    let amp := s.audio.amps[i]
    ∃ t, exec (.debouncedFaultChange i) s = .next t ∧ s.OnlyAudio t ∧
      t.audio.amps[i].fault = !amp.fault ∧ t.audio.amps[i].run = 0 ∧
      (amp.fault = false → (amp.state = .idle ∨ ∃ k, amp.state = .standingIn k) →
        t.audio.amps[i].state = .failed ∧ i ∈ t.notices.ampFault) ∧
      (∀ k, amp.fault = false → amp.state = .standingIn k → k ∉ s.audio.unserved →
        (s.audio.amps[dutyAmp k].state = .recovered →
          t.audio.amps[dutyAmp k].state = .normal ∧ t.audio.serverOf k = some (dutyAmp k)) ∧
        (s.audio.amps[dutyAmp k].state = .failed → s.audio.amps[otherStandby i].state = .idle →
          t.audio.amps[otherStandby i].state = .standingIn k ∧ t.audio.serverOf k = some (otherStandby i)) ∧
        (s.audio.amps[dutyAmp k].state = .failed →
          (s.audio.amps[otherStandby i].state = .failed ∨
            ∃ j, s.audio.amps[otherStandby i].state = .standingIn j ∧ s.audio.amps[dutyAmp j].state = .failed) →
          k ∈ s.audio.failOrder →
          t.audio.serverOf k = none ∧ k ∈ t.audio.unserved ∧
            t.audio.amps[otherStandby i].state = s.audio.amps[otherStandby i].state)) ∧
      (amp.fault = true → amp.state = .failed →
        i ∈ t.notices.ampFault ∧
        (s.audio.unserved = [] → t.audio.amps[i].state = .idle) ∧
        ∀ k rest, s.audio.unserved = k :: rest → s.audio.amps[dutyAmp k].state = .failed →
          (∀ j, s.audio.amps[otherStandby i].state ≠ .standingIn j) →
          t.audio.amps[i].state = .standingIn k ∧ t.audio.serverOf k = some i ∧ t.audio.unserved = rest)

/-- AMP_RESTORE gives the group of a RECOVERED amplifier back and frees its standby, which takes the head of the unserved
queue, with no AMP_FAULT; it is refused for other amplifiers (R131). AMP_STATUS and PLAYER_STATUS answer the records as they
stand, with the unserved queue and the demand list, each field in its place (R132, R138, R190, R191). SWITCHING_LOAD ends
the shift-out in progress, and the matrix holds the image it carried (R122). A load with no shift-out in progress has no
effect by the model's choice (log entry 4). -/
def Obligations.AmplifierCommands : Prop :=
  ∀ s : State,
    (∀ amp : Byte,
      (11 < amp.toNat → exec (.ampRestore amp) s = .next (s.answer 0x50 .outOfRange [])) ∧
      (amp.toNat = 10 ∨ amp.toNat = 11 → exec (.ampRestore amp) s = .next (s.answer 0x50 .refusedState [])) ∧
      ∀ k : Fin 10, amp.toNat = k.val →
        (s.audio.amps[dutyAmp k].state ≠ .recovered →
          exec (.ampRestore amp) s = .next (s.answer 0x50 .refusedState [])) ∧
        ∀ i ∈ standbys, s.audio.amps[dutyAmp k].state = .recovered → s.audio.amps[i].state = .standingIn k →
          (∀ j, s.audio.amps[otherStandby i].state ≠ .standingIn j) →
          (s.audio.unserved = [] → ∃ t, exec (.ampRestore amp) s = .next t ∧
            t.audio.amps[dutyAmp k].state = .normal ∧ t.audio.serverOf k = some (dutyAmp k) ∧
            t.audio.amps[i].state = .idle ∧ t.notices.ampFault = s.notices.ampFault ∧
            t.Holds 0x50 .ok [byte i.val, 0xFF]) ∧
          (∀ j rest, s.audio.unserved = j :: rest → s.audio.amps[dutyAmp j].state = .failed →
            ∃ t, exec (.ampRestore amp) s = .next t ∧
            t.audio.amps[dutyAmp k].state = .normal ∧ t.audio.serverOf k = some (dutyAmp k) ∧
            t.audio.amps[i].state = .standingIn j ∧ t.audio.serverOf j = some i ∧ t.audio.unserved = rest ∧
            t.notices.ampFault = s.notices.ampFault ∧ t.Holds 0x50 .ok [byte i.val, byte j.val])) ∧
    (
      let optional := fun x : Option Nat => match x with
        | some n => byte n
        | none => (0xFF : Byte)
      let optional2 := fun x : Option Nat => match x with
        | some n => [byte (n / 256), byte n]
        | none => [0xFF, 0xFF]
      let feed := fun f : Feed => match f with
        | .none => [0, 0xFF, 0xFF, 0xFF]
        | .mic .fireService => [5, 0xFF, 0xFF, 0xFF]
        | .mic .management => [3, 0xFF, 0xFF, 0xFF]
        | .program r p key => byte r.rank.value :: byte p.val :: optional2 key
      let delivery := fun f : Feed => match f with
        | .none => (0 : Byte)
        | .mic .fireService => 8
        | .mic .management => 9
        | .program r p _ => match s.audio.playerOf p with
          | some k => byte (k.val + 1)
          | none => match r with
            | .test => 0x0C
            | .alert => 0x0A
            | .evacuate => 0x0B
      let amp := fun i : Fin 12 =>
        let x := s.audio.amps[i]
        [x.state.code, byte ((if x.fault then 128 else 0) + (if x.failedAt.isSome then 64 else 0) + x.run)]
          ++ bytes4 (x.failedAt.getD 0) ++ [optional (x.server.map Fin.val)] ++ feed x.feed ++ [delivery x.feed]
          ++ match x.pending with
            | some f => feed f
            | none => [0xFF, 0xFF, 0xFF, 0xFF]
      let player := fun k : Fin 6 =>
        let x := s.audio.players[k]
        match x.walk with
        | none => [0, 0xFF, 0, 0, 0, 0, 0xFF, 0, 0xFF, 0xFF, 0xFF, 0xFF, 0, 0, byte x.failed, byte x.underruns]
        | some w => [if w.releasing then 2 else 1, byte w.program.val] ++ bytes4 w.takenAt
          ++ [optional (w.current.map Fin.val), byte w.left, optional (w.clip.map ClipWalk.retries)]
          ++ optional2 (w.clip.map ClipWalk.position) ++ [w.output.code, byte (w.passes / 256), byte w.passes,
            byte x.failed, byte x.underruns]
      let demand := fun d : Demand => [byte d.program.val, byte d.rank.rank.value] ++ optional2 d.key
        ++ [match s.audio.playerOf d.program with
            | some k => byte (k.val + 1)
            | none => if s.audio.programs[d.program].broken then 0x81 else 0x80]
      (∃ records : List Byte, records.length = 192 ∧
        (∀ (i : Fin 12) (n : Nat), n < 16 → records[i.val * 16 + n]? = (amp i)[n]?) ∧
        exec .ampStatus s = .next (s.answer 0x51 .ok
          (records ++ byte s.audio.unserved.length :: s.audio.unserved.map fun k => byte k.val))) ∧
      ∃ records : List Byte, records.length = 96 ∧
        (∀ (k : Fin 6) (n : Nat), n < 16 → records[k.val * 16 + n]? = (player k)[n]?) ∧
        exec .playerStatus s = .next (s.answer 0x52 .ok
          (records ++ byte s.audio.demand.length :: s.audio.demand.flatMap demand))) ∧
    (s.audio.shifting = none → exec .switchingLoad s = .next s) ∧
    ∀ img, s.audio.shifting = some img → exec .switchingLoad s = .next { s with audio := { s.audio with
      loaded := some img
      shifting := if s.audio.refreshDue then some s.audio.image else none
      refreshDue := false } }

/-! ### Segments, programs and the store port -/

/-- SEGMENT_WRITE is refused OUT_OF_RANGE, then BUSY while the segment is some player's current one, and otherwise replaces
the descriptor; SEGMENT_READ answers it with the players in it (R142, R143). PROGRAM_SET writes the head and clears BROKEN,
which stays clear through the allocation pass that follows where the new head passes the consistency check, or where nothing
demands the program; PROGRAM_READ answers the entry (R144, R145, R148). STORE_SET sets the size (R153). -/
def Obligations.SegmentAndProgramCommands : Prop :=
  ∀ s : State,
    (∀ (index : Byte) (raw : RawSegment),
      (127 < index.toNat → exec (.segmentRead index) s = .next (s.answer 0x61 .outOfRange [])) ∧
      (127 < index.toNat ∨ segment? raw = none →
        exec (.segmentWrite index raw) s = .next (s.answer 0x60 .outOfRange [])) ∧
      ∀ i : Fin 128, index.toNat = i.val →
        let inside := fun k : Fin 6 => ∃ w, s.audio.players[k].walk = some w ∧ w.current = some i
        (∃ b : Byte, (∀ k : Fin 6, b.getLsbD k.val = true ↔ inside k) ∧ b.toNat < 64 ∧
          exec (.segmentRead index) s = .next (s.answer 0x61 .ok (s.audio.segments[i].bytes ++ [b]))) ∧
        ∀ x, segment? raw = some x →
          ((∃ k, inside k) → exec (.segmentWrite index raw) s = .next (s.answer 0x60 .busy [])) ∧
          ((∀ k, ¬ inside k) → exec (.segmentWrite index raw) s = .next { s.answer 0x60 .ok [] with
            audio := { s.audio with segments := s.audio.segments.set i x } })) ∧
    (∀ program head : Byte,
      (15 < program.toNat → exec (.programRead program) s = .next (s.answer 0x63 .outOfRange [])) ∧
      (15 < program.toNat ∨ (127 < head.toNat ∧ head ≠ 0xFF) →
        exec (.programSet program head) s = .next (s.answer 0x62 .outOfRange [])) ∧
      ∀ p : Fin 16, program.toNat = p.val →
        exec (.programRead program) s = .next (s.answer 0x63 .ok
          [optByte (s.audio.programs[p].head.map Fin.val), if s.audio.programs[p].broken then 1 else 0,
            optByte ((s.audio.playerOf p).map Fin.val)]) ∧
        ∀ h : Option (Fin 128), head = optByte (h.map Fin.val) →
          (s.audio.programs[p].broken = false → exec (.programSet program head) s = .next { s.answer 0x62 .ok [] with
            audio := { s.audio with programs := s.audio.programs.set p { head := h, broken := false } } }) ∧
          (s.audio.programs[p].broken = true → ∃ t, exec (.programSet program head) s = .next t ∧
            t.Holds 0x62 .ok [] ∧ t.audio.programs[p].head = h ∧
            (∀ q : Fin 16, t.audio.programs[q].head = if q = p then h else s.audio.programs[q].head) ∧
            t.audio.segments = s.audio.segments ∧
            (∀ j, h = some j → s.audio.consistent j = true → t.audio.programs[p].broken = false) ∧
            (s.audio.unserved = [] →
              (∀ i : Fin 12, (s.audio.amps[i].pending.getD s.audio.amps[i].feed).program? ≠ some p) →
              t.audio.programs[p].broken = false))) ∧
    ∀ size : BitVec 24,
      (size.toNat = 0 ∨ 65536 < size.toNat → exec (.storeSet size) s = .next (s.answer 0x64 .outOfRange [])) ∧
      (1 ≤ size.toNat → size.toNat ≤ 65536 → exec (.storeSet size) s = .next { s.answer 0x64 .ok [] with
        audio := { s.audio with store := { s.audio.store with size := size.toNat } } })

/-- ARBITER_GRANT begins the fetch of the first waiting player after the last served, when none is in flight (R155), and
sends 03h and the page's byte address. FETCH_COMPLETE ends it: an unwanted page is dropped; a good one plays at once where
it is waited for, with the request for the next, or waits its turn; a bad one costs a retry, or abandons the repetition to
its fallback, whose tone starts from its beginning (R141, R152, R154, R156 to R158). A page is good when the CRC of its 254
samples equals its last two bytes, the high byte first (R152). A grant or a completion that cannot occur has no effect by
the model's choice (log entry 4), and the page position kept in a fallback is the model's reading (log entry 15). -/
def Obligations.StorePortRule : Prop :=
  ∀ (s : State) (samples : Vector Byte 254) (check : Vector Byte 2),
    let st := s.audio.store
    ((st.fetch ≠ none ∨ ∀ k : Fin 6, st.requests[k] = none) → exec .arbiterGrant s = .next s) ∧
    (∀ (k : Fin 6) (page : Nat), st.fetch = none → st.requests[k] = some page →
      (∀ j : Fin 6, (j.val + 5 - st.lastServed.val) % 6 < (k.val + 5 - st.lastServed.val) % 6 →
        st.requests[j] = none) →
      exec .arbiterGrant s = .next { s with audio := { s.audio with store := { st with
        requests := st.requests.set k none
        fetch := some { player := k, page := page, wanted := true }
        lastServed := k } } }) ∧
    (∀ f : Fetch, f.page < 65536 → f.command = [0x03, byte (f.page / 256), byte f.page, 0]) ∧
    (st.fetch = none → exec (.fetchComplete samples check) s = .next s) ∧
    ∀ f, st.fetch = some f →
      (f.wanted = false → exec (.fetchComplete samples check) s = .next
        { s with audio := { s.audio with store := { st with fetch := none } } }) ∧
      ∀ (w : Walk) (c : ClipWalk) (seg : Fin 128) (start pages retries repeats : Nat) (next : Next),
        f.wanted = true → s.audio.players[f.player].walk = some w → w.clip = some c → w.current = some seg →
        s.audio.segments[seg] = .clip start pages retries repeats next →
        let waiting := w.output = .startWait ∨ w.output = .underrun
        ∃ t, exec (.fetchComplete samples check) s = .next t ∧
          t = { s with audio := { s.audio with
            players := s.audio.players.set f.player t.audio.players[f.player]
            store := { st with fetch := none, requests := t.audio.store.requests } } } ∧
          let p := s.audio.players[f.player]
          let p' := t.audio.players[f.player]
          let q := t.audio.store.requests
          (crc samples.toList = check[0] ++ check[1] →
            (waiting →
              p' = { p with
                walk := some { w with output := .segment, clip := some c }, playing := some samples, ready := none } ∧
              q = if c.position + 1 < pages then st.requests.set f.player (some (start + c.position + 1))
                else st.requests) ∧
            (w.output = .segment → p' = { p with ready := some samples } ∧ q = st.requests)) ∧
          (crc samples.toList ≠ check[0] ++ check[1] →
            (0 < c.retries →
              p' = { p with walk := some { w with clip := some { c with retries := c.retries - 1 } } } ∧
              q = st.requests.set f.player (some f.page)) ∧
            (c.retries = 0 → q = st.requests ∧ p'.failed = min 255 (p.failed + 1) ∧
              p'.underruns = p.underruns) ∧
            (c.retries = 0 → waiting → p'.playing = none ∧ p'.ready = none ∧
              p'.walk = some { w with
                output := .fallback, clip := some c
                generator := (s.audio.fallbackTone f.player).map fun tone => { pattern := tone, place := 0 }
                toneSamples := (pages - c.position) * 254 }) ∧
            (c.retries = 0 → w.output = .segment →
              p'.walk = some { w with clip := some { c with abandoned := true } }))

/-- PAGE_END, where the page playing is not the last of its repetition: the next page plays, with the request for the one
after it, where it is ready; an abandoned repetition begins its fallback tone, from the tone's beginning, for the time of
the pages left; else the player is in an underrun, counted once (R141, R154, R157, R158). The tone is EVACUATE_PATTERN or
ALERT_PATTERN by the highest rank among the current feeds the player delivers, and silence at TEST or with none (R157). In a
fallback, as in a TONE repetition, the line carries the frequency that the pattern's cycle has at its place (R141). Of any
other player no page ends. The idle event, the page position of a fallback and the place of a tone are the model's choice
(log entries 4, 15 and 26). -/
def Obligations.PageEnds : Prop :=
  ∀ (k : Fin 6) (s : State),
    let p := s.audio.players[k]
    let delivers := fun rank : ProgramRank => ∃ (i : Fin 12) (q : Fin 16) (key : Option Nat),
      s.audio.amps[i].feed = .program rank q key ∧ s.audio.playerOf q = some k
    (delivers .evacuate → s.audio.fallbackTone k = some .evacuatePattern) ∧
    (¬ delivers .evacuate → delivers .alert → s.audio.fallbackTone k = some .alertPattern) ∧
    (¬ delivers .evacuate → ¬ delivers .alert → s.audio.fallbackTone k = none) ∧
    (∀ (w : Walk) (g : Generator), p.walk = some w → w.generator = some g →
      (w.output = .fallback ∨ w.output = .segment ∧ ∃ (i : Fin 128) (pattern : Pattern) (duration repeats : Nat)
        (next : Next), w.current = some i ∧ s.audio.segments[i] = .tone pattern duration repeats next) →
      s.audio.playFrequency k = match g.pattern with
        | .alertPattern => if g.place % 16000 < 8000 then some 1000 else none
        | .evacuatePattern => if g.place % 4000 < 2000 then some 800 else some 1000
        | .chime => if g.place % 16000 < 4800 then some 660 else if g.place % 16000 < 9600 then some 520 else none
        | .testTone => some 1000) ∧
    ((p.playing = none ∨ p.walk = none ∨ ∃ w, p.walk = some w ∧ (w.output ≠ .segment ∨ w.clip = none)) →
      exec (.pageEnd k) s = .next s) ∧
    ∀ (w : Walk) (c : ClipWalk) (seg : Fin 128) (start pages retries repeats : Nat) (next : Next)
      (page : Vector Byte 254), p.walk = some w → w.clip = some c → w.current = some seg →
      s.audio.segments[seg] = .clip start pages retries repeats next → p.playing = some page →
      w.output = .segment →
      (pages ≤ c.position + 1 → exec (.pageEnd k) s = .next s) ∧
      (c.position + 1 < pages →
        ∃ t, exec (.pageEnd k) s = .next t ∧
        t = { s with audio := { s.audio with
          players := s.audio.players.set k t.audio.players[k]
          store := { s.audio.store with requests := t.audio.store.requests } } } ∧
        let p' := t.audio.players[k]
        let q := t.audio.store.requests
        let on := { c with position := c.position + 1 }
        (c.abandoned = true → q = s.audio.store.requests ∧
          p' = { p with playing := none, ready := none, walk := some { w with
            output := .fallback, clip := some on
            generator := (s.audio.fallbackTone k).map fun tone => { pattern := tone, place := 0 }
            toneSamples := (pages - (c.position + 1)) * 254 } }) ∧
        (c.abandoned = false → ∀ following, p.ready = some following →
          p' = { p with
            playing := some following, ready := none, walk := some { w with output := .segment, clip := some on } } ∧
          q = if c.position + 2 < pages then
              s.audio.store.requests.set k (some (start + c.position + 2))
            else s.audio.store.requests) ∧
        (c.abandoned = false → p.ready = none → q = s.audio.store.requests ∧
          p' = { p with
            playing := none, ready := none, underruns := min 255 (p.underruns + 1)
            walk := some { w with output := .underrun, clip := some on } }))

/-- REPETITION_END. With repetitions left the next begins (R149); else the walk follows next, by a segment entry with its
consistency check (R148), or by the end of the pass, counted, and a pass start at the head as the directory has it (R147,
R149, R150). A TONE repetition starts its pattern from the beginning (R141). Each server the player delivers that holds a
pending target switches to it (R120), and a RELEASING player whose program no server is to carry any more is free (R136). A
failed check marks the program BROKEN and frees the player (R151). END on a TEST feed withdraws the test claims of the
program with TEST_DONE (R112, R150). Of a player that is idle, waits or holds at END none ends. The idle event and the order
at the boundary are the model's choice (log entries 4, 13 and 14). -/
def Obligations.RepetitionEnds : Prop :=
  ∀ (k : Fin 6) (s : State),
    (s.audio.players[k].walk = none → exec (.repetitionEnd k) s = .next s) ∧
    ∀ w, s.audio.players[k].walk = some w →
      ((w.output = .startWait ∨ w.output = .underrun ∨ w.output = .endHold) →
        exec (.repetitionEnd k) s = .next s) ∧
      ∀ i, w.current = some i →
        let seg := s.audio.segments[i]
        let clip := fun (x : Segment) => match x with
          | .clip _ _ r _ _ => some { retries := r, position := 0, abandoned := false }
          | _ => none
        let begun := fun (x : Segment) => match x with
          | .clip _ _ _ _ _ => Output.startWait
          | _ => Output.segment
        let tone := fun (x : Segment) => match x with
          | .tone pattern _ _ _ => some { pattern := pattern, place := 0 }
          | _ => none
        let entered := fun (j : Fin 128) (w : Walk) => { w with
          current := some j, left := s.audio.segments[j].repeats, clip := clip s.audio.segments[j]
          output := begun s.audio.segments[j], generator := tone s.audio.segments[j], toneSamples := 0 }
        let passed := { w with passes := min 65535 (w.passes + 1) }
        let passOver := seg.next = .restart ∨ (seg.next = .finish ∧ s.audio.servesTest k = false)
        (s.audio.repeating w = true → ¬ (w.left ≤ 1 ∧ seg.next = .finish ∧ s.audio.servesTest k = true) →
          (∀ a ∈ standbys, ∀ g, s.audio.amps[a].state ≠ .standingIn g) →
          ∃ t, exec (.repetitionEnd k) s = .next t ∧
            (∀ (a : Fin 12) (x : Feed), s.audio.amps[a].pending = some x →
              s.audio.delivererOf s.audio.amps[a].feed = some k →
              t.audio.amps[a].feed = x ∧ t.audio.amps[a].pending = none) ∧
            (w.releasing = true → s.audio.playerOf w.program = some k →
              (∀ a : Fin 12, (s.audio.amps[a].pending.getD s.audio.amps[a].feed).program? ≠ some w.program) →
              t.audio.playerOf w.program = none)) ∧
        (s.AudioQuiet → s.audio.repeating w = true →
          ∃ t, exec (.repetitionEnd k) s = .next t ∧ t.engine = s.engine ∧ t.sessions = s.sessions ∧
            t.scanner = s.scanner ∧ t.map = s.map ∧ t.link = s.link ∧
            (1 < w.left → s.OnlyAudio t ∧ t.audio.players[k].walk = some { w with
              left := w.left - 1, output := begun seg, generator := tone seg, toneSamples := 0
              clip := match seg with
                | .clip _ _ _ _ _ => w.clip.map fun c => { c with position := 0, abandoned := false }
                | _ => w.clip }) ∧
            (∀ j, w.left ≤ 1 → seg.next = .segment j →
              (s.audio.consistent j = true → s.OnlyAudio t ∧ t.audio.players[k].walk = some (entered j w)) ∧
              (s.audio.consistent j = false → s.audio.Bounded → s.OnlyAudio t ∧
                t.audio.programs[w.program].broken = true ∧ w.program ∈ t.notices.programBroken ∧
                t.audio.playerOf w.program = none)) ∧
            (w.left ≤ 1 → passOver →
              (∀ j, s.audio.programs[w.program].head = some j → s.audio.consistent j = true →
                s.OnlyAudio t ∧ t.audio.players[k].walk = some (entered j passed)) ∧
              ((s.audio.programs[w.program].head = none ∨
                  ∃ j, s.audio.programs[w.program].head = some j ∧ s.audio.consistent j = false) →
                s.audio.Bounded → s.OnlyAudio t ∧ t.audio.programs[w.program].broken = true ∧
                w.program ∈ t.notices.programBroken ∧ t.audio.playerOf w.program = none)) ∧
            (w.left ≤ 1 → seg.next = .finish → s.audio.servesTest k = true →
              ((∃ z : Fin 48, s.resolver.tests[z] = some w.program) →
                w.program ∈ t.notices.testDone ∧ t.RecordsResolved) ∧
              ∀ z : Fin 48, t.resolver.tests[z] =
                if s.resolver.tests[z] = some w.program then none else s.resolver.tests[z]))

/-! ### Line scanner -/

/-- VISIT_START begins a visit of the first used line after the last one visited, and names it in the line-select field,
when none is in progress (R161). VISIT_END enters the reading in the line's record and declares its class once three
readings in a row agree and differ from the class declared, with LINE_FAULT; a SHORT isolates a CONNECTED zone while its
allowance lasts and then locks it out (R162 to R164, R169); the next visit begins at once, and a discarded reading changes
no record (R161, R170). A start or an end that cannot occur has no effect by the model's choice (log entry 4). -/
def Obligations.VisitsRule : Prop :=
  ∀ (s : State) (cls1 cls0 : Bool),
    let used := fun n : Fin 48 => s.resolver.configs[n].kind ≠ .unused
    let comes := fun n : Fin 48 => used n ∧ ∀ j : Fin 48,
      (j.val + 47 - s.scanner.last.val) % 48 < (n.val + 47 - s.scanner.last.val) % 48 → ¬ used j
    ((s.scanner.visit ≠ none ∨ ∀ n, ¬ used n) → exec .visitStart s = .next s) ∧
    (∀ n, s.scanner.visit = none → comes n → ∃ t, exec .visitStart s = .next t ∧
      t = { s with
        scanner := { s.scanner with visit := some { line := n, discard := false }, last := n }
        audio := t.audio } ∧
      t.audio.image.lineSelect = some n ∧ t.audio.amps = s.audio.amps ∧
      t.audio.connections = s.audio.connections ∧ t.audio.players = s.audio.players) ∧
    (s.scanner.visit = none → exec (.visitEnd cls1 cls0) s = .next s) ∧
    ∀ v, s.scanner.visit = some v → ∃ t, exec (.visitEnd cls1 cls0) s = .next t ∧
      t = { s with scanner := t.scanner, audio := t.audio, notices := t.notices } ∧
      (∀ n, comes n → t.scanner.visit = some { line := n, discard := false } ∧ t.scanner.last = n ∧
        t.audio.image.lineSelect = some n) ∧
      ((∀ n, ¬ used n) → t.scanner.visit = none ∧ t.scanner.last = s.scanner.last ∧
        t.audio.image.lineSelect = none) ∧
      (∀ n, n ≠ v.line → t.scanner.lines[n] = s.scanner.lines[n]) ∧
      (v.discard = true → t.scanner.lines = s.scanner.lines ∧ t.notices = s.notices) ∧
      (v.discard = false →
        let x := s.scanner.lines[v.line]
        let c : LineClass := if cls1 then (if cls0 then .earth else .short) else if cls0 then .opened else .normal
        let y := { x with reading := some c, run := if x.reading = some c then min 3 (x.run + 1) else 1 }
        let declares := y.run = 3 ∧ ∃ d, x.state.declared = some d ∧ d ≠ c
        let connected := s.audio.connections[v.line] = .connected
        (¬ declares → t.scanner.lines[v.line] = y ∧ t.notices = s.notices) ∧
        (declares → t.notices.lineFault = addMember v.line s.notices.lineFault ∧
          (c = .normal → t.scanner.lines[v.line] = { y with state := .normal }) ∧
          (c = .opened → t.scanner.lines[v.line] = { y with state := .opened }) ∧
          (c = .earth → t.scanner.lines[v.line] = { y with state := .earth }) ∧
          (c = .short → connected → 0 < x.allowance →
            t.scanner.lines[v.line] = { y with state := .isolated, allowance := x.allowance - 1 }) ∧
          (c = .short → connected → x.allowance = 0 →
            t.scanner.lines[v.line] = { y with state := .lockedOut }) ∧
          (c = .short → ¬ connected → t.scanner.lines[v.line] = { y with state := .short })))

/-- LINE_RECONNECT restores the allowance of a LOCKED_OUT line, which becomes NORMAL, or NOT_SCANNED where its zone is
UNUSED, and is refused REFUSED_STATE for any other line (R167). LINE_STATUS answers the line's record and whether it is
being visited (R168). -/
def Obligations.LineCommands : Prop :=
  ∀ (line : Byte) (s : State),
    (47 < line.toNat →
      exec (.lineReconnect line) s = .next (s.answer 0x70 .outOfRange []) ∧
      exec (.lineStatus line) s = .next (s.answer 0x71 .outOfRange [])) ∧
    ∀ n : Fin 48, line.toNat = n.val →
      let x := s.scanner.lines[n]
      (x.state ≠ .lockedOut → exec (.lineReconnect line) s = .next (s.answer 0x70 .refusedState [])) ∧
      (x.state = .lockedOut → ∃ (t : State) (state : LineState), exec (.lineReconnect line) s = .next t ∧
        (s.resolver.configs[n].kind ≠ .unused → state = .normal) ∧
        (s.resolver.configs[n].kind = .unused → state = .notScanned) ∧
        t.scanner = { s.scanner with lines := s.scanner.lines.set n { x with state := state, allowance := 3 } } ∧
        t.link = (s.answer 0x70 .ok [state.code]).link ∧ t.engine = s.engine ∧ t.resolver = s.resolver ∧
        t.sessions = s.sessions ∧ t.notices.lineFault = s.notices.lineFault) ∧
      ∃ visited : Byte, (visited = 1 ↔ ∃ v, s.scanner.visit = some v ∧ v.line = n) ∧
        (visited = 0 ∨ visited = 1) ∧
        exec (.lineStatus line) s = .next (s.answer 0x71 .ok
          [x.state.code, match x.reading with
            | some c => c.code
            | none => 0xFF, byte x.run, byte x.allowance, visited])

/-! ### Invariants -/

/-- Every step keeps the bounds of the receivers, the cause map, the engine, the sessions and the link: buffers, lists and
counts within their lengths, each live slot once in the age list, one live incident for a detection zone, timers within
their loads, silence and supervision timers running exactly where they should, and the miss list empty in AUTONOMOUS mode
(R6, R10, R13, R28, R34, R39 to R41, R67, R102, R178). -/
def Obligations.BoundsAreKept : Prop :=
  ∀ s t : State, s.Bounded → step s = .next t → t.Bounded

/-- After every step each zone's runtime record is the resolution of the zone from the inputs as they then stand (R96). -/
def Obligations.RecordsStayResolved : Prop :=
  ∀ s t : State, s.RecordsResolved → step s = .next t → t.RecordsResolved

/-- Every step keeps the laws of the written tables: no device is matched by two valid map entries (R19), the entries of a
zone agree in floor and profile (R20), entries and used zones lie inside the building (R17, R56, R79), and line records
follow the zone table (R160, R170). -/
def Obligations.PlanIsKept : Prop :=
  ∀ s t : State, s.map.Consistent → s.InBuilding → s.LinesFollowPlan → step s = .next t →
    t.map.Consistent ∧ t.InBuilding ∧ t.LinesFollowPlan

/-- Every step keeps the audio side in its bounds, no program held by two players among them (R134), and the switching image
true to the unit: each source its feed's delivery (R137), exactly the relays of CONNECTED zones closed to their group's
server (R114, R122). It keeps the amplifier records in agreement, with states, faults, servers and the unserved queue as
R123 to R130 give them, and the feeds true to the records, so that every CONNECTED zone hears a feed whose rank is at least
its own (R117, R119). That every event ends with every zone decided again is the model's reading (log entry 10). -/
def Obligations.AudioIsKept : Prop :=
  ∀ s t : State, step s = .next t →
    (s.audio.Bounded → t.audio.Bounded) ∧ (s.ImageFollows → t.ImageFollows) ∧
    (s.audio.AmpsAgree → t.audio.AmpsAgree) ∧
    (s.RecordsResolved → s.audio.AmpsAgree → s.FeedsFollow → t.FeedsFollow ∧ t.ConnectedHear)

/-- The state after power-on reset has every invariant. -/
def Obligations.InvariantsHoldAtReset : Prop :=
  State.reset.Bounded ∧ State.reset.RecordsResolved ∧ State.reset.map.Consistent ∧ State.reset.InBuilding ∧
    State.reset.LinesFollowPlan ∧ State.reset.audio.Bounded ∧ State.reset.ImageFollows ∧
    State.reset.audio.AmpsAgree ∧ State.reset.FeedsFollow ∧ State.reset.ConnectedHear
end

