-- ==== Sys2Proof/Laws/Ops.lean ====
section
/-! SUPPORT. What the shared operations can do, said once each: saturating counts, sets, cyclic turns, bytes, and fields read
against their ranges. -/

namespace Sys2Proof.Machine

/-! ### Counts -/

theorem satSucc_eq_min (cap n : Nat) : satSucc cap n = min cap (n + 1) := rfl

theorem satSucc_le (cap n : Nat) : satSucc cap n ≤ cap := Nat.min_le_left _ _

theorem satSucc_pos {cap : Nat} (h : 1 ≤ cap) (n : Nat) : 1 ≤ satSucc cap n := by
  unfold satSucc; omega

theorem satSucc_of_lt {cap n : Nat} (h : n < cap) : satSucc cap n = n + 1 := by
  unfold satSucc; omega

/-! ### Sets in ascending order -/

/-- Adding a member adds it and nothing else. -/
theorem mem_addMember {n : Nat} (x y : Fin n) (l : List (Fin n)) : y ∈ addMember x l ↔ y = x ∨ y ∈ l := by
  induction l with
  | nil => simp [addMember]
  | cons z zs ih =>
    simp only [addMember]
    split
    · simp
    · split
      · next h => subst h; simp
      · simp [ih]; tauto

theorem addMember_ne_nil {n : Nat} (x : Fin n) (l : List (Fin n)) : addMember x l ≠ [] := by
  cases l with
  | nil => simp [addMember]
  | cons y ys => simp only [addMember]; split <;> [simp; split <;> simp]

/-- Adding a member keeps the ascending order without repeats. -/
theorem addMember_ascending {n : Nat} (x : Fin n) {l : List (Fin n)} (h : l.Pairwise (· < ·)) :
    (addMember x l).Pairwise (· < ·) := by
  induction l with
  | nil => simp [addMember]
  | cons y ys ih =>
    rw [List.pairwise_cons] at h
    simp only [addMember]
    split
    · next hxy =>
      rw [List.pairwise_cons, List.pairwise_cons]
      refine ⟨fun z hz => ?_, h⟩
      rcases List.mem_cons.1 hz with rfl | hz
      · exact hxy
      · exact lt_trans hxy (h.1 z hz)
    · split
      · exact List.pairwise_cons.2 h
      · next hxy hne =>
        refine List.pairwise_cons.2 ⟨fun z hz => ?_, ih h.2⟩
        rcases (mem_addMember x z ys).1 hz with rfl | hz
        · omega
        · exact h.1 z hz

theorem mem_foldl_addMember {n : Nat} (y : Fin n) (l acc : List (Fin n)) :
    y ∈ l.foldl (fun acc x => addMember x acc) acc ↔ y ∈ l ∨ y ∈ acc := by
  induction l generalizing acc with
  | nil => simp
  | cons x xs ih => simp [ih, mem_addMember]; tauto

theorem mem_toSet {n : Nat} (y : Fin n) (l : List (Fin n)) : y ∈ toSet l ↔ y ∈ l := by
  simp [toSet, mem_foldl_addMember]

theorem toSet_ascending {n : Nat} (l : List (Fin n)) : (toSet l).Pairwise (· < ·) := by
  suffices ∀ acc : List (Fin n), acc.Pairwise (· < ·) →
      (l.foldl (fun acc x => addMember x acc) acc).Pairwise (· < ·) from this [] List.Pairwise.nil
  induction l with
  | nil => exact fun _ h => h
  | cons x xs ih => exact fun _ h => ih _ (addMember_ascending x h)

/-! ### Indices and turns -/

theorem index?_some_iff {n i : Nat} {k : Fin n} : index? n i = some k ↔ i = k.val := by
  unfold index?
  split
  · next h => constructor
              · rintro ⟨⟩; rfl
              · rintro rfl; rfl
  · next h => simp; omega

theorem index?_none_iff {n i : Nat} : index? n i = none ↔ n ≤ i := by
  unfold index?; split <;> simp <;> omega

theorem index?_val {n : Nat} (k : Fin n) : index? n k.val = some k := index?_some_iff.2 rfl

/-- The first turn is one that satisfies the test, and every index that satisfies it comes no sooner in the cyclic order. -/
theorem firstAfter_none_iff {n : Nat} {last : Fin n} {p : Fin n → Bool} :
    firstAfter last p = none ↔ ∀ i, p i = false := by
  unfold firstAfter
  rw [List.find?_eq_none]
  constructor
  · intro h i
    rcases lt_or_ge last i with hi | hi
    · simpa using h i (List.mem_append.2 (.inl (by simp [hi])))
    · simpa using h i (List.mem_append.2 (.inr (by simp [hi])))
  · intro h i _; simp [h i]

theorem firstAfter_holds {n : Nat} {last k : Fin n} {p : Fin n → Bool} (h : firstAfter last p = some k) :
    p k = true :=
  List.find?_some h

/-- The distance of an index after `last` in the cyclic order, `last` itself the furthest. -/
def turnDistance {n : Nat} (last i : Fin n) : Nat :=
  if last < i then i.val - last.val else n + i.val - last.val

/-- The turns are tried nearest first. -/
theorem turns_ascending {n : Nat} (last : Fin n) :
    ((List.finRange n).filter (fun i => last < i) ++ (List.finRange n).filter (fun i => i ≤ last)).Pairwise
      fun i j => turnDistance last i < turnDistance last j := by
  have base : (List.finRange n).Pairwise (· < ·) := List.sortedLT_finRange n |>.pairwise
  rw [List.pairwise_append]
  refine ⟨?_, ?_, ?_⟩
  · refine (base.filter _).imp_of_mem ?_
    intro a b ha hb hab
    simp only [List.mem_filter, decide_eq_true_eq] at ha hb
    simp only [turnDistance, ha.2, hb.2, if_true]
    have := ha.2; have := hb.2; omega
  · refine (base.filter _).imp_of_mem ?_
    intro a b ha hb hab
    simp only [List.mem_filter, decide_eq_true_eq] at ha hb
    have ha' : ¬ last < a := not_lt.2 ha.2
    have hb' : ¬ last < b := not_lt.2 hb.2
    simp only [turnDistance, ha', hb', if_false]
    have := last.isLt; omega
  · intro a ha b hb
    simp only [List.mem_filter, decide_eq_true_eq] at ha hb
    have hb' : ¬ last < b := not_lt.2 hb.2
    simp only [turnDistance, ha.2, hb', if_true, if_false]
    have := a.isLt; have := last.isLt; omega

/-- The turn found is the nearest that satisfies the test. -/
theorem firstAfter_some_iff {n : Nat} {last k : Fin n} {p : Fin n → Bool} :
    firstAfter last p = some k ↔
      p k = true ∧ ∀ j, turnDistance last j < turnDistance last k → p j = false := by
  have mem : ∀ i : Fin n, i ∈ (List.finRange n).filter (fun i => last < i)
      ++ (List.finRange n).filter (fun i => i ≤ last) := by
    intro i; rcases lt_or_ge last i with h | h <;> simp [h]
  have sorted := turns_ascending last
  unfold firstAfter
  generalize (List.finRange n).filter (fun i => last < i)
      ++ (List.finRange n).filter (fun i => i ≤ last) = l at mem sorted
  rw [List.find?_eq_some_iff_append]
  constructor
  · rintro ⟨hk, before, after, rfl, hb⟩
    refine ⟨hk, fun j hj => ?_⟩
    rw [List.pairwise_append, List.pairwise_cons] at sorted
    rcases List.mem_append.1 (mem j) with h | h
    · simpa using hb j h
    · rcases List.mem_cons.1 h with rfl | h
      · omega
      · have := sorted.2.1.1 j h; omega
  · rintro ⟨hk, hj⟩
    obtain ⟨before, after, rfl⟩ := List.append_of_mem (mem k)
    refine ⟨hk, before, after, rfl, fun j hb => ?_⟩
    rw [List.pairwise_append] at sorted
    simp [hj j (sorted.2.2 j hb k (by simp))]

/-! ### Bytes -/

theorem byte_toNat {n : Nat} (h : n < 256) : (byte n).toNat = n := by
  simp [byte, Nat.mod_eq_of_lt h]

theorem byte_of_toNat (b : Byte) : byte b.toNat = b := by
  simp [byte]

/-! ### Fields against their ranges -/

theorem inRange?_some_iff {low high n m : Nat} : inRange? low high n = some m ↔ low ≤ n ∧ n ≤ high ∧ m = n := by
  unfold inRange?
  split
  · next h => simp [h, eq_comm]
  · next h => simp; tauto

theorem inRange?_none_iff {low high n : Nat} : inRange? low high n = none ↔ n < low ∨ high < n := by
  unfold inRange?; split <;> simp <;> omega

theorem yesNo?_none_iff {b : Byte} : yesNo? b = none ↔ 1 < b.toNat := by
  unfold yesNo?; split <;> simp_all; omega

theorem deviceAddress?_some_iff {b a : Byte} :
    deviceAddress? b = some a ↔ 1 ≤ b.toNat ∧ b.toNat ≤ 250 ∧ a = b := by
  unfold deviceAddress?
  split
  · next h => simp [h, eq_comm]
  · next h => simp; tauto

theorem deviceAddress?_none_iff {b : Byte} : deviceAddress? b = none ↔ b.toNat = 0 ∨ 250 < b.toNat := by
  unfold deviceAddress?; split <;> simp <;> omega

/-- The zone numbers of a list are read exactly when every one is below 48. -/
theorem zoneNumbers?_some_iff {bs : List Byte} {zs : List (Fin 48)} :
    zoneNumbers? bs = some zs ↔ bs.map BitVec.toNat = zs.map Fin.val := by
  induction bs generalizing zs with
  | nil => cases zs <;> simp [zoneNumbers?]
  | cons b bs ih =>
    cases zs with
    | nil =>
      simp only [zoneNumbers?, Option.bind_eq_bind, Option.bind_eq_some_iff]
      simp
    | cons z zs =>
      simp only [zoneNumbers?, Option.bind_eq_bind, Option.bind_eq_some_iff, List.map_cons, List.cons.injEq]
      constructor
      · rintro ⟨z', hz, zs', hzs, h⟩
        simp only [Option.some.injEq, List.cons.injEq] at h
        obtain ⟨rfl, rfl⟩ := h
        exact ⟨index?_some_iff.1 hz, ih.1 hzs⟩
      · rintro ⟨hz, hzs⟩
        exact ⟨z, index?_some_iff.2 hz, zs, ih.2 hzs, rfl⟩

/-- The set of a zone list has a member (R102). -/
theorem zoneSet?_ne_nil {zones : ZoneList} {set : List (Fin 48)} (h : zoneSet? zones = some set) : set ≠ [] := by
  cases zones with
  | all => simp only [zoneSet?, Option.some.injEq] at h; subst h; decide
  | listed bs =>
    simp only [zoneSet?] at h
    split at h
    · next hl =>
      obtain ⟨zs, hz, rfl⟩ := Option.map_eq_some_iff.1 h
      have := congrArg List.length (zoneNumbers?_some_iff.1 hz)
      simp only [List.length_map] at this
      obtain ⟨z, zs', rfl⟩ : ∃ z zs', zs = z :: zs' := by
        cases zs with
        | nil => exact absurd this (by simp only [List.length_nil]; omega)
        | cons z zs' => exact ⟨z, zs', rfl⟩
      intro hn
      have : z ∈ toSet (z :: zs') := (mem_toSet _ _).2 (by simp)
      rw [hn] at this; cases this
    · cases h

end Sys2Proof.Machine
end

