-- ==== Sys2Proof/Laws/Audio.lean ====
section
/-! SUPPORT. What an event of the amplifier switching unit and the pool can do, said once: what it keeps of the audio side and
of the notice set, and the operations on one amplifier or player as the others see them. -/

namespace Sys2Proof.Machine

/-! ### One amplifier, one player -/

theorem Audio.setAmp_amps (a : Audio) (i j : Fin 12) (x : Amp) :
    (a.setAmp i x).amps[j] = if i = j then x else a.amps[j] := by
  simp only [Audio.setAmp, Fin.getElem_fin, Vector.getElem_set, Fin.ext_iff]

theorem Audio.setPlayer_players (a : Audio) (k j : Fin 6) (p : Player) :
    (a.setPlayer k p).players[j] = if k = j then p else a.players[j] := by
  simp only [Audio.setPlayer, Fin.getElem_fin, Vector.getElem_set, Fin.ext_iff]

theorem Audio.setWalk_players (a : Audio) (k j : Fin 6) (w : Option Walk) :
    (a.setWalk k w).players[j] = if k = j then { a.players[k] with walk := w } else a.players[j] := by
  simp only [Audio.setWalk, Audio.setPlayer_players]

/-- The player that holds a program does hold it. -/
theorem Audio.playerOf_some {a : Audio} {p : Fin 16} {k : Fin 6} (h : a.playerOf p = some k) :
    ∃ w, a.players[k].walk = some w ∧ w.program = p := by
  have := List.find?_some h
  split at this
  · next w hw => exact ⟨w, hw, by simpa using this⟩
  · cases this

theorem Audio.playerOf_isSome {a : Audio} {p : Fin 16} :
    (a.playerOf p).isSome ↔ ∃ (k : Fin 6) (w : Walk), a.players[k].walk = some w ∧ w.program = p := by
  constructor
  · intro h
    obtain ⟨k, hk⟩ := Option.isSome_iff_exists.1 h
    exact ⟨k, Audio.playerOf_some hk⟩
  · rintro ⟨k, w, hw, rfl⟩
    rw [Audio.playerOf, List.find?_isSome]
    refine ⟨k, List.mem_finRange k, ?_⟩
    simp only [Fin.getElem_fin] at hw ⊢
    rw [hw]
    simp

/-! ### What an event keeps -/

/-- What no event of the switching unit or the pool changes, whatever follows from it: the segments, the programs' heads, the
store's size and the last player it served, the amplifiers' fault samples, and the notices other than AMP_FAULT and
PROGRAM_BROKEN. -/
structure Desk.Keeps (d d' : Desk) : Prop where
  segments : d'.audio.segments = d.audio.segments
  heads : ∀ p : Fin 16, d'.audio.programs[p].head = d.audio.programs[p].head
  size : d'.audio.store.size = d.audio.store.size
  served : d'.audio.store.lastServed = d.audio.store.lastServed
  faults : ∀ i : Fin 12, d'.audio.amps[i].fault = d.audio.amps[i].fault ∧ d'.audio.amps[i].run = d.audio.amps[i].run
  notices : d'.notices = { d.notices with
    ampFault := d'.notices.ampFault, programBroken := d'.notices.programBroken }

theorem Desk.Keeps.refl (d : Desk) : d.Keeps d :=
  ⟨rfl, fun _ => rfl, rfl, rfl, fun _ => ⟨rfl, rfl⟩, rfl⟩

theorem Desk.Keeps.trans {a b c : Desk} (h : a.Keeps b) (k : b.Keeps c) : a.Keeps c where
  segments := k.segments.trans h.segments
  heads p := (k.heads p).trans (h.heads p)
  size := k.size.trans h.size
  served := k.served.trans h.served
  faults i := ⟨(k.faults i).1.trans (h.faults i).1, (k.faults i).2.trans (h.faults i).2⟩
  notices := by rw [k.notices, h.notices]

/-- A fold of operations that keep a desk keeps it. -/
theorem Desk.Keeps.foldl {α : Type} {f : Desk → α → Desk} (h : ∀ (d : Desk) (x : α), d.Keeps (f d x)) (l : List α) (d : Desk) :
    d.Keeps (l.foldl f d) := by
  induction l generalizing d with
  | nil => exact .refl d
  | cons x xs ih => exact (h d x).trans (ih _)

/-- What an operation on the audio side alone keeps. -/
structure Audio.Keeps (a b : Audio) : Prop where
  segments : b.segments = a.segments
  heads : ∀ p : Fin 16, b.programs[p].head = a.programs[p].head
  size : b.store.size = a.store.size
  served : b.store.lastServed = a.store.lastServed
  faults : ∀ i : Fin 12, b.amps[i].fault = a.amps[i].fault ∧ b.amps[i].run = a.amps[i].run

theorem Audio.Keeps.refl (a : Audio) : a.Keeps a :=
  ⟨rfl, fun _ => rfl, rfl, rfl, fun _ => ⟨rfl, rfl⟩⟩

theorem Audio.Keeps.trans {a b c : Audio} (h : a.Keeps b) (k : b.Keeps c) : a.Keeps c where
  segments := k.segments.trans h.segments
  heads p := (k.heads p).trans (h.heads p)
  size := k.size.trans h.size
  served := k.served.trans h.served
  faults i := ⟨(k.faults i).1.trans (h.faults i).1, (k.faults i).2.trans (h.faults i).2⟩

theorem Audio.Keeps.foldl {α : Type} {f : Audio → α → Audio} (h : ∀ (a : Audio) (x : α), a.Keeps (f a x)) (l : List α) (a : Audio) :
    a.Keeps (l.foldl f a) := by
  induction l generalizing a with
  | nil => exact .refl a
  | cons x xs ih => exact (h a x).trans (ih _)

theorem Desk.Keeps.mapAudio {d : Desk} {f : Audio → Audio} (h : d.audio.Keeps (f d.audio)) : d.Keeps (d.mapAudio f) :=
  ⟨h.segments, h.heads, h.size, h.served, h.faults, rfl⟩

theorem Desk.Keeps.of_audio {d : Desk} {b : Audio} (h : d.audio.Keeps b) : d.Keeps { d with audio := b } :=
  ⟨h.segments, h.heads, h.size, h.served, h.faults, rfl⟩

theorem Desk.ampFault_keeps (d : Desk) (l : List (Fin 12)) : d.Keeps (d.ampFault l) :=
  ⟨rfl, fun _ => rfl, rfl, rfl, fun _ => ⟨rfl, rfl⟩, rfl⟩

theorem Audio.setAmp_keeps (a : Audio) (i : Fin 12) (x : Amp) (hf : x.fault = a.amps[i].fault)
    (hr : x.run = a.amps[i].run) : a.Keeps (a.setAmp i x) := by
  refine ⟨rfl, fun _ => rfl, rfl, rfl, fun j => ?_⟩
  rw [Audio.setAmp_amps]
  split
  · next h => subst h; exact ⟨hf, hr⟩
  · exact ⟨rfl, rfl⟩

theorem Audio.switchTo_keeps (a : Audio) (i : Fin 12) (t : Feed) : a.Keeps (a.switchTo i t) :=
  a.setAmp_keeps i _ rfl rfl

theorem Audio.setServer_keeps (a : Audio) (g : Fin 10) (i : Option (Fin 12)) : a.Keeps (a.setServer g i) :=
  a.setAmp_keeps _ _ rfl rfl

theorem Audio.setAmpState_keeps (a : Audio) (i : Fin 12) (st : AmpState) : a.Keeps (a.setAmpState i st) :=
  a.setAmp_keeps _ _ rfl rfl

theorem Audio.applyTarget_keeps (a : Audio) (i : Fin 12) (t : Feed) : a.Keeps (a.applyTarget i t) := by
  unfold Audio.applyTarget
  dsimp only
  split
  · exact a.switchTo_keeps i t
  · split
    · exact a.switchTo_keeps i t
    · split
      · exact a.setAmp_keeps i _ rfl rfl
      · exact a.switchTo_keeps i t

theorem Audio.retarget_keeps (v : View) (g : Fin 10) (a : Audio) : a.Keeps (a.retarget v g) := by
  unfold Audio.retarget
  split
  · exact a.applyTarget_keeps _ _
  · exact .refl a

theorem Audio.decideAll_keeps (v : View) (a : Audio) : a.Keeps (a.decideAll v) := by
  constructor <;> simp [Audio.decideAll]

theorem Audio.refresh_keeps (a : Audio) : a.Keeps a.refresh := by
  unfold Audio.refresh
  split <;> exact ⟨rfl, fun _ => rfl, rfl, rfl, fun _ => ⟨rfl, rfl⟩⟩

theorem Audio.setImage_keeps (a : Audio) (img : Image) : a.Keeps (a.setImage img) := by
  unfold Audio.setImage
  split
  · exact .refl a
  · exact .trans (b := { a with image := img }) ⟨rfl, fun _ => rfl, rfl, rfl, fun _ => ⟨rfl, rfl⟩⟩
      (Audio.refresh_keeps _)

theorem Audio.moveGroup_keeps (v : View) (g : Fin 10) (dst : Option (Fin 12)) (a : Audio) :
    a.Keeps (a.moveGroup v g dst) := by
  unfold Audio.moveGroup
  split
  · next i j _ =>
    refine Audio.Keeps.trans ?_ (Audio.setServer_keeps _ _ _)
    refine Audio.Keeps.trans (a.switchTo_keeps i .none) ?_
    exact Audio.setAmp_keeps _ _ _ rfl rfl
  · exact (a.switchTo_keeps _ _).trans (Audio.setServer_keeps _ _ _)
  · exact ((a.switchTo_keeps _ _).trans (Audio.setServer_keeps _ _ _)).trans (Audio.retarget_keeps _ _ _)
  · exact .refl a

theorem Audio.unserved_keeps (a : Audio) (l : List (Fin 10)) : a.Keeps { a with unserved := l } :=
  ⟨rfl, fun _ => rfl, rfl, rfl, fun _ => ⟨rfl, rfl⟩⟩

theorem Audio.serveQueue_keeps (v : View) (i : Fin 12) (a : Audio) : a.Keeps (a.serveQueue v i) := by
  unfold Audio.serveQueue
  split
  · exact ((a.unserved_keeps _).trans (Audio.setAmpState_keeps _ _ _)).trans (Audio.moveGroup_keeps _ _ _ _)
  · exact .refl a

theorem Audio.giveBack_keeps (v : View) (k : Fin 10) (i : Fin 12) (a : Audio) : a.Keeps (a.giveBack v k i) :=
  (((a.moveGroup_keeps v k _).trans (Audio.setAmpState_keeps _ _ _)).trans (Audio.setAmpState_keeps _ _ _)).trans
    (Audio.serveQueue_keeps _ _ _)

theorem Desk.returnOf_keeps (v : View) (d : Desk) (i : Fin 12) : d.Keeps (d.returnOf v i) := by
  unfold Desk.returnOf
  split
  · split
    · exact (Desk.Keeps.mapAudio (d.audio.giveBack_keeps v _ i)).trans (Desk.ampFault_keeps _ _)
    · exact .refl d
  · exact .refl d

/-- The end of an event keeps all but feeds, states, connections, players and image. -/
theorem Desk.close_keeps (v : View) (d : Desk) : d.Keeps (d.close v) := by
  unfold Desk.close
  dsimp only
  refine Desk.Keeps.trans (Desk.Keeps.foldl (fun d i => d.returnOf_keeps v i) standbys d) ?_
  refine Desk.Keeps.mapAudio ?_
  exact (Audio.decideAll_keeps v _).trans (Audio.setImage_keeps _ _)

theorem Audio.setPlayer_keeps (a : Audio) (k : Fin 6) (p : Player) : a.Keeps (a.setPlayer k p) :=
  ⟨rfl, fun _ => rfl, rfl, rfl, fun _ => ⟨rfl, rfl⟩⟩

theorem Audio.setWalk_keeps (a : Audio) (k : Fin 6) (w : Option Walk) : a.Keeps (a.setWalk k w) :=
  a.setPlayer_keeps k _

theorem Audio.leaveEntry_keeps (a : Audio) (k : Fin 6) : a.Keeps (a.leaveEntry k) :=
  ⟨rfl, fun _ => rfl, rfl, rfl, fun _ => ⟨rfl, rfl⟩⟩

theorem Audio.idlePlayer_keeps (a : Audio) (k : Fin 6) : a.Keeps (a.idlePlayer k) :=
  (a.leaveEntry_keeps k).trans (Audio.setWalk_keeps _ _ _)

theorem Audio.request_keeps (a : Audio) (k : Fin 6) (page : Nat) : a.Keeps (a.request k page) :=
  ⟨rfl, fun _ => rfl, rfl, rfl, fun _ => ⟨rfl, rfl⟩⟩

theorem Audio.beginRepetition_keeps (a : Audio) (k : Fin 6) : a.Keeps (a.beginRepetition k) := by
  unfold Audio.beginRepetition
  split
  · exact .refl a
  · split
    · exact (a.setWalk_keeps k _).trans (Audio.request_keeps _ _ _)
    · exact a.setWalk_keeps k _

theorem Audio.enter_keeps (a : Audio) (k : Fin 6) (i : Fin 128) : a.Keeps (a.enter k i) := by
  unfold Audio.enter
  dsimp only
  split
  · exact a.leaveEntry_keeps k
  · exact ((a.leaveEntry_keeps k).trans (Audio.setWalk_keeps _ _ _)).trans (Audio.beginRepetition_keeps _ _)

theorem Audio.markBroken_keeps (a : Audio) (p : Fin 16) :
    a.Keeps { a with programs := a.programs.set p { a.programs[p] with broken := true } } := by
  refine ⟨rfl, fun q => ?_, rfl, rfl, fun _ => ⟨rfl, rfl⟩⟩
  simp only [Fin.getElem_fin, Vector.getElem_set]
  split
  · next h => simp only [h]
  · rfl

theorem Desk.breakProgram_keeps (d : Desk) (k : Fin 6) : d.Keeps (d.breakProgram k) := by
  unfold Desk.breakProgram
  split
  · exact .refl d
  · next w _ =>
    have h := (d.audio.markBroken_keeps w.program).trans (Audio.idlePlayer_keeps _ k)
    exact ⟨h.segments, h.heads, h.size, h.served, h.faults, rfl⟩

theorem Desk.enterSegment_keeps (d : Desk) (k : Fin 6) (i : Fin 128) : d.Keeps (d.enterSegment k i) := by
  unfold Desk.enterSegment
  split
  · exact Desk.Keeps.mapAudio (d.audio.enter_keeps k i)
  · exact d.breakProgram_keeps k

theorem Desk.passStart_keeps (d : Desk) (k : Fin 6) : d.Keeps (d.passStart k) := by
  unfold Desk.passStart
  split
  · exact .refl d
  · split
    · exact d.enterSegment_keeps k _
    · exact d.breakProgram_keeps k

theorem Desk.passEnd_keeps (d : Desk) (k : Fin 6) : d.Keeps (d.passEnd k) := by
  unfold Desk.passEnd
  split
  · exact .refl d
  · exact (Desk.Keeps.mapAudio ((d.audio.leaveEntry_keeps k).trans (Audio.setWalk_keeps _ _ _))).trans
      (Desk.passStart_keeps _ k)

theorem Audio.release_keeps (a : Audio) (k : Fin 6) : a.Keeps (a.release k) := by
  unfold Audio.release
  split
  · exact .refl a
  · split
    · exact a.setWalk_keeps k _
    · split
      · exact a.setWalk_keeps k _
      · exact a.idlePlayer_keeps k

theorem Audio.allocate_keeps (v : View) (l : List Demand) (a : Audio) (taken : List (Fin 6)) :
    a.Keeps (Audio.allocate v l a taken).1 := by
  induction l generalizing a taken with
  | nil => exact .refl a
  | cons d lower ih =>
    unfold Audio.allocate
    split
    · exact ih a taken
    · split
      · next k _ => exact ((a.leaveEntry_keeps k).trans (Audio.setWalk_keeps _ k _)).trans (ih _ _)
      · exact ih a taken

theorem Audio.losses_keeps (before : Vector (Option (Fin 16)) 6) (a : Audio) : a.Keeps (Audio.losses before a) := by
  unfold Audio.losses
  refine Audio.Keeps.foldl (fun b i => ?_) _ a
  split
  · split
    · exact b.switchTo_keeps _ _
    · exact .refl b
  · exact .refl b

/-- The settling of the pool keeps all but feeds, states, connections, players and image. -/
theorem Desk.settle_keeps (v : View) (fuel : Nat) (before : Vector (Option (Fin 16)) 6) (force : Bool) (d : Desk) :
    d.Keeps (Desk.settle v fuel before force d) := by
  induction fuel generalizing before force d with
  | zero => exact .refl d
  | succ fuel ih =>
    unfold Desk.settle
    dsimp only
    split
    · refine Desk.Keeps.trans ?_ (ih _ _ _)
      refine Desk.Keeps.trans ?_ (Desk.close_keeps v _)
      refine Desk.Keeps.trans ?_ (Desk.Keeps.mapAudio (Audio.losses_keeps _ _))
      refine Desk.Keeps.trans ?_ (Desk.Keeps.foldl (fun d k => d.passStart_keeps k) _ _)
      refine Desk.Keeps.of_audio (Audio.Keeps.trans ?_ (Audio.allocate_keeps v _ _ _))
      refine Audio.Keeps.trans (b := { d.audio with demand := d.audio.demandOf v }) ?_
        (Audio.Keeps.foldl (fun a k => a.release_keeps k) _ _)
      exact ⟨rfl, fun _ => rfl, rfl, rfl, fun _ => ⟨rfl, rfl⟩⟩
    · exact .refl d

/-- The end of an event with all that follows from it keeps all but feeds, states, connections, players and image. -/
theorem Desk.finish_keeps (v : View) (d : Desk) : d.Keeps (d.finish v) :=
  (d.close_keeps v).trans (Desk.settle_keeps v _ _ _ _)

theorem Audio.takeBatch_keeps (v : View) (batch : List (Fin 48)) (a : Audio) : a.Keeps (a.takeBatch v batch) := by
  unfold Audio.takeBatch
  refine Audio.Keeps.foldl (fun b i => ?_) _ a
  split
  · split
    · exact b.applyTarget_keeps _ _
    · exact .refl b
  · exact .refl b

theorem Audio.boundary_keeps (k : Fin 6) (a : Audio) : a.Keeps (a.boundary k) := by
  unfold Audio.boundary
  refine Audio.Keeps.foldl (fun b i => ?_) _ a
  split
  · split
    · exact b.switchTo_keeps _ _
    · exact .refl b
  · exact .refl b

/-! ### Ticks and pages -/

@[simp] theorem Audio.tick_amps (a : Audio) (pins : Pins) (i : Fin 12) :
    (a.tick pins).amps[i] = a.amps[i].sample pins.ampFaultLow[i] := by
  simp [Audio.tick]

@[simp] theorem Audio.tick_players (a : Audio) (pins : Pins) (k : Fin 6) :
    (a.tick pins).players[k] = a.players[k].tick := by
  simp [Audio.tick]

/-- A tick changes amplifiers and players alone. -/
theorem Audio.tick_frame (a : Audio) (pins : Pins) :
    a.tick pins = { a with amps := (a.tick pins).amps, players := (a.tick pins).players } := rfl

@[simp] theorem pageSamples_append (samples : Vector Byte 254) (check : Vector Byte 2) :
    pageSamples (samples ++ check) = samples := by
  apply Vector.ext
  intro i hi
  rw [pageSamples, Vector.getElem_ofFn]
  exact Vector.getElem_append_left hi

/-- A page of samples and check is good when the CRC of the samples is the check, its high byte first (R152). -/
theorem pageGood_append (samples : Vector Byte 254) (check : Vector Byte 2) :
    pageGood (samples ++ check) = true ↔ crc samples.toList = check[0] ++ check[1] := by
  have high : (samples ++ check)[254] = check[0] := Vector.getElem_append_right (by decide) (by decide)
  have low : (samples ++ check)[255] = check[1] := Vector.getElem_append_right (by decide) (by decide)
  have join : pageCheck (samples ++ check) = check[0] ++ check[1] := congrArg₂ word2 high low
  rw [pageGood, decide_eq_true_iff, pageSamples_append, join]

end Sys2Proof.Machine
end

