-- ==== Sys2Proof/Laws/State.lean ====
section
/-! SUPPORT. One lemma per field per update of State: what each setter leaves and what it writes. -/

namespace Sys2Proof.Machine

@[simp] theorem State.setNow_now (s : State) (x : Tick) : (s.setNow x).now = x := rfl
@[simp] theorem State.setNow_loops (s : State) (x : Tick) : (s.setNow x).loops = s.loops := rfl
@[simp] theorem State.setNow_map (s : State) (x : Tick) : (s.setNow x).map = s.map := rfl
@[simp] theorem State.setNow_engine (s : State) (x : Tick) : (s.setNow x).engine = s.engine := rfl
@[simp] theorem State.setNow_resolver (s : State) (x : Tick) : (s.setNow x).resolver = s.resolver := rfl
@[simp] theorem State.setNow_sessions (s : State) (x : Tick) : (s.setNow x).sessions = s.sessions := rfl
@[simp] theorem State.setNow_audio (s : State) (x : Tick) : (s.setNow x).audio = s.audio := rfl
@[simp] theorem State.setNow_scanner (s : State) (x : Tick) : (s.setNow x).scanner = s.scanner := rfl
@[simp] theorem State.setNow_link (s : State) (x : Tick) : (s.setNow x).link = s.link := rfl
@[simp] theorem State.setNow_notices (s : State) (x : Tick) : (s.setNow x).notices = s.notices := rfl
@[simp] theorem State.setNow_pins (s : State) (x : Tick) : (s.setNow x).pins = s.pins := rfl
@[simp] theorem State.setNow_pending (s : State) (x : Tick) : (s.setNow x).pending = s.pending := rfl

@[simp] theorem State.setLoops_now (s : State) (x : Vector Receiver 4) : (s.setLoops x).now = s.now := rfl
@[simp] theorem State.setLoops_loops (s : State) (x : Vector Receiver 4) : (s.setLoops x).loops = x := rfl
@[simp] theorem State.setLoops_map (s : State) (x : Vector Receiver 4) : (s.setLoops x).map = s.map := rfl
@[simp] theorem State.setLoops_engine (s : State) (x : Vector Receiver 4) : (s.setLoops x).engine = s.engine := rfl
@[simp] theorem State.setLoops_resolver (s : State) (x : Vector Receiver 4) : (s.setLoops x).resolver = s.resolver := rfl
@[simp] theorem State.setLoops_sessions (s : State) (x : Vector Receiver 4) : (s.setLoops x).sessions = s.sessions := rfl
@[simp] theorem State.setLoops_audio (s : State) (x : Vector Receiver 4) : (s.setLoops x).audio = s.audio := rfl
@[simp] theorem State.setLoops_scanner (s : State) (x : Vector Receiver 4) : (s.setLoops x).scanner = s.scanner := rfl
@[simp] theorem State.setLoops_link (s : State) (x : Vector Receiver 4) : (s.setLoops x).link = s.link := rfl
@[simp] theorem State.setLoops_notices (s : State) (x : Vector Receiver 4) : (s.setLoops x).notices = s.notices := rfl
@[simp] theorem State.setLoops_pins (s : State) (x : Vector Receiver 4) : (s.setLoops x).pins = s.pins := rfl
@[simp] theorem State.setLoops_pending (s : State) (x : Vector Receiver 4) : (s.setLoops x).pending = s.pending := rfl

@[simp] theorem State.setMap_now (s : State) (x : CauseMap) : (s.setMap x).now = s.now := rfl
@[simp] theorem State.setMap_loops (s : State) (x : CauseMap) : (s.setMap x).loops = s.loops := rfl
@[simp] theorem State.setMap_map (s : State) (x : CauseMap) : (s.setMap x).map = x := rfl
@[simp] theorem State.setMap_engine (s : State) (x : CauseMap) : (s.setMap x).engine = s.engine := rfl
@[simp] theorem State.setMap_resolver (s : State) (x : CauseMap) : (s.setMap x).resolver = s.resolver := rfl
@[simp] theorem State.setMap_sessions (s : State) (x : CauseMap) : (s.setMap x).sessions = s.sessions := rfl
@[simp] theorem State.setMap_audio (s : State) (x : CauseMap) : (s.setMap x).audio = s.audio := rfl
@[simp] theorem State.setMap_scanner (s : State) (x : CauseMap) : (s.setMap x).scanner = s.scanner := rfl
@[simp] theorem State.setMap_link (s : State) (x : CauseMap) : (s.setMap x).link = s.link := rfl
@[simp] theorem State.setMap_notices (s : State) (x : CauseMap) : (s.setMap x).notices = s.notices := rfl
@[simp] theorem State.setMap_pins (s : State) (x : CauseMap) : (s.setMap x).pins = s.pins := rfl
@[simp] theorem State.setMap_pending (s : State) (x : CauseMap) : (s.setMap x).pending = s.pending := rfl

@[simp] theorem State.setEngine_now (s : State) (x : Engine) : (s.setEngine x).now = s.now := rfl
@[simp] theorem State.setEngine_loops (s : State) (x : Engine) : (s.setEngine x).loops = s.loops := rfl
@[simp] theorem State.setEngine_map (s : State) (x : Engine) : (s.setEngine x).map = s.map := rfl
@[simp] theorem State.setEngine_engine (s : State) (x : Engine) : (s.setEngine x).engine = x := rfl
@[simp] theorem State.setEngine_resolver (s : State) (x : Engine) : (s.setEngine x).resolver = s.resolver := rfl
@[simp] theorem State.setEngine_sessions (s : State) (x : Engine) : (s.setEngine x).sessions = s.sessions := rfl
@[simp] theorem State.setEngine_audio (s : State) (x : Engine) : (s.setEngine x).audio = s.audio := rfl
@[simp] theorem State.setEngine_scanner (s : State) (x : Engine) : (s.setEngine x).scanner = s.scanner := rfl
@[simp] theorem State.setEngine_link (s : State) (x : Engine) : (s.setEngine x).link = s.link := rfl
@[simp] theorem State.setEngine_notices (s : State) (x : Engine) : (s.setEngine x).notices = s.notices := rfl
@[simp] theorem State.setEngine_pins (s : State) (x : Engine) : (s.setEngine x).pins = s.pins := rfl
@[simp] theorem State.setEngine_pending (s : State) (x : Engine) : (s.setEngine x).pending = s.pending := rfl

@[simp] theorem State.setResolver_now (s : State) (x : Resolver) : (s.setResolver x).now = s.now := rfl
@[simp] theorem State.setResolver_loops (s : State) (x : Resolver) : (s.setResolver x).loops = s.loops := rfl
@[simp] theorem State.setResolver_map (s : State) (x : Resolver) : (s.setResolver x).map = s.map := rfl
@[simp] theorem State.setResolver_engine (s : State) (x : Resolver) : (s.setResolver x).engine = s.engine := rfl
@[simp] theorem State.setResolver_resolver (s : State) (x : Resolver) : (s.setResolver x).resolver = x := rfl
@[simp] theorem State.setResolver_sessions (s : State) (x : Resolver) : (s.setResolver x).sessions = s.sessions := rfl
@[simp] theorem State.setResolver_audio (s : State) (x : Resolver) : (s.setResolver x).audio = s.audio := rfl
@[simp] theorem State.setResolver_scanner (s : State) (x : Resolver) : (s.setResolver x).scanner = s.scanner := rfl
@[simp] theorem State.setResolver_link (s : State) (x : Resolver) : (s.setResolver x).link = s.link := rfl
@[simp] theorem State.setResolver_notices (s : State) (x : Resolver) : (s.setResolver x).notices = s.notices := rfl
@[simp] theorem State.setResolver_pins (s : State) (x : Resolver) : (s.setResolver x).pins = s.pins := rfl
@[simp] theorem State.setResolver_pending (s : State) (x : Resolver) : (s.setResolver x).pending = s.pending := rfl

@[simp] theorem State.setSessions_now (s : State) (x : Sessions) : (s.setSessions x).now = s.now := rfl
@[simp] theorem State.setSessions_loops (s : State) (x : Sessions) : (s.setSessions x).loops = s.loops := rfl
@[simp] theorem State.setSessions_map (s : State) (x : Sessions) : (s.setSessions x).map = s.map := rfl
@[simp] theorem State.setSessions_engine (s : State) (x : Sessions) : (s.setSessions x).engine = s.engine := rfl
@[simp] theorem State.setSessions_resolver (s : State) (x : Sessions) : (s.setSessions x).resolver = s.resolver := rfl
@[simp] theorem State.setSessions_sessions (s : State) (x : Sessions) : (s.setSessions x).sessions = x := rfl
@[simp] theorem State.setSessions_audio (s : State) (x : Sessions) : (s.setSessions x).audio = s.audio := rfl
@[simp] theorem State.setSessions_scanner (s : State) (x : Sessions) : (s.setSessions x).scanner = s.scanner := rfl
@[simp] theorem State.setSessions_link (s : State) (x : Sessions) : (s.setSessions x).link = s.link := rfl
@[simp] theorem State.setSessions_notices (s : State) (x : Sessions) : (s.setSessions x).notices = s.notices := rfl
@[simp] theorem State.setSessions_pins (s : State) (x : Sessions) : (s.setSessions x).pins = s.pins := rfl
@[simp] theorem State.setSessions_pending (s : State) (x : Sessions) : (s.setSessions x).pending = s.pending := rfl

@[simp] theorem State.setAudio_now (s : State) (x : Audio) : (s.setAudio x).now = s.now := rfl
@[simp] theorem State.setAudio_loops (s : State) (x : Audio) : (s.setAudio x).loops = s.loops := rfl
@[simp] theorem State.setAudio_map (s : State) (x : Audio) : (s.setAudio x).map = s.map := rfl
@[simp] theorem State.setAudio_engine (s : State) (x : Audio) : (s.setAudio x).engine = s.engine := rfl
@[simp] theorem State.setAudio_resolver (s : State) (x : Audio) : (s.setAudio x).resolver = s.resolver := rfl
@[simp] theorem State.setAudio_sessions (s : State) (x : Audio) : (s.setAudio x).sessions = s.sessions := rfl
@[simp] theorem State.setAudio_audio (s : State) (x : Audio) : (s.setAudio x).audio = x := rfl
@[simp] theorem State.setAudio_scanner (s : State) (x : Audio) : (s.setAudio x).scanner = s.scanner := rfl
@[simp] theorem State.setAudio_link (s : State) (x : Audio) : (s.setAudio x).link = s.link := rfl
@[simp] theorem State.setAudio_notices (s : State) (x : Audio) : (s.setAudio x).notices = s.notices := rfl
@[simp] theorem State.setAudio_pins (s : State) (x : Audio) : (s.setAudio x).pins = s.pins := rfl
@[simp] theorem State.setAudio_pending (s : State) (x : Audio) : (s.setAudio x).pending = s.pending := rfl

@[simp] theorem State.setScanner_now (s : State) (x : Scanner) : (s.setScanner x).now = s.now := rfl
@[simp] theorem State.setScanner_loops (s : State) (x : Scanner) : (s.setScanner x).loops = s.loops := rfl
@[simp] theorem State.setScanner_map (s : State) (x : Scanner) : (s.setScanner x).map = s.map := rfl
@[simp] theorem State.setScanner_engine (s : State) (x : Scanner) : (s.setScanner x).engine = s.engine := rfl
@[simp] theorem State.setScanner_resolver (s : State) (x : Scanner) : (s.setScanner x).resolver = s.resolver := rfl
@[simp] theorem State.setScanner_sessions (s : State) (x : Scanner) : (s.setScanner x).sessions = s.sessions := rfl
@[simp] theorem State.setScanner_audio (s : State) (x : Scanner) : (s.setScanner x).audio = s.audio := rfl
@[simp] theorem State.setScanner_scanner (s : State) (x : Scanner) : (s.setScanner x).scanner = x := rfl
@[simp] theorem State.setScanner_link (s : State) (x : Scanner) : (s.setScanner x).link = s.link := rfl
@[simp] theorem State.setScanner_notices (s : State) (x : Scanner) : (s.setScanner x).notices = s.notices := rfl
@[simp] theorem State.setScanner_pins (s : State) (x : Scanner) : (s.setScanner x).pins = s.pins := rfl
@[simp] theorem State.setScanner_pending (s : State) (x : Scanner) : (s.setScanner x).pending = s.pending := rfl

@[simp] theorem State.setLink_now (s : State) (x : Link) : (s.setLink x).now = s.now := rfl
@[simp] theorem State.setLink_loops (s : State) (x : Link) : (s.setLink x).loops = s.loops := rfl
@[simp] theorem State.setLink_map (s : State) (x : Link) : (s.setLink x).map = s.map := rfl
@[simp] theorem State.setLink_engine (s : State) (x : Link) : (s.setLink x).engine = s.engine := rfl
@[simp] theorem State.setLink_resolver (s : State) (x : Link) : (s.setLink x).resolver = s.resolver := rfl
@[simp] theorem State.setLink_sessions (s : State) (x : Link) : (s.setLink x).sessions = s.sessions := rfl
@[simp] theorem State.setLink_audio (s : State) (x : Link) : (s.setLink x).audio = s.audio := rfl
@[simp] theorem State.setLink_scanner (s : State) (x : Link) : (s.setLink x).scanner = s.scanner := rfl
@[simp] theorem State.setLink_link (s : State) (x : Link) : (s.setLink x).link = x := rfl
@[simp] theorem State.setLink_notices (s : State) (x : Link) : (s.setLink x).notices = s.notices := rfl
@[simp] theorem State.setLink_pins (s : State) (x : Link) : (s.setLink x).pins = s.pins := rfl
@[simp] theorem State.setLink_pending (s : State) (x : Link) : (s.setLink x).pending = s.pending := rfl

@[simp] theorem State.setNotices_now (s : State) (x : Notices) : (s.setNotices x).now = s.now := rfl
@[simp] theorem State.setNotices_loops (s : State) (x : Notices) : (s.setNotices x).loops = s.loops := rfl
@[simp] theorem State.setNotices_map (s : State) (x : Notices) : (s.setNotices x).map = s.map := rfl
@[simp] theorem State.setNotices_engine (s : State) (x : Notices) : (s.setNotices x).engine = s.engine := rfl
@[simp] theorem State.setNotices_resolver (s : State) (x : Notices) : (s.setNotices x).resolver = s.resolver := rfl
@[simp] theorem State.setNotices_sessions (s : State) (x : Notices) : (s.setNotices x).sessions = s.sessions := rfl
@[simp] theorem State.setNotices_audio (s : State) (x : Notices) : (s.setNotices x).audio = s.audio := rfl
@[simp] theorem State.setNotices_scanner (s : State) (x : Notices) : (s.setNotices x).scanner = s.scanner := rfl
@[simp] theorem State.setNotices_link (s : State) (x : Notices) : (s.setNotices x).link = s.link := rfl
@[simp] theorem State.setNotices_notices (s : State) (x : Notices) : (s.setNotices x).notices = x := rfl
@[simp] theorem State.setNotices_pins (s : State) (x : Notices) : (s.setNotices x).pins = s.pins := rfl
@[simp] theorem State.setNotices_pending (s : State) (x : Notices) : (s.setNotices x).pending = s.pending := rfl

@[simp] theorem State.setPins_now (s : State) (x : Pins) : (s.setPins x).now = s.now := rfl
@[simp] theorem State.setPins_loops (s : State) (x : Pins) : (s.setPins x).loops = s.loops := rfl
@[simp] theorem State.setPins_map (s : State) (x : Pins) : (s.setPins x).map = s.map := rfl
@[simp] theorem State.setPins_engine (s : State) (x : Pins) : (s.setPins x).engine = s.engine := rfl
@[simp] theorem State.setPins_resolver (s : State) (x : Pins) : (s.setPins x).resolver = s.resolver := rfl
@[simp] theorem State.setPins_sessions (s : State) (x : Pins) : (s.setPins x).sessions = s.sessions := rfl
@[simp] theorem State.setPins_audio (s : State) (x : Pins) : (s.setPins x).audio = s.audio := rfl
@[simp] theorem State.setPins_scanner (s : State) (x : Pins) : (s.setPins x).scanner = s.scanner := rfl
@[simp] theorem State.setPins_link (s : State) (x : Pins) : (s.setPins x).link = s.link := rfl
@[simp] theorem State.setPins_notices (s : State) (x : Pins) : (s.setPins x).notices = s.notices := rfl
@[simp] theorem State.setPins_pins (s : State) (x : Pins) : (s.setPins x).pins = x := rfl
@[simp] theorem State.setPins_pending (s : State) (x : Pins) : (s.setPins x).pending = s.pending := rfl

@[simp] theorem State.setPending_now (s : State) (x : List Instr) : (s.setPending x).now = s.now := rfl
@[simp] theorem State.setPending_loops (s : State) (x : List Instr) : (s.setPending x).loops = s.loops := rfl
@[simp] theorem State.setPending_map (s : State) (x : List Instr) : (s.setPending x).map = s.map := rfl
@[simp] theorem State.setPending_engine (s : State) (x : List Instr) : (s.setPending x).engine = s.engine := rfl
@[simp] theorem State.setPending_resolver (s : State) (x : List Instr) : (s.setPending x).resolver = s.resolver := rfl
@[simp] theorem State.setPending_sessions (s : State) (x : List Instr) : (s.setPending x).sessions = s.sessions := rfl
@[simp] theorem State.setPending_audio (s : State) (x : List Instr) : (s.setPending x).audio = s.audio := rfl
@[simp] theorem State.setPending_scanner (s : State) (x : List Instr) : (s.setPending x).scanner = s.scanner := rfl
@[simp] theorem State.setPending_link (s : State) (x : List Instr) : (s.setPending x).link = s.link := rfl
@[simp] theorem State.setPending_notices (s : State) (x : List Instr) : (s.setPending x).notices = s.notices := rfl
@[simp] theorem State.setPending_pins (s : State) (x : List Instr) : (s.setPending x).pins = s.pins := rfl
@[simp] theorem State.setPending_pending (s : State) (x : List Instr) : (s.setPending x).pending = x := rfl

end Sys2Proof.Machine
end

