-- ==== Sys2Proof/Laws/Frames.lean ====
section
/-! SUPPORT. What each shared operation leaves as it was, field by field, so that no later proof unfolds one to know it. -/

namespace Sys2Proof.Machine

/-! ### The audio side as seen from the whole part -/

@[simp] theorem State.onDesk_now (s : State) (f : View → Desk → Desk) : (s.onDesk f).now = s.now := rfl
@[simp] theorem State.onDesk_loops (s : State) (f : View → Desk → Desk) : (s.onDesk f).loops = s.loops := rfl
@[simp] theorem State.onDesk_map (s : State) (f : View → Desk → Desk) : (s.onDesk f).map = s.map := rfl
@[simp] theorem State.onDesk_engine (s : State) (f : View → Desk → Desk) : (s.onDesk f).engine = s.engine := rfl
@[simp] theorem State.onDesk_resolver (s : State) (f : View → Desk → Desk) : (s.onDesk f).resolver = s.resolver := rfl
@[simp] theorem State.onDesk_sessions (s : State) (f : View → Desk → Desk) : (s.onDesk f).sessions = s.sessions := rfl
@[simp] theorem State.onDesk_scanner (s : State) (f : View → Desk → Desk) : (s.onDesk f).scanner = s.scanner := rfl
@[simp] theorem State.onDesk_link (s : State) (f : View → Desk → Desk) : (s.onDesk f).link = s.link := rfl
@[simp] theorem State.onDesk_pins (s : State) (f : View → Desk → Desk) : (s.onDesk f).pins = s.pins := rfl
@[simp] theorem State.onDesk_pending (s : State) (f : View → Desk → Desk) : (s.onDesk f).pending = s.pending := rfl

theorem State.onDesk_audio (s : State) (f : View → Desk → Desk) :
    (s.onDesk f).audio = (f s.view { audio := s.audio, notices := s.notices }).audio := rfl

theorem State.onDesk_notices (s : State) (f : View → Desk → Desk) :
    (s.onDesk f).notices = (f s.view { audio := s.audio, notices := s.notices }).notices := rfl

@[simp] theorem State.onAudio_now (s : State) (f : Audio → Audio) : (s.onAudio f).now = s.now := rfl
@[simp] theorem State.onAudio_loops (s : State) (f : Audio → Audio) : (s.onAudio f).loops = s.loops := rfl
@[simp] theorem State.onAudio_map (s : State) (f : Audio → Audio) : (s.onAudio f).map = s.map := rfl
@[simp] theorem State.onAudio_engine (s : State) (f : Audio → Audio) : (s.onAudio f).engine = s.engine := rfl
@[simp] theorem State.onAudio_resolver (s : State) (f : Audio → Audio) : (s.onAudio f).resolver = s.resolver := rfl
@[simp] theorem State.onAudio_sessions (s : State) (f : Audio → Audio) : (s.onAudio f).sessions = s.sessions := rfl
@[simp] theorem State.onAudio_scanner (s : State) (f : Audio → Audio) : (s.onAudio f).scanner = s.scanner := rfl
@[simp] theorem State.onAudio_link (s : State) (f : Audio → Audio) : (s.onAudio f).link = s.link := rfl
@[simp] theorem State.onAudio_notices (s : State) (f : Audio → Audio) : (s.onAudio f).notices = s.notices := rfl
@[simp] theorem State.onAudio_pins (s : State) (f : Audio → Audio) : (s.onAudio f).pins = s.pins := rfl
@[simp] theorem State.onAudio_pending (s : State) (f : Audio → Audio) : (s.onAudio f).pending = s.pending := rfl
@[simp] theorem State.onAudio_audio (s : State) (f : Audio → Audio) : (s.onAudio f).audio = f s.audio := rfl

/-! ### Updates of one record -/

@[simp] theorem State.setRecords_now (s : State) (x : Vector ZoneRecord 48) : (s.setRecords x).now = s.now := rfl
@[simp] theorem State.setRecords_loops (s : State) (x : Vector ZoneRecord 48) : (s.setRecords x).loops = s.loops := rfl
@[simp] theorem State.setRecords_map (s : State) (x : Vector ZoneRecord 48) : (s.setRecords x).map = s.map := rfl
@[simp] theorem State.setRecords_engine (s : State) (x : Vector ZoneRecord 48) : (s.setRecords x).engine = s.engine := rfl
@[simp] theorem State.setRecords_sessions (s : State) (x : Vector ZoneRecord 48) : (s.setRecords x).sessions = s.sessions := rfl
@[simp] theorem State.setRecords_audio (s : State) (x : Vector ZoneRecord 48) : (s.setRecords x).audio = s.audio := rfl
@[simp] theorem State.setRecords_scanner (s : State) (x : Vector ZoneRecord 48) : (s.setRecords x).scanner = s.scanner := rfl
@[simp] theorem State.setRecords_link (s : State) (x : Vector ZoneRecord 48) : (s.setRecords x).link = s.link := rfl
@[simp] theorem State.setRecords_notices (s : State) (x : Vector ZoneRecord 48) : (s.setRecords x).notices = s.notices := rfl
@[simp] theorem State.setRecords_pins (s : State) (x : Vector ZoneRecord 48) : (s.setRecords x).pins = s.pins := rfl
@[simp] theorem State.setRecords_pending (s : State) (x : Vector ZoneRecord 48) : (s.setRecords x).pending = s.pending := rfl
@[simp] theorem State.setTests_now (s : State) (x : Vector (Option (Fin 16)) 48) : (s.setTests x).now = s.now := rfl
@[simp] theorem State.setTests_loops (s : State) (x : Vector (Option (Fin 16)) 48) : (s.setTests x).loops = s.loops := rfl
@[simp] theorem State.setTests_map (s : State) (x : Vector (Option (Fin 16)) 48) : (s.setTests x).map = s.map := rfl
@[simp] theorem State.setTests_engine (s : State) (x : Vector (Option (Fin 16)) 48) : (s.setTests x).engine = s.engine := rfl
@[simp] theorem State.setTests_sessions (s : State) (x : Vector (Option (Fin 16)) 48) : (s.setTests x).sessions = s.sessions := rfl
@[simp] theorem State.setTests_audio (s : State) (x : Vector (Option (Fin 16)) 48) : (s.setTests x).audio = s.audio := rfl
@[simp] theorem State.setTests_scanner (s : State) (x : Vector (Option (Fin 16)) 48) : (s.setTests x).scanner = s.scanner := rfl
@[simp] theorem State.setTests_link (s : State) (x : Vector (Option (Fin 16)) 48) : (s.setTests x).link = s.link := rfl
@[simp] theorem State.setTests_notices (s : State) (x : Vector (Option (Fin 16)) 48) : (s.setTests x).notices = s.notices := rfl
@[simp] theorem State.setTests_pins (s : State) (x : Vector (Option (Fin 16)) 48) : (s.setTests x).pins = s.pins := rfl
@[simp] theorem State.setTests_pending (s : State) (x : Vector (Option (Fin 16)) 48) : (s.setTests x).pending = s.pending := rfl
@[simp] theorem State.onMap_now (s : State) (f : CauseMap → CauseMap) : (s.onMap f).now = s.now := rfl
@[simp] theorem State.onMap_loops (s : State) (f : CauseMap → CauseMap) : (s.onMap f).loops = s.loops := rfl
@[simp] theorem State.onMap_engine (s : State) (f : CauseMap → CauseMap) : (s.onMap f).engine = s.engine := rfl
@[simp] theorem State.onMap_resolver (s : State) (f : CauseMap → CauseMap) : (s.onMap f).resolver = s.resolver := rfl
@[simp] theorem State.onMap_sessions (s : State) (f : CauseMap → CauseMap) : (s.onMap f).sessions = s.sessions := rfl
@[simp] theorem State.onMap_audio (s : State) (f : CauseMap → CauseMap) : (s.onMap f).audio = s.audio := rfl
@[simp] theorem State.onMap_scanner (s : State) (f : CauseMap → CauseMap) : (s.onMap f).scanner = s.scanner := rfl
@[simp] theorem State.onMap_link (s : State) (f : CauseMap → CauseMap) : (s.onMap f).link = s.link := rfl
@[simp] theorem State.onMap_notices (s : State) (f : CauseMap → CauseMap) : (s.onMap f).notices = s.notices := rfl
@[simp] theorem State.onMap_pins (s : State) (f : CauseMap → CauseMap) : (s.onMap f).pins = s.pins := rfl
@[simp] theorem State.onMap_pending (s : State) (f : CauseMap → CauseMap) : (s.onMap f).pending = s.pending := rfl
@[simp] theorem State.setLoop_now (s : State) (l : Fin 4) (r : Receiver) : (s.setLoop l r).now = s.now := rfl
@[simp] theorem State.setLoop_map (s : State) (l : Fin 4) (r : Receiver) : (s.setLoop l r).map = s.map := rfl
@[simp] theorem State.setLoop_engine (s : State) (l : Fin 4) (r : Receiver) : (s.setLoop l r).engine = s.engine := rfl
@[simp] theorem State.setLoop_resolver (s : State) (l : Fin 4) (r : Receiver) : (s.setLoop l r).resolver = s.resolver := rfl
@[simp] theorem State.setLoop_sessions (s : State) (l : Fin 4) (r : Receiver) : (s.setLoop l r).sessions = s.sessions := rfl
@[simp] theorem State.setLoop_audio (s : State) (l : Fin 4) (r : Receiver) : (s.setLoop l r).audio = s.audio := rfl
@[simp] theorem State.setLoop_scanner (s : State) (l : Fin 4) (r : Receiver) : (s.setLoop l r).scanner = s.scanner := rfl
@[simp] theorem State.setLoop_link (s : State) (l : Fin 4) (r : Receiver) : (s.setLoop l r).link = s.link := rfl
@[simp] theorem State.setLoop_notices (s : State) (l : Fin 4) (r : Receiver) : (s.setLoop l r).notices = s.notices := rfl
@[simp] theorem State.setLoop_pins (s : State) (l : Fin 4) (r : Receiver) : (s.setLoop l r).pins = s.pins := rfl
@[simp] theorem State.setLoop_pending (s : State) (l : Fin 4) (r : Receiver) : (s.setLoop l r).pending = s.pending := rfl
@[simp] theorem State.setLine_now (s : State) (n : Fin 48) (x : Line) : (s.setLine n x).now = s.now := rfl
@[simp] theorem State.setLine_loops (s : State) (n : Fin 48) (x : Line) : (s.setLine n x).loops = s.loops := rfl
@[simp] theorem State.setLine_map (s : State) (n : Fin 48) (x : Line) : (s.setLine n x).map = s.map := rfl
@[simp] theorem State.setLine_engine (s : State) (n : Fin 48) (x : Line) : (s.setLine n x).engine = s.engine := rfl
@[simp] theorem State.setLine_resolver (s : State) (n : Fin 48) (x : Line) : (s.setLine n x).resolver = s.resolver := rfl
@[simp] theorem State.setLine_sessions (s : State) (n : Fin 48) (x : Line) : (s.setLine n x).sessions = s.sessions := rfl
@[simp] theorem State.setLine_audio (s : State) (n : Fin 48) (x : Line) : (s.setLine n x).audio = s.audio := rfl
@[simp] theorem State.setLine_link (s : State) (n : Fin 48) (x : Line) : (s.setLine n x).link = s.link := rfl
@[simp] theorem State.setLine_notices (s : State) (n : Fin 48) (x : Line) : (s.setLine n x).notices = s.notices := rfl
@[simp] theorem State.setLine_pins (s : State) (n : Fin 48) (x : Line) : (s.setLine n x).pins = s.pins := rfl
@[simp] theorem State.setLine_pending (s : State) (n : Fin 48) (x : Line) : (s.setLine n x).pending = s.pending := rfl
@[simp] theorem State.setSession_now (s : State) (m : Mic) (x : Option Session) : (s.setSession m x).now = s.now := rfl
@[simp] theorem State.setSession_loops (s : State) (m : Mic) (x : Option Session) : (s.setSession m x).loops = s.loops := rfl
@[simp] theorem State.setSession_map (s : State) (m : Mic) (x : Option Session) : (s.setSession m x).map = s.map := rfl
@[simp] theorem State.setSession_engine (s : State) (m : Mic) (x : Option Session) : (s.setSession m x).engine = s.engine := rfl
@[simp] theorem State.setSession_resolver (s : State) (m : Mic) (x : Option Session) : (s.setSession m x).resolver = s.resolver := rfl
@[simp] theorem State.setSession_audio (s : State) (m : Mic) (x : Option Session) : (s.setSession m x).audio = s.audio := rfl
@[simp] theorem State.setSession_scanner (s : State) (m : Mic) (x : Option Session) : (s.setSession m x).scanner = s.scanner := rfl
@[simp] theorem State.setSession_link (s : State) (m : Mic) (x : Option Session) : (s.setSession m x).link = s.link := rfl
@[simp] theorem State.setSession_notices (s : State) (m : Mic) (x : Option Session) : (s.setSession m x).notices = s.notices := rfl
@[simp] theorem State.setSession_pins (s : State) (m : Mic) (x : Option Session) : (s.setSession m x).pins = s.pins := rfl
@[simp] theorem State.setSession_pending (s : State) (m : Mic) (x : Option Session) : (s.setSession m x).pending = s.pending := rfl
@[simp] theorem State.emptyNotices_now (s : State) : (s.emptyNotices).now = s.now := rfl
@[simp] theorem State.emptyNotices_loops (s : State) : (s.emptyNotices).loops = s.loops := rfl
@[simp] theorem State.emptyNotices_map (s : State) : (s.emptyNotices).map = s.map := rfl
@[simp] theorem State.emptyNotices_resolver (s : State) : (s.emptyNotices).resolver = s.resolver := rfl
@[simp] theorem State.emptyNotices_sessions (s : State) : (s.emptyNotices).sessions = s.sessions := rfl
@[simp] theorem State.emptyNotices_audio (s : State) : (s.emptyNotices).audio = s.audio := rfl
@[simp] theorem State.emptyNotices_scanner (s : State) : (s.emptyNotices).scanner = s.scanner := rfl
@[simp] theorem State.emptyNotices_link (s : State) : (s.emptyNotices).link = s.link := rfl
@[simp] theorem State.emptyNotices_pins (s : State) : (s.emptyNotices).pins = s.pins := rfl
@[simp] theorem State.emptyNotices_pending (s : State) : (s.emptyNotices).pending = s.pending := rfl
@[simp] theorem State.linkValid_now (s : State) : (s.linkValid).now = s.now := by
  unfold State.linkValid; split <;> rfl
@[simp] theorem State.linkValid_loops (s : State) : (s.linkValid).loops = s.loops := by
  unfold State.linkValid; split <;> rfl
@[simp] theorem State.linkValid_map (s : State) : (s.linkValid).map = s.map := by
  unfold State.linkValid; split <;> rfl
@[simp] theorem State.linkValid_engine (s : State) : (s.linkValid).engine = s.engine := by
  unfold State.linkValid; split <;> rfl
@[simp] theorem State.linkValid_resolver (s : State) : (s.linkValid).resolver = s.resolver := by
  unfold State.linkValid; split <;> rfl
@[simp] theorem State.linkValid_sessions (s : State) : (s.linkValid).sessions = s.sessions := by
  unfold State.linkValid; split <;> rfl
@[simp] theorem State.linkValid_audio (s : State) : (s.linkValid).audio = s.audio := by
  unfold State.linkValid; split <;> rfl
@[simp] theorem State.linkValid_scanner (s : State) : (s.linkValid).scanner = s.scanner := by
  unfold State.linkValid; split <;> rfl
@[simp] theorem State.linkValid_pins (s : State) : (s.linkValid).pins = s.pins := by
  unfold State.linkValid; split <;> rfl
@[simp] theorem State.linkValid_pending (s : State) : (s.linkValid).pending = s.pending := by
  unfold State.linkValid; split <;> rfl
@[simp] theorem State.respond_now (s : State) (c : Byte) (r : Result) (p : List Byte) : (s.respond c r p).now = s.now := rfl
@[simp] theorem State.respond_loops (s : State) (c : Byte) (r : Result) (p : List Byte) : (s.respond c r p).loops = s.loops := rfl
@[simp] theorem State.respond_map (s : State) (c : Byte) (r : Result) (p : List Byte) : (s.respond c r p).map = s.map := rfl
@[simp] theorem State.respond_engine (s : State) (c : Byte) (r : Result) (p : List Byte) : (s.respond c r p).engine = s.engine := rfl
@[simp] theorem State.respond_resolver (s : State) (c : Byte) (r : Result) (p : List Byte) : (s.respond c r p).resolver = s.resolver := rfl
@[simp] theorem State.respond_sessions (s : State) (c : Byte) (r : Result) (p : List Byte) : (s.respond c r p).sessions = s.sessions := rfl
@[simp] theorem State.respond_audio (s : State) (c : Byte) (r : Result) (p : List Byte) : (s.respond c r p).audio = s.audio := rfl
@[simp] theorem State.respond_scanner (s : State) (c : Byte) (r : Result) (p : List Byte) : (s.respond c r p).scanner = s.scanner := rfl
@[simp] theorem State.respond_notices (s : State) (c : Byte) (r : Result) (p : List Byte) : (s.respond c r p).notices = s.notices := rfl
@[simp] theorem State.respond_pins (s : State) (c : Byte) (r : Result) (p : List Byte) : (s.respond c r p).pins = s.pins := rfl
@[simp] theorem State.respond_pending (s : State) (c : Byte) (r : Result) (p : List Byte) : (s.respond c r p).pending = s.pending := rfl

/-! ### Resolution -/

@[simp] theorem State.inputChange_now (s : State) : (s.inputChange).now = s.now := by
  unfold State.inputChange; dsimp only; split <;> simp
@[simp] theorem State.inputChange_loops (s : State) : (s.inputChange).loops = s.loops := by
  unfold State.inputChange; dsimp only; split <;> simp
@[simp] theorem State.inputChange_map (s : State) : (s.inputChange).map = s.map := by
  unfold State.inputChange; dsimp only; split <;> simp
@[simp] theorem State.inputChange_engine (s : State) : (s.inputChange).engine = s.engine := by
  unfold State.inputChange; dsimp only; split <;> simp
@[simp] theorem State.inputChange_sessions (s : State) : (s.inputChange).sessions = s.sessions := by
  unfold State.inputChange; dsimp only; split <;> simp
@[simp] theorem State.inputChange_scanner (s : State) : (s.inputChange).scanner = s.scanner := by
  unfold State.inputChange; dsimp only; split <;> simp
@[simp] theorem State.inputChange_link (s : State) : (s.inputChange).link = s.link := by
  unfold State.inputChange; dsimp only; split <;> simp
@[simp] theorem State.inputChange_pins (s : State) : (s.inputChange).pins = s.pins := by
  unfold State.inputChange; dsimp only; split <;> simp
@[simp] theorem State.inputChange_pending (s : State) : (s.inputChange).pending = s.pending := by
  unfold State.inputChange; dsimp only; split <;> simp

/-- An input change writes the runtime records and nothing else of the resolver. -/
theorem State.inputChange_resolver (s : State) :
    s.inputChange.resolver = { s.resolver with records := s.resolved } := by
  unfold State.inputChange; dsimp only; split <;> rfl

@[simp] theorem State.inputChange_configs (s : State) : s.inputChange.resolver.configs = s.resolver.configs := by
  rw [State.inputChange_resolver]

@[simp] theorem State.inputChange_tests (s : State) : s.inputChange.resolver.tests = s.resolver.tests := by
  rw [State.inputChange_resolver]

@[simp] theorem State.withdrawTests_now (s : State) : (s.withdrawTests).now = s.now := by
  unfold State.withdrawTests; split <;> simp
@[simp] theorem State.withdrawTests_loops (s : State) : (s.withdrawTests).loops = s.loops := by
  unfold State.withdrawTests; split <;> simp
@[simp] theorem State.withdrawTests_map (s : State) : (s.withdrawTests).map = s.map := by
  unfold State.withdrawTests; split <;> simp
@[simp] theorem State.withdrawTests_engine (s : State) : (s.withdrawTests).engine = s.engine := by
  unfold State.withdrawTests; split <;> simp
@[simp] theorem State.withdrawTests_sessions (s : State) : (s.withdrawTests).sessions = s.sessions := by
  unfold State.withdrawTests; split <;> simp
@[simp] theorem State.withdrawTests_scanner (s : State) : (s.withdrawTests).scanner = s.scanner := by
  unfold State.withdrawTests; split <;> simp
@[simp] theorem State.withdrawTests_link (s : State) : (s.withdrawTests).link = s.link := by
  unfold State.withdrawTests; split <;> simp
@[simp] theorem State.withdrawTests_pins (s : State) : (s.withdrawTests).pins = s.pins := by
  unfold State.withdrawTests; split <;> simp
@[simp] theorem State.withdrawTests_pending (s : State) : (s.withdrawTests).pending = s.pending := by
  unfold State.withdrawTests; split <;> simp
@[simp] theorem State.withdrawTests_configs (s : State) :
    s.withdrawTests.resolver.configs = s.resolver.configs := by
  unfold State.withdrawTests; split <;> simp [State.setTests]


/-! ### Events of the engine -/

@[simp] theorem State.engineEvent_now (s : State) (e : Engine) : (s.engineEvent e).now = s.now := by
  unfold State.engineEvent; dsimp only; split <;> (try split) <;> simp
@[simp] theorem State.engineEvent_loops (s : State) (e : Engine) : (s.engineEvent e).loops = s.loops := by
  unfold State.engineEvent; dsimp only; split <;> (try split) <;> simp
@[simp] theorem State.engineEvent_map (s : State) (e : Engine) : (s.engineEvent e).map = s.map := by
  unfold State.engineEvent; dsimp only; split <;> (try split) <;> simp
@[simp] theorem State.engineEvent_sessions (s : State) (e : Engine) : (s.engineEvent e).sessions = s.sessions := by
  unfold State.engineEvent; dsimp only; split <;> (try split) <;> simp
@[simp] theorem State.engineEvent_scanner (s : State) (e : Engine) : (s.engineEvent e).scanner = s.scanner := by
  unfold State.engineEvent; dsimp only; split <;> (try split) <;> simp
@[simp] theorem State.engineEvent_link (s : State) (e : Engine) : (s.engineEvent e).link = s.link := by
  unfold State.engineEvent; dsimp only; split <;> (try split) <;> simp
@[simp] theorem State.engineEvent_pins (s : State) (e : Engine) : (s.engineEvent e).pins = s.pins := by
  unfold State.engineEvent; dsimp only; split <;> (try split) <;> simp
@[simp] theorem State.engineEvent_pending (s : State) (e : Engine) : (s.engineEvent e).pending = s.pending := by
  unfold State.engineEvent; dsimp only; split <;> (try split) <;> simp
@[simp] theorem State.engineEvent_engine (s : State) (e : Engine) : (s.engineEvent e).engine = e := by
  unfold State.engineEvent; dsimp only; split <;> (try split) <;> simp

@[simp] theorem State.engineEvent_configs (s : State) (e : Engine) :
    (s.engineEvent e).resolver.configs = s.resolver.configs := by
  unfold State.engineEvent; dsimp only; split <;> (try split) <;> simp

@[simp] theorem State.changeIncident_now (s : State) (k : Fin 32) (i j : Incident) : (s.changeIncident k i j).now = s.now := by
  simp [State.changeIncident]
@[simp] theorem State.changeIncident_loops (s : State) (k : Fin 32) (i j : Incident) : (s.changeIncident k i j).loops = s.loops := by
  simp [State.changeIncident]
@[simp] theorem State.changeIncident_map (s : State) (k : Fin 32) (i j : Incident) : (s.changeIncident k i j).map = s.map := by
  simp [State.changeIncident]
@[simp] theorem State.changeIncident_sessions (s : State) (k : Fin 32) (i j : Incident) : (s.changeIncident k i j).sessions = s.sessions := by
  simp [State.changeIncident]
@[simp] theorem State.changeIncident_scanner (s : State) (k : Fin 32) (i j : Incident) : (s.changeIncident k i j).scanner = s.scanner := by
  simp [State.changeIncident]
@[simp] theorem State.changeIncident_link (s : State) (k : Fin 32) (i j : Incident) : (s.changeIncident k i j).link = s.link := by
  simp [State.changeIncident]
@[simp] theorem State.changeIncident_pins (s : State) (k : Fin 32) (i j : Incident) : (s.changeIncident k i j).pins = s.pins := by
  simp [State.changeIncident]
@[simp] theorem State.changeIncident_pending (s : State) (k : Fin 32) (i j : Incident) : (s.changeIncident k i j).pending = s.pending := by
  simp [State.changeIncident]
@[simp] theorem State.changeIncident_engine (s : State) (k : Fin 32) (i j : Incident) :
    (s.changeIncident k i j).engine = s.engine.put s.now k i j := by
  simp [State.changeIncident]

@[simp] theorem State.boundReport_now (s : State) (r : BoundReport) : (s.boundReport r).now = s.now := by
  unfold State.boundReport; dsimp only; split <;> simp
@[simp] theorem State.boundReport_loops (s : State) (r : BoundReport) : (s.boundReport r).loops = s.loops := by
  unfold State.boundReport; dsimp only; split <;> simp
@[simp] theorem State.boundReport_map (s : State) (r : BoundReport) : (s.boundReport r).map = s.map := by
  unfold State.boundReport; dsimp only; split <;> simp
@[simp] theorem State.boundReport_sessions (s : State) (r : BoundReport) : (s.boundReport r).sessions = s.sessions := by
  unfold State.boundReport; dsimp only; split <;> simp
@[simp] theorem State.boundReport_scanner (s : State) (r : BoundReport) : (s.boundReport r).scanner = s.scanner := by
  unfold State.boundReport; dsimp only; split <;> simp
@[simp] theorem State.boundReport_link (s : State) (r : BoundReport) : (s.boundReport r).link = s.link := by
  unfold State.boundReport; dsimp only; split <;> simp
@[simp] theorem State.boundReport_pins (s : State) (r : BoundReport) : (s.boundReport r).pins = s.pins := by
  unfold State.boundReport; dsimp only; split <;> simp
@[simp] theorem State.boundReport_pending (s : State) (r : BoundReport) : (s.boundReport r).pending = s.pending := by
  unfold State.boundReport; dsimp only; split <;> simp
@[simp] theorem State.boundReport_engine (s : State) (r : BoundReport) :
    (s.boundReport r).engine = s.engine.takeReport s.now s.autonomous r := by
  unfold State.boundReport; dsimp only; split <;> simp

@[simp] theorem State.boundReport_configs (s : State) (r : BoundReport) :
    (s.boundReport r).resolver.configs = s.resolver.configs := by
  unfold State.boundReport; dsimp only; split <;> simp

@[simp] theorem State.boundReports_now (s : State) (rs : List BoundReport) : (s.boundReports rs).now = s.now := by
  induction rs generalizing s with
  | nil => rfl
  | cons r rs ih => exact (ih (s.boundReport r)).trans (by simp)
@[simp] theorem State.boundReports_loops (s : State) (rs : List BoundReport) : (s.boundReports rs).loops = s.loops := by
  induction rs generalizing s with
  | nil => rfl
  | cons r rs ih => exact (ih (s.boundReport r)).trans (by simp)
@[simp] theorem State.boundReports_map (s : State) (rs : List BoundReport) : (s.boundReports rs).map = s.map := by
  induction rs generalizing s with
  | nil => rfl
  | cons r rs ih => exact (ih (s.boundReport r)).trans (by simp)
@[simp] theorem State.boundReports_sessions (s : State) (rs : List BoundReport) : (s.boundReports rs).sessions = s.sessions := by
  induction rs generalizing s with
  | nil => rfl
  | cons r rs ih => exact (ih (s.boundReport r)).trans (by simp)
@[simp] theorem State.boundReports_scanner (s : State) (rs : List BoundReport) : (s.boundReports rs).scanner = s.scanner := by
  induction rs generalizing s with
  | nil => rfl
  | cons r rs ih => exact (ih (s.boundReport r)).trans (by simp)
@[simp] theorem State.boundReports_link (s : State) (rs : List BoundReport) : (s.boundReports rs).link = s.link := by
  induction rs generalizing s with
  | nil => rfl
  | cons r rs ih => exact (ih (s.boundReport r)).trans (by simp)
@[simp] theorem State.boundReports_pins (s : State) (rs : List BoundReport) : (s.boundReports rs).pins = s.pins := by
  induction rs generalizing s with
  | nil => rfl
  | cons r rs ih => exact (ih (s.boundReport r)).trans (by simp)
@[simp] theorem State.boundReports_pending (s : State) (rs : List BoundReport) : (s.boundReports rs).pending = s.pending := by
  induction rs generalizing s with
  | nil => rfl
  | cons r rs ih => exact (ih (s.boundReport r)).trans (by simp)
@[simp] theorem State.resolveMisses_now (s : State) (p : Miss → Bool) (b : Binding) : (s.resolveMisses p b).now = s.now := by
  simp [State.resolveMisses]
@[simp] theorem State.resolveMisses_loops (s : State) (p : Miss → Bool) (b : Binding) : (s.resolveMisses p b).loops = s.loops := by
  simp [State.resolveMisses]
@[simp] theorem State.resolveMisses_sessions (s : State) (p : Miss → Bool) (b : Binding) : (s.resolveMisses p b).sessions = s.sessions := by
  simp [State.resolveMisses]
@[simp] theorem State.resolveMisses_scanner (s : State) (p : Miss → Bool) (b : Binding) : (s.resolveMisses p b).scanner = s.scanner := by
  simp [State.resolveMisses]
@[simp] theorem State.resolveMisses_link (s : State) (p : Miss → Bool) (b : Binding) : (s.resolveMisses p b).link = s.link := by
  simp [State.resolveMisses]
@[simp] theorem State.resolveMisses_pins (s : State) (p : Miss → Bool) (b : Binding) : (s.resolveMisses p b).pins = s.pins := by
  simp [State.resolveMisses]
@[simp] theorem State.resolveMisses_pending (s : State) (p : Miss → Bool) (b : Binding) : (s.resolveMisses p b).pending = s.pending := by
  simp [State.resolveMisses]
/-- Resolving misses takes the resolved entries off the list and leaves the rest of the map. -/
@[simp] theorem State.resolveMisses_map (s : State) (p : Miss → Bool) (b : Binding) :
    (s.resolveMisses p b).map = { s.map with misses := s.map.misses.filter fun x => !p x } := by
  simp [State.resolveMisses, State.onMap]


/-! ### Lines -/

@[simp] theorem State.lineChanged_now (s : State) (n : Fin 48) (old : LineState) : (s.lineChanged n old).now = s.now := by
  unfold State.lineChanged; split <;> simp
@[simp] theorem State.lineChanged_loops (s : State) (n : Fin 48) (old : LineState) : (s.lineChanged n old).loops = s.loops := by
  unfold State.lineChanged; split <;> simp
@[simp] theorem State.lineChanged_map (s : State) (n : Fin 48) (old : LineState) : (s.lineChanged n old).map = s.map := by
  unfold State.lineChanged; split <;> simp
@[simp] theorem State.lineChanged_engine (s : State) (n : Fin 48) (old : LineState) : (s.lineChanged n old).engine = s.engine := by
  unfold State.lineChanged; split <;> simp
@[simp] theorem State.lineChanged_resolver (s : State) (n : Fin 48) (old : LineState) : (s.lineChanged n old).resolver = s.resolver := by
  unfold State.lineChanged; split <;> simp
@[simp] theorem State.lineChanged_sessions (s : State) (n : Fin 48) (old : LineState) : (s.lineChanged n old).sessions = s.sessions := by
  unfold State.lineChanged; split <;> simp
@[simp] theorem State.lineChanged_scanner (s : State) (n : Fin 48) (old : LineState) : (s.lineChanged n old).scanner = s.scanner := by
  unfold State.lineChanged; split <;> simp
@[simp] theorem State.lineChanged_link (s : State) (n : Fin 48) (old : LineState) : (s.lineChanged n old).link = s.link := by
  unfold State.lineChanged; split <;> simp
@[simp] theorem State.lineChanged_pins (s : State) (n : Fin 48) (old : LineState) : (s.lineChanged n old).pins = s.pins := by
  unfold State.lineChanged; split <;> simp
@[simp] theorem State.lineChanged_pending (s : State) (n : Fin 48) (old : LineState) : (s.lineChanged n old).pending = s.pending := by
  unfold State.lineChanged; split <;> simp
@[simp] theorem State.takeReading_now (s : State) (n : Fin 48) (c : LineClass) : (s.takeReading n c).now = s.now := by
  unfold State.takeReading; dsimp only; split <;> simp
@[simp] theorem State.takeReading_loops (s : State) (n : Fin 48) (c : LineClass) : (s.takeReading n c).loops = s.loops := by
  unfold State.takeReading; dsimp only; split <;> simp
@[simp] theorem State.takeReading_map (s : State) (n : Fin 48) (c : LineClass) : (s.takeReading n c).map = s.map := by
  unfold State.takeReading; dsimp only; split <;> simp
@[simp] theorem State.takeReading_engine (s : State) (n : Fin 48) (c : LineClass) : (s.takeReading n c).engine = s.engine := by
  unfold State.takeReading; dsimp only; split <;> simp
@[simp] theorem State.takeReading_resolver (s : State) (n : Fin 48) (c : LineClass) : (s.takeReading n c).resolver = s.resolver := by
  unfold State.takeReading; dsimp only; split <;> simp
@[simp] theorem State.takeReading_sessions (s : State) (n : Fin 48) (c : LineClass) : (s.takeReading n c).sessions = s.sessions := by
  unfold State.takeReading; dsimp only; split <;> simp
@[simp] theorem State.takeReading_link (s : State) (n : Fin 48) (c : LineClass) : (s.takeReading n c).link = s.link := by
  unfold State.takeReading; dsimp only; split <;> simp
@[simp] theorem State.takeReading_pins (s : State) (n : Fin 48) (c : LineClass) : (s.takeReading n c).pins = s.pins := by
  unfold State.takeReading; dsimp only; split <;> simp
@[simp] theorem State.takeReading_pending (s : State) (n : Fin 48) (c : LineClass) : (s.takeReading n c).pending = s.pending := by
  unfold State.takeReading; dsimp only; split <;> simp
@[simp] theorem State.beginVisit_now (s : State) (n : Fin 48) : (s.beginVisit n).now = s.now := rfl
@[simp] theorem State.beginVisit_loops (s : State) (n : Fin 48) : (s.beginVisit n).loops = s.loops := rfl
@[simp] theorem State.beginVisit_map (s : State) (n : Fin 48) : (s.beginVisit n).map = s.map := rfl
@[simp] theorem State.beginVisit_engine (s : State) (n : Fin 48) : (s.beginVisit n).engine = s.engine := rfl
@[simp] theorem State.beginVisit_resolver (s : State) (n : Fin 48) : (s.beginVisit n).resolver = s.resolver := rfl
@[simp] theorem State.beginVisit_sessions (s : State) (n : Fin 48) : (s.beginVisit n).sessions = s.sessions := rfl
@[simp] theorem State.beginVisit_link (s : State) (n : Fin 48) : (s.beginVisit n).link = s.link := rfl
@[simp] theorem State.beginVisit_notices (s : State) (n : Fin 48) : (s.beginVisit n).notices = s.notices := rfl
@[simp] theorem State.beginVisit_pins (s : State) (n : Fin 48) : (s.beginVisit n).pins = s.pins := rfl
@[simp] theorem State.beginVisit_pending (s : State) (n : Fin 48) : (s.beginVisit n).pending = s.pending := rfl
@[simp] theorem State.afterVisit_now (s : State) : (s.afterVisit).now = s.now := by
  unfold State.afterVisit; split <;> simp
@[simp] theorem State.afterVisit_loops (s : State) : (s.afterVisit).loops = s.loops := by
  unfold State.afterVisit; split <;> simp
@[simp] theorem State.afterVisit_map (s : State) : (s.afterVisit).map = s.map := by
  unfold State.afterVisit; split <;> simp
@[simp] theorem State.afterVisit_engine (s : State) : (s.afterVisit).engine = s.engine := by
  unfold State.afterVisit; split <;> simp
@[simp] theorem State.afterVisit_resolver (s : State) : (s.afterVisit).resolver = s.resolver := by
  unfold State.afterVisit; split <;> simp
@[simp] theorem State.afterVisit_sessions (s : State) : (s.afterVisit).sessions = s.sessions := by
  unfold State.afterVisit; split <;> simp
@[simp] theorem State.afterVisit_link (s : State) : (s.afterVisit).link = s.link := by
  unfold State.afterVisit; split <;> simp
@[simp] theorem State.afterVisit_notices (s : State) : (s.afterVisit).notices = s.notices := by
  unfold State.afterVisit; split <;> simp
@[simp] theorem State.afterVisit_pins (s : State) : (s.afterVisit).pins = s.pins := by
  unfold State.afterVisit; split <;> simp
@[simp] theorem State.afterVisit_pending (s : State) : (s.afterVisit).pending = s.pending := by
  unfold State.afterVisit; split <;> simp
@[simp] theorem State.zoneWritten_now (s : State) (n : Fin 48) (b : Bool) : (s.zoneWritten n b).now = s.now := by
  unfold State.zoneWritten; dsimp only; split <;> simp
@[simp] theorem State.zoneWritten_loops (s : State) (n : Fin 48) (b : Bool) : (s.zoneWritten n b).loops = s.loops := by
  unfold State.zoneWritten; dsimp only; split <;> simp
@[simp] theorem State.zoneWritten_map (s : State) (n : Fin 48) (b : Bool) : (s.zoneWritten n b).map = s.map := by
  unfold State.zoneWritten; dsimp only; split <;> simp
@[simp] theorem State.zoneWritten_engine (s : State) (n : Fin 48) (b : Bool) : (s.zoneWritten n b).engine = s.engine := by
  unfold State.zoneWritten; dsimp only; split <;> simp
@[simp] theorem State.zoneWritten_resolver (s : State) (n : Fin 48) (b : Bool) : (s.zoneWritten n b).resolver = s.resolver := by
  unfold State.zoneWritten; dsimp only; split <;> simp
@[simp] theorem State.zoneWritten_sessions (s : State) (n : Fin 48) (b : Bool) : (s.zoneWritten n b).sessions = s.sessions := by
  unfold State.zoneWritten; dsimp only; split <;> simp
@[simp] theorem State.zoneWritten_link (s : State) (n : Fin 48) (b : Bool) : (s.zoneWritten n b).link = s.link := by
  unfold State.zoneWritten; dsimp only; split <;> simp
@[simp] theorem State.zoneWritten_pins (s : State) (n : Fin 48) (b : Bool) : (s.zoneWritten n b).pins = s.pins := by
  unfold State.zoneWritten; dsimp only; split <;> simp
@[simp] theorem State.zoneWritten_pending (s : State) (n : Fin 48) (b : Bool) : (s.zoneWritten n b).pending = s.pending := by
  unfold State.zoneWritten; dsimp only; split <;> simp

/-! ### Players -/

@[simp] theorem State.walkOn_now (s : State) (k : Fin 6) (w : Desk → Desk) : (s.walkOn k w).now = s.now := rfl
@[simp] theorem State.walkOn_loops (s : State) (k : Fin 6) (w : Desk → Desk) : (s.walkOn k w).loops = s.loops := rfl
@[simp] theorem State.walkOn_map (s : State) (k : Fin 6) (w : Desk → Desk) : (s.walkOn k w).map = s.map := rfl
@[simp] theorem State.walkOn_engine (s : State) (k : Fin 6) (w : Desk → Desk) : (s.walkOn k w).engine = s.engine := rfl
@[simp] theorem State.walkOn_resolver (s : State) (k : Fin 6) (w : Desk → Desk) : (s.walkOn k w).resolver = s.resolver := rfl
@[simp] theorem State.walkOn_sessions (s : State) (k : Fin 6) (w : Desk → Desk) : (s.walkOn k w).sessions = s.sessions := rfl
@[simp] theorem State.walkOn_scanner (s : State) (k : Fin 6) (w : Desk → Desk) : (s.walkOn k w).scanner = s.scanner := rfl
@[simp] theorem State.walkOn_link (s : State) (k : Fin 6) (w : Desk → Desk) : (s.walkOn k w).link = s.link := rfl
@[simp] theorem State.walkOn_pins (s : State) (k : Fin 6) (w : Desk → Desk) : (s.walkOn k w).pins = s.pins := rfl
@[simp] theorem State.walkOn_pending (s : State) (k : Fin 6) (w : Desk → Desk) : (s.walkOn k w).pending = s.pending := rfl
@[simp] theorem State.endTaken_now (s : State) (p : Fin 16) : (s.endTaken p).now = s.now := by
  unfold State.endTaken; dsimp only; split <;> simp
@[simp] theorem State.endTaken_loops (s : State) (p : Fin 16) : (s.endTaken p).loops = s.loops := by
  unfold State.endTaken; dsimp only; split <;> simp
@[simp] theorem State.endTaken_map (s : State) (p : Fin 16) : (s.endTaken p).map = s.map := by
  unfold State.endTaken; dsimp only; split <;> simp
@[simp] theorem State.endTaken_engine (s : State) (p : Fin 16) : (s.endTaken p).engine = s.engine := by
  unfold State.endTaken; dsimp only; split <;> simp
@[simp] theorem State.endTaken_sessions (s : State) (p : Fin 16) : (s.endTaken p).sessions = s.sessions := by
  unfold State.endTaken; dsimp only; split <;> simp
@[simp] theorem State.endTaken_scanner (s : State) (p : Fin 16) : (s.endTaken p).scanner = s.scanner := by
  unfold State.endTaken; dsimp only; split <;> simp
@[simp] theorem State.endTaken_link (s : State) (p : Fin 16) : (s.endTaken p).link = s.link := by
  unfold State.endTaken; dsimp only; split <;> simp
@[simp] theorem State.endTaken_pins (s : State) (p : Fin 16) : (s.endTaken p).pins = s.pins := by
  unfold State.endTaken; dsimp only; split <;> simp
@[simp] theorem State.endTaken_pending (s : State) (p : Fin 16) : (s.endTaken p).pending = s.pending := by
  unfold State.endTaken; dsimp only; split <;> simp
@[simp] theorem State.testEnd_now (s : State) (k : Fin 6) (p : Fin 16) : (s.testEnd k p).now = s.now := by
  unfold State.testEnd; dsimp only; split <;> simp
@[simp] theorem State.testEnd_loops (s : State) (k : Fin 6) (p : Fin 16) : (s.testEnd k p).loops = s.loops := by
  unfold State.testEnd; dsimp only; split <;> simp
@[simp] theorem State.testEnd_map (s : State) (k : Fin 6) (p : Fin 16) : (s.testEnd k p).map = s.map := by
  unfold State.testEnd; dsimp only; split <;> simp
@[simp] theorem State.testEnd_engine (s : State) (k : Fin 6) (p : Fin 16) : (s.testEnd k p).engine = s.engine := by
  unfold State.testEnd; dsimp only; split <;> simp
@[simp] theorem State.testEnd_sessions (s : State) (k : Fin 6) (p : Fin 16) : (s.testEnd k p).sessions = s.sessions := by
  unfold State.testEnd; dsimp only; split <;> simp
@[simp] theorem State.testEnd_scanner (s : State) (k : Fin 6) (p : Fin 16) : (s.testEnd k p).scanner = s.scanner := by
  unfold State.testEnd; dsimp only; split <;> simp
@[simp] theorem State.testEnd_link (s : State) (k : Fin 6) (p : Fin 16) : (s.testEnd k p).link = s.link := by
  unfold State.testEnd; dsimp only; split <;> simp
@[simp] theorem State.testEnd_pins (s : State) (k : Fin 6) (p : Fin 16) : (s.testEnd k p).pins = s.pins := by
  unfold State.testEnd; dsimp only; split <;> simp
@[simp] theorem State.testEnd_pending (s : State) (k : Fin 6) (p : Fin 16) : (s.testEnd k p).pending = s.pending := by
  unfold State.testEnd; dsimp only; split <;> simp
@[simp] theorem State.repetitionOver_now (s : State) (k : Fin 6) (w : Walk) : (s.repetitionOver k w).now = s.now := by
  unfold State.repetitionOver; split
  · simp
  · split <;> (try split) <;> simp
@[simp] theorem State.repetitionOver_loops (s : State) (k : Fin 6) (w : Walk) : (s.repetitionOver k w).loops = s.loops := by
  unfold State.repetitionOver; split
  · simp
  · split <;> (try split) <;> simp
@[simp] theorem State.repetitionOver_map (s : State) (k : Fin 6) (w : Walk) : (s.repetitionOver k w).map = s.map := by
  unfold State.repetitionOver; split
  · simp
  · split <;> (try split) <;> simp
@[simp] theorem State.repetitionOver_engine (s : State) (k : Fin 6) (w : Walk) : (s.repetitionOver k w).engine = s.engine := by
  unfold State.repetitionOver; split
  · simp
  · split <;> (try split) <;> simp
@[simp] theorem State.repetitionOver_sessions (s : State) (k : Fin 6) (w : Walk) : (s.repetitionOver k w).sessions = s.sessions := by
  unfold State.repetitionOver; split
  · simp
  · split <;> (try split) <;> simp
@[simp] theorem State.repetitionOver_scanner (s : State) (k : Fin 6) (w : Walk) : (s.repetitionOver k w).scanner = s.scanner := by
  unfold State.repetitionOver; split
  · simp
  · split <;> (try split) <;> simp
@[simp] theorem State.repetitionOver_link (s : State) (k : Fin 6) (w : Walk) : (s.repetitionOver k w).link = s.link := by
  unfold State.repetitionOver; split
  · simp
  · split <;> (try split) <;> simp
@[simp] theorem State.repetitionOver_pins (s : State) (k : Fin 6) (w : Walk) : (s.repetitionOver k w).pins = s.pins := by
  unfold State.repetitionOver; split
  · simp
  · split <;> (try split) <;> simp
@[simp] theorem State.repetitionOver_pending (s : State) (k : Fin 6) (w : Walk) : (s.repetitionOver k w).pending = s.pending := by
  unfold State.repetitionOver; split
  · simp
  · split <;> (try split) <;> simp

end Sys2Proof.Machine
end

