-- ==== Sys2Proof/Laws/Link.lean ====
section
/-! SUPPORT. What the taking of a valid request can do, said once: a refusal or a read answers and changes nothing else. -/

namespace Sys2Proof.Machine

/-- A valid request's share of the link followed by its response is `answer`. -/
theorem State.linkValid_respond (s : State) (code : Byte) (r : Result) (p : List Byte) :
    s.linkValid.respond code r p = s.answer code r p := by
  unfold State.linkValid State.respond State.answer
  cases s.link.mode <;> simp [State.setLink, State.setNotices, Notices.raiseLinkRestored, Config.supervisionTicks]

/-- A refused request changes nothing but what every valid request does (R177). -/
theorem State.takeRequest_refuse {s : State} {code : Byte} {serve : State → Served} {r : Result}
    (h : serve s.linkValid = refuse r s.linkValid) : s.takeRequest code serve = s.answer code r [] := by
  simp [State.takeRequest, h, refuse, State.linkValid_respond]

/-- A request that only reads changes nothing but what every valid request does. -/
theorem State.takeRequest_read {s : State} {code : Byte} {serve : State → Served} {p : List Byte}
    (h : serve s.linkValid = accept p s.linkValid) : s.takeRequest code serve = s.answer code .ok p := by
  simp [State.takeRequest, h, accept, State.linkValid_respond]

/-- An accepted request is its command on the state the link hands on, with the response in the buffer. -/
theorem State.takeRequest_accept {s t : State} {code : Byte} {serve : State → Served} {p : List Byte}
    (h : serve s.linkValid = accept p t) : s.takeRequest code serve = t.respond code .ok p := by
  simp [State.takeRequest, h, accept]

/-- Every valid request leaves its response in the buffer (R176). -/
theorem State.takeRequest_response (s : State) (code : Byte) (serve : State → Served) :
    (s.takeRequest code serve).link.response =
      some { code := code, result := (serve s.linkValid).result, payload := (serve s.linkValid).payload } := rfl

@[simp] theorem State.linkValid_mode (s : State) : s.linkValid.link.mode = .linked := by
  unfold State.linkValid; split <;> rfl

@[simp] theorem State.linkValid_autonomous (s : State) : s.linkValid.autonomous = false := by
  simp [State.autonomous]

/-- A valid request raises no notice but LINK_RESTORED. -/
theorem State.linkValid_notices (s : State) :
    s.linkValid.notices
      = if s.link.mode = .autonomous then { s.notices with linkRestored := true } else s.notices := by
  unfold State.linkValid; cases h : s.link.mode <;> simp [State.setLink, State.setNotices, Notices.raiseLinkRestored]

@[simp] theorem State.answer_engine (s : State) (c : Byte) (r : Result) (p : List Byte) :
    (s.answer c r p).engine = s.engine := rfl
@[simp] theorem State.answer_resolver (s : State) (c : Byte) (r : Result) (p : List Byte) :
    (s.answer c r p).resolver = s.resolver := rfl
@[simp] theorem State.answer_audio (s : State) (c : Byte) (r : Result) (p : List Byte) :
    (s.answer c r p).audio = s.audio := rfl
@[simp] theorem State.answer_scanner (s : State) (c : Byte) (r : Result) (p : List Byte) :
    (s.answer c r p).scanner = s.scanner := rfl
@[simp] theorem State.answer_sessions (s : State) (c : Byte) (r : Result) (p : List Byte) :
    (s.answer c r p).sessions = s.sessions := rfl
@[simp] theorem State.answer_map (s : State) (c : Byte) (r : Result) (p : List Byte) :
    (s.answer c r p).map = s.map := rfl
@[simp] theorem State.answer_loops (s : State) (c : Byte) (r : Result) (p : List Byte) :
    (s.answer c r p).loops = s.loops := rfl
@[simp] theorem State.answer_now (s : State) (c : Byte) (r : Result) (p : List Byte) :
    (s.answer c r p).now = s.now := rfl
@[simp] theorem State.answer_pins (s : State) (c : Byte) (r : Result) (p : List Byte) :
    (s.answer c r p).pins = s.pins := rfl
@[simp] theorem State.answer_pending (s : State) (c : Byte) (r : Result) (p : List Byte) :
    (s.answer c r p).pending = s.pending := rfl

end Sys2Proof.Machine
end

