-- ==== Sys2Proof/Laws/PerInstr.lean ====
section
/-! SUPPORT. Per-command laws: the payload that spells a well-formed request fits a request frame (R175). -/

namespace Sys2Proof.Laws

open Sys2Proof.Machine

/-- The payload that spells the command, if one does, is no longer than a request frame carries (R175). -/
def PayloadFits.Statement (i : Instr) : Prop :=
  i.wf = true → ∀ (code : Byte) (payload : List Byte), requestBytes i = some (code, payload) →
    payload.length ≤ Config.maxRequestPayload

/-- A zone list that can be introduced by a count takes at most 49 bytes (R192). -/
theorem zoneListBytes_length {zones : ZoneList} (h : zones.wf = true) : (zoneListBytes zones).length ≤ 49 := by
  cases zones with
  | all => decide
  | listed l => simpa [ZoneList.wf, zoneListBytes, Nat.lt_succ_iff] using h

namespace PayloadFits

theorem powerOnReset : Statement .powerOnReset := by
  intro _ _ _ h; cases h

theorem loopCharacter (loop : Fin 4) (char : LineChar) : Statement (.loopCharacter loop char) := by
  intro _ _ _ h; cases h

theorem silenceTimerExpiry (loop : Fin 4) : Statement (.silenceTimerExpiry loop) := by
  intro _ _ _ h; cases h

theorem reportTake (moment : Nat) : Statement (.reportTake moment) := by
  intro _ _ _ h; cases h

theorem deadlineExpiry (loop : Fin 4) (address : Byte) : Statement (.deadlineExpiry loop address) := by
  intro _ _ _ h; cases h

theorem investigationTimerExpiry (slot : Fin 32) : Statement (.investigationTimerExpiry slot) := by
  intro _ _ _ h; cases h

theorem stepTimerExpiry (slot : Fin 32) : Statement (.stepTimerExpiry slot) := by
  intro _ _ _ h; cases h

theorem repetitionEnd (player : Fin 6) : Statement (.repetitionEnd player) := by
  intro _ _ _ h; cases h

theorem arbiterGrant : Statement .arbiterGrant := by
  intro _ _ _ h; cases h

theorem fetchComplete (samples : Vector Byte 254) (check : Vector Byte 2) : Statement (.fetchComplete samples check) := by
  intro _ _ _ h; cases h

theorem pageEnd (player : Fin 6) : Statement (.pageEnd player) := by
  intro _ _ _ h; cases h

theorem debouncedFaultChange (amp : Fin 12) : Statement (.debouncedFaultChange amp) := by
  intro _ _ _ h; cases h

theorem switchingLoad : Statement .switchingLoad := by
  intro _ _ _ h; cases h

theorem visitStart : Statement .visitStart := by
  intro _ _ _ h; cases h

theorem visitEnd (cls1 cls0 : Bool) : Statement (.visitEnd cls1 cls0) := by
  intro _ _ _ h; cases h

theorem talkTimerExpiry (mic : Mic) : Statement (.talkTimerExpiry mic) := by
  intro _ _ _ h; cases h

theorem supervisionTimerExpiry : Statement .supervisionTimerExpiry := by
  intro _ _ _ h; cases h

theorem transactionStart (moment : Nat) : Statement (.transactionStart moment) := by
  intro _ _ _ h; cases h

theorem transactionEnd (moment : Nat) (bits : List Bool) : Statement (.transactionEnd moment bits) := by
  intro _ _ _ h; cases h

theorem identify : Statement .identify := by
  intro _ _ _ h; cases h; exact Nat.le_of_ble_eq_true rfl

theorem noticeRead : Statement .noticeRead := by
  intro _ _ _ h; cases h; exact Nat.le_of_ble_eq_true rfl

theorem restart : Statement .restart := by
  intro _ _ _ h; cases h; exact Nat.le_of_ble_eq_true rfl

theorem loopConfig (loop enable timeout : Byte) : Statement (.loopConfig loop enable timeout) := by
  intro _ _ _ h; cases h; exact Nat.le_of_ble_eq_true rfl

theorem loopStatus (loop clear : Byte) : Statement (.loopStatus loop clear) := by
  intro _ _ _ h; cases h; exact Nat.le_of_ble_eq_true rfl

theorem mapWrite (index : Byte) (entry : RawEntry) : Statement (.mapWrite index entry) := by
  intro _ _ _ h; cases h; exact Nat.le_of_ble_eq_true rfl

theorem mapPlace (entry : RawEntry) : Statement (.mapPlace entry) := by
  intro _ _ _ h; cases h; exact Nat.le_of_ble_eq_true rfl

theorem mapRead (index : Byte) : Statement (.mapRead index) := by
  intro _ _ _ h; cases h; exact Nat.le_of_ble_eq_true rfl

theorem mapProbe (loop address : Byte) : Statement (.mapProbe loop address) := by
  intro _ _ _ h; cases h; exact Nat.le_of_ble_eq_true rfl

theorem mapRemove (index : Byte) : Statement (.mapRemove index) := by
  intro _ _ _ h; cases h; exact Nat.le_of_ble_eq_true rfl

theorem mapSetWired (count : Byte) : Statement (.mapSetWired count) := by
  intro _ _ _ h; cases h; exact Nat.le_of_ble_eq_true rfl

theorem mapSetDefault (cls rule deadline : Byte) : Statement (.mapSetDefault cls rule deadline) := by
  intro _ _ _ h; cases h; exact Nat.le_of_ble_eq_true rfl

theorem mapStatus : Statement .mapStatus := by
  intro _ _ _ h; cases h; exact Nat.le_of_ble_eq_true rfl

theorem missList : Statement .missList := by
  intro _ _ _ h; cases h; exact Nat.le_of_ble_eq_true rfl

theorem missDefault (loop address : Byte) : Statement (.missDefault loop address) := by
  intro _ _ _ h; cases h; exact Nat.le_of_ble_eq_true rfl

theorem incidentList : Statement .incidentList := by
  intro _ _ _ h; cases h; exact Nat.le_of_ble_eq_true rfl

theorem incidentRead (handle : BitVec 16) : Statement (.incidentRead handle) := by
  intro _ _ _ h; cases h; exact Nat.le_of_ble_eq_true rfl

theorem incidentAck (handle : BitVec 16) : Statement (.incidentAck handle) := by
  intro _ _ _ h; cases h; exact Nat.le_of_ble_eq_true rfl

theorem incidentSilence (handle : BitVec 16) : Statement (.incidentSilence handle) := by
  intro _ _ _ h; cases h; exact Nat.le_of_ble_eq_true rfl

theorem incidentResound (handle : BitVec 16) : Statement (.incidentResound handle) := by
  intro _ _ _ h; cases h; exact Nat.le_of_ble_eq_true rfl

theorem incidentGeneral (handle : BitVec 16) : Statement (.incidentGeneral handle) := by
  intro _ _ _ h; cases h; exact Nat.le_of_ble_eq_true rfl

theorem incidentReset (handle : BitVec 16) (force : Byte) : Statement (.incidentReset handle force) := by
  intro _ _ _ h; cases h; exact Nat.le_of_ble_eq_true rfl

theorem saturationClear : Statement .saturationClear := by
  intro _ _ _ h; cases h; exact Nat.le_of_ble_eq_true rfl

theorem profileWrite (number : Byte) (profile : RawProfile) : Statement (.profileWrite number profile) := by
  intro _ _ _ h; cases h; exact Nat.le_of_ble_eq_true rfl

theorem profileRead (number : Byte) : Statement (.profileRead number) := by
  intro _ _ _ h; cases h; exact Nat.le_of_ble_eq_true rfl

theorem buildingSet (floors : Byte) : Statement (.buildingSet floors) := by
  intro _ _ _ h; cases h; exact Nat.le_of_ble_eq_true rfl

theorem zoneWrite (zone : Byte) (config : RawZone) : Statement (.zoneWrite zone config) := by
  intro _ _ _ h; cases h; exact Nat.le_of_ble_eq_true rfl

theorem zoneRead (zone : Byte) : Statement (.zoneRead zone) := by
  intro _ _ _ h; cases h; exact Nat.le_of_ble_eq_true rfl

theorem zoneStatus (zone : Byte) : Statement (.zoneStatus zone) := by
  intro _ _ _ h; cases h; exact Nat.le_of_ble_eq_true rfl

theorem zoneTestStart (program : Byte) (zones : ZoneList) : Statement (.zoneTestStart program zones) := by
  intro hw _ _ h
  have := zoneListBytes_length (zones := zones) hw
  cases h
  simp [Config.maxRequestPayload]; omega

theorem zoneTestStop (zones : ZoneList) : Statement (.zoneTestStop zones) := by
  intro hw _ _ h
  have := zoneListBytes_length (zones := zones) hw
  cases h
  simp [Config.maxRequestPayload]; omega

theorem micOpen (mic : Byte) (limit : BitVec 16) (zones : ZoneList) : Statement (.micOpen mic limit zones) := by
  intro hw _ _ h
  have := zoneListBytes_length (zones := zones) hw
  cases h
  simp [wordBytes, Config.maxRequestPayload]; omega

theorem micRefresh (mic : Byte) : Statement (.micRefresh mic) := by
  intro _ _ _ h; cases h; exact Nat.le_of_ble_eq_true rfl

theorem micClose (mic : Byte) : Statement (.micClose mic) := by
  intro _ _ _ h; cases h; exact Nat.le_of_ble_eq_true rfl

theorem micStatus (mic : Byte) : Statement (.micStatus mic) := by
  intro _ _ _ h; cases h; exact Nat.le_of_ble_eq_true rfl

theorem ampRestore (amp : Byte) : Statement (.ampRestore amp) := by
  intro _ _ _ h; cases h; exact Nat.le_of_ble_eq_true rfl

theorem ampStatus : Statement .ampStatus := by
  intro _ _ _ h; cases h; exact Nat.le_of_ble_eq_true rfl

theorem playerStatus : Statement .playerStatus := by
  intro _ _ _ h; cases h; exact Nat.le_of_ble_eq_true rfl

theorem segmentWrite (index : Byte) (descriptor : RawSegment) : Statement (.segmentWrite index descriptor) := by
  intro _ _ _ h; cases h; exact Nat.le_of_ble_eq_true rfl

theorem segmentRead (index : Byte) : Statement (.segmentRead index) := by
  intro _ _ _ h; cases h; exact Nat.le_of_ble_eq_true rfl

theorem programSet (program head : Byte) : Statement (.programSet program head) := by
  intro _ _ _ h; cases h; exact Nat.le_of_ble_eq_true rfl

theorem programRead (program : Byte) : Statement (.programRead program) := by
  intro _ _ _ h; cases h; exact Nat.le_of_ble_eq_true rfl

theorem storeSet (size : BitVec 24) : Statement (.storeSet size) := by
  intro _ _ _ h; cases h; exact Nat.le_of_ble_eq_true rfl

theorem lineReconnect (line : Byte) : Statement (.lineReconnect line) := by
  intro _ _ _ h; cases h; exact Nat.le_of_ble_eq_true rfl

theorem lineStatus (line : Byte) : Statement (.lineStatus line) := by
  intro _ _ _ h; cases h; exact Nat.le_of_ble_eq_true rfl

theorem loopLineReads1 (loop : Fin 4) : Statement (.loopLineReads1 loop) := by
  intro _ _ _ h; cases h

end PayloadFits

end Sys2Proof.Laws
end

