-- ==== Sys2Proof/Tests/Slice0.lean ====
section
/-! SUPPORT. Tests of single commands, with expected results taken by hand from the rules and worked cases that each comment
names, and the check of well-formedness on ill-formed commands. -/

set_option Elab.async false

namespace Sys2Proof.Tests

open Sys2Proof.Machine

/-! ### Helpers -/

/-- The state after a command, the same state where it stops. -/
def after (c : Instr) (s : State) : State :=
  match exec c s with
  | .next t => t
  | _ => s

/-- The result and payload of the response a command leaves. -/
def answered (c : Instr) (s : State) : Option (Result × List Byte) :=
  (after c s).link.response.map fun r => (r.result, r.payload)

/-- A bit cell whose three samples agree. -/
def cell (b : Bool) : Cell :=
  { first := b, second := b, third := b }

/-- A well-framed character. -/
def character (mark : Bool) (b : Byte) : LineChar :=
  { start := cell false, data := Vector.ofFn fun j => cell (b.getLsbD j.val), mark := cell mark, stop := cell true }

/-- The incident of 03, Worked Sequence: detection zone 17 on floor 12, one SMOKE detector 2.35 in ALARM, in a given
stage. -/
def fire (stage : Stage) : Incident :=
  { zone := 17, floor := some 12, cls := .smoke, rule := .coincident, profile := 3, stage := stage, step := 0
    acknowledged := false, detectors := [{ loop := 2, address := 35, last := .alarm, firstSeen := 1000 }]
    unlisted := 0, openedAt := 1000, changedAt := 1000 }

/-- A part with that incident in slot 2, under generation 7: handle 226 (03, Worked Sequence). -/
def burning (i : Incident) : State :=
  let s := State.reset
  s.setEngine { s.engine with slots := s.engine.slots.set 2 { generation := 7, incident := some i }, ages := [2] }

/-- A part with one FLOOR zone 3 on floor 17, wired to amplifier 2 (05, Worked Case: One Fire on Floor 17). -/
def building : State :=
  let s := State.reset
  (s.setResolver { s.resolver with
    configs := s.resolver.configs.set 3 { kind := .floor, low := 17, high := 17, duty := 2, load := 90 } }).setLine 3
    { state := .normal, reading := none, run := 0, allowance := 3 }

/-- A CLIP of 10 pages from page 5000, played twice with one retry (08, Worked Sequence: A Damaged Page). -/
def clip30 : Segment :=
  .clip 5000 10 1 2 .finish

/-- A page of silence; its check is not 0. -/
def page : Vector Byte 254 :=
  Vector.replicate 254 0

/-- The walk of player 1 in segment 30 at a page position. -/
def walk30 (output : Output) (position retries : Nat) : Walk :=
  { program := 6, releasing := false, takenAt := 0, current := some 30, left := 2
    clip := some { retries := retries, position := position, abandoned := false }, output := output, passes := 0
    generator := none, toneSamples := 0 }

/-- A part whose player 1 walks in segment 30, with a page playing. -/
def playing (w : Walk) : State :=
  State.reset.onAudio fun a =>
    { a with
      segments := a.segments.set 30 clip30
      players := a.players.set 1 { walk := some w, failed := 0, underruns := 0, playing := some page, ready := none } }

/-! ### Well-formedness -/

theorem test_wf_refuses_a_long_list_at_test_start :
    (Instr.zoneTestStart 0 (.listed (List.replicate 49 0))).wf = false := by decide

theorem test_wf_refuses_a_long_list_at_test_stop :
    (Instr.zoneTestStop (.listed (List.replicate 49 0))).wf = false := by decide

theorem test_wf_refuses_a_long_list_at_mic_open :
    (Instr.micOpen 0 10 (.listed (List.replicate 49 0))).wf = false := by decide

theorem test_wf_takes_48_zones : (Instr.micOpen 0 10 (.listed (List.replicate 48 0))).wf = true := by decide

/-- No row of the opcode table gives bits, so no word spells a command. -/
theorem test_no_word_spells_a_command : decodeTableWord 8 1 = none := rfl

/-! ### Power, tick and link -/

/-- R57: power-on reset sets F to 80. -/
theorem test_power_on_reset_floors :
    (after .powerOnReset (burning (fire .general))).engine.floors = 80 ∧
    (after .powerOnReset (burning (fire .general))).engine.ages = [] := by decide +kernel

/-- R186: RESTART is refused ALARM_ACTIVE while an incident is PHASED. -/
theorem test_restart_in_alarm : answered .restart (burning (fire (.phased none))) = some (.alarmActive, []) := by
  decide +kernel

/-- R57: RESTART frees every slot and keeps its generation. -/
theorem test_restart_frees_slots :
    (after .restart (burning (fire .confirming))).engine.slots[2] = { generation := 7, incident := none } := by
  decide +kernel

/-- A step on an empty queue is a tick. -/
theorem test_tick_counts : (match step State.reset with | .next t => t.now | _ => 0) = 1 := by decide +kernel

/-- R185: IDENTIFY answers 2480h, revision 1 and the running tick count. -/
theorem test_identify :
    answered .identify (State.reset.setNow 0x01020304) = some (.ok, [0x24, 0x80, 0x01, 1, 2, 3, 4]) := by
  decide +kernel

/-- 11, The notice payload: LOOP_FAULT of loops 1 and 3 alone is the count 1, the kind 04h, and a set of two. -/
theorem test_notice_read :
    answered .noticeRead (State.reset.setNotices { Notices.empty with loopFault := [1, 3] })
      = some (.ok, [1, 4, 2, 1, 3]) := by decide +kernel

/-- R183: NOTICE_READ empties the set, so NOTICE_N is high. -/
theorem test_notice_read_empties :
    (after .noticeRead (State.reset.setNotices { Notices.empty with loopFault := [1, 3] })).noticeN = true := by
  decide +kernel

/-- R178, R179: the supervision timer at 0 takes the link into AUTONOMOUS mode. -/
theorem test_supervision_expiry :
    (after .supervisionTimerExpiry (State.reset.setLink { Link.reset with supervision := some 0 })).link.mode
      = .autonomous := by decide +kernel

/-- R172, R173: a transaction takes the response out of the buffer; a failed frame of code 20h, refused CHECK_FAIL, went out
as A6h 20h 02h 00h and two CRC bytes. -/
theorem test_transaction_start :
    ((after (.transactionStart 0) (State.reset.respond 0x20 .checkFail [])).link.transaction.map fun x =>
      x.out.take 4) = some [0xA6, 0x20, 0x02, 0x00] := by decide +kernel

/-- R175: a frame whose CRC is wrong is answered CHECK_FAIL with its code. -/
theorem test_transaction_end_bad_crc :
    (after (.transactionEnd 0 ([0x5A, 0x01, 0x00, 0x00, 0x00].flatMap bitsOfByte))
      (after (.transactionStart 0) State.reset)).link.response
      = some { code := 0x01, result := .checkFail, payload := [] } := by decide +kernel

/-- R172, R174, R176: a good frame of IDENTIFY carries it out. -/
theorem test_transaction_end_identify :
    (after (.transactionEnd 0 ((requestFrame 0x01 []).flatMap bitsOfByte))
      (after (.transactionStart 0) State.reset)).link.response
      = some { code := 0x01, result := .ok, payload := [0x24, 0x80, 0x01, 0, 0, 0, 0] } := by decide +kernel

/-- R189: the check value of the nine characters "123456789". -/
theorem test_crc : crc [0x31, 0x32, 0x33, 0x34, 0x35, 0x36, 0x37, 0x38, 0x39] = 0x29B1 := by decide +kernel

/-! ### Loops -/

/-- R3: a character with the mark bit set begins a report. -/
theorem test_loop_character_begins :
    (after (.loopCharacter 2 (character true 35)) State.reset).loops[2].partialReport = [35] := by decide +kernel

/-- R2, R7, R12: address 35, kind ALARM, value 0, check 255 - 36 = 219: the loop is LIVE and its buffer holds the report. -/
theorem test_loop_character_completes :
    (after (.loopCharacter 2 (character false 219))
      (State.reset.setLoop 2 { Receiver.reset with partialReport := [35, 1, 0] })).loops[2].buffer
      = [{ loop := 2, address := 35, kind := .alarm }] := by decide +kernel

/-- R1: the line reading 1 ends the wait after a framing error. -/
theorem test_loop_line_reads_1 :
    (after (.loopLineReads1 1) (State.reset.setLoop 1 { Receiver.reset with line := .waitingForOne })).loops[1].line
      = .seeking := by decide +kernel

/-- R13: a silence timer at 0 makes the loop SILENT and raises LOOP_FAULT. -/
theorem test_silence_expiry :
    (after (.silenceTimerExpiry 1) (State.reset.setLoop 1 { Receiver.reset with timer := some 0 })).notices.loopFault
      = [1] := by decide +kernel

/-- R14: disabling a loop stops its timer; the response carries DISABLED. -/
theorem test_loop_config : answered (.loopConfig 0 0 30) State.reset = some (.ok, [0]) := by decide +kernel

/-- R15: the status of a loop at power-on: AWAITING, timeout 30, timer 30, all else 0. -/
theorem test_loop_status :
    answered (.loopStatus 0 0) State.reset = some (.ok, [1, 30, 30, 0, 0, 0, 0, 0, 0, 0]) := by decide +kernel

/-! ### Cause map -/

/-- The entry of 02, Write check example, at index 4: loop 2, 32..47, zone 17, floor 12. -/
def entry4 : RawEntry :=
  { loop := 2, base := 32, span := 16, zone := 17, floor := 12, cls := 0, rule := 1, profile := 3 }

/-- R22: an accepted write that resolves no waiting device. -/
theorem test_map_write : answered (.mapWrite 4 entry4) State.reset = some (.ok, [0]) := by decide +kernel

/-- 02, Write check example: block 40..47 lies inside index 4's block on loop 2: OVERLAP. -/
theorem test_map_write_overlap :
    answered (.mapWrite 9 { entry4 with base := 40, span := 8, zone := 19 }) (after (.mapWrite 4 entry4) State.reset)
      = some (.overlap, []) := by decide +kernel

/-- R21, R23: a placement at power-on writes index 95 and moves the cursor to 94. -/
theorem test_map_place :
    answered (.mapPlace entry4) State.reset = some (.ok, [95, 0]) ∧
    (after (.mapPlace entry4) State.reset).map.cursor = 94 := by decide +kernel

/-- R24: the stored fields of an entry not yet written. -/
theorem test_map_read : answered (.mapRead 7) State.reset = some (.ok, [0, 0, 0, 1, 1, 1, 0, 0, 0, 0]) := by
  decide +kernel

/-- R24: a device in the block is found at index 4, one past it is not. -/
theorem test_map_probe :
    answered (.mapProbe 2 47) (after (.mapWrite 4 entry4) State.reset) = some (.ok, [4]) ∧
    answered (.mapProbe 2 48) (after (.mapWrite 4 entry4) State.reset) = some (.ok, [0xFF]) := by decide +kernel

/-- R25: a removed entry matches nothing. -/
theorem test_map_remove :
    answered (.mapProbe 2 47) (after (.mapRemove 4) (after (.mapWrite 4 entry4) State.reset)) = some (.ok, [0xFF]) := by
  decide +kernel

/-- R25: MAP_SET_WIRED sets W and brings the cursor to 95. -/
theorem test_map_set_wired : (after (.mapSetWired 92) State.reset).map.wired = 92 := by decide +kernel

/-- R25: a deadline of 4 ticks is out of range. -/
theorem test_map_set_default : answered (.mapSetDefault 0 0 4) State.reset = some (.outOfRange, []) := by
  decide +kernel

/-- R25: the map's status at power-on. -/
theorem test_map_status : answered .mapStatus State.reset = some (.ok, [0, 95, 0, 0, 0, 0, 20]) := by decide +kernel

/-- A part whose device 2.35 waits in the miss list with one tick to go. -/
def waiting (deadline : Nat) : State :=
  State.reset.onMap fun m =>
    { m with misses := [{ loop := 2, address := 35, first := .prealarm, last := .alarm, deadline := deadline }] }

/-- R33: the miss list's entry. -/
theorem test_miss_list : answered .missList (waiting 7) = some (.ok, [1, 2, 35, 2, 1, 7]) := by decide +kernel

/-- R33: a device that does not wait is NOT_FOUND. -/
theorem test_miss_default : answered (.missDefault 2 36) (waiting 7) = some (.notFound, []) := by decide +kernel

/-- R31, R32: at its deadline the device's first kind opens an incident of zone 0, floor UNKNOWN, and its last kind, an ALARM
of rule SINGLE, takes it to PHASED. -/
theorem test_deadline_expiry :
    ((after (.deadlineExpiry 2 35) (waiting 0)).engine.slots[0].incident.map fun i => (i.zone, i.floor, i.stage.name))
      = some (0, none, .phased) := by decide +kernel

/-- R28: a report from an unmapped device waits in the miss list with a fresh deadline of 20. -/
theorem test_report_take :
    (after (.reportTake 0) (State.reset.setLoop 2
      { Receiver.reset with buffer := [{ loop := 2, address := 35, kind := .alarm }] })).map.misses
      = [{ loop := 2, address := 35, first := .alarm, last := .alarm, deadline := 20 }] := by decide +kernel

/-! ### Incidents -/

/-- R64: an investigation's timer at 0 takes it to PHASED. -/
theorem test_investigation_expiry :
    ((after (.investigationTimerExpiry 2) (burning (fire (.investigating .ackWindow 0)))).engine.slots[2].incident.map
      fun i => i.stage) = some (.phased (some 1200)) := by decide +kernel

/-- R67: a step raises the step count and loads the step timer afresh. -/
theorem test_step_expiry :
    ((after (.stepTimerExpiry 2) (burning (fire (.phased (some 0))))).engine.slots[2].incident.map
      fun i => (i.step, i.stage)) = some (1, .phased (some 1200)) := by decide +kernel

/-- R36, R51: the list of one incident is its handle, 226. -/
theorem test_incident_list : answered .incidentList (burning (fire .watch)) = some (.ok, [0, 1, 0, 226]) := by
  decide +kernel

/-- R52, R191: the record of the incident in WATCH. -/
theorem test_incident_read :
    answered (.incidentRead 226) (burning (fire .watch)) = some (.ok,
      [0, 226, 17, 12, 0, 1, 3, 0, 0xFF, 0, 0, 0, 0, 0xFF, 0, 0, 0, 3, 0xE8, 0, 0, 3, 0xE8, 1,
        2, 35, 1, 0, 0, 3, 0xE8]) := by decide +kernel

/-- R37: another generation is STALE. -/
theorem test_incident_stale : answered (.incidentRead 194) (burning (fire .watch)) = some (.stale, []) := by
  decide +kernel

/-- R70: an acknowledgement in ACK_WINDOW begins INVESTIGATE with 1800 ticks. -/
theorem test_incident_ack :
    ((after (.incidentAck 226) (burning (fire (.investigating .ackWindow 9)))).engine.slots[2].incident.map
      fun i => (i.acknowledged, i.stage)) = some (true, .investigating .investigate 1800) := by decide +kernel

/-- R71: silencing keeps the step timer. -/
theorem test_incident_silence :
    ((after (.incidentSilence 226) (burning (fire (.phased (some 5))))).engine.slots[2].incident.map
      fun i => i.stage) = some (.silencedPhased (some 5)) := by decide +kernel

/-- R72: resounding returns to GENERAL. -/
theorem test_incident_resound :
    answered (.incidentResound 226) (burning (fire .silencedGeneral)) = some (.ok, [4]) := by decide +kernel

/-- R74, R89: INCIDENT_GENERAL evacuates every used zone. -/
theorem test_incident_general :
    (after (.incidentGeneral 226) ((burning (fire .watch)).setResolver building.resolver)).resolver.records[3]
      = { rank := .evacuate, source := .incident, program := some 0, governing := some 226 } := by decide +kernel

/-- R50: a listed detector in ALARM is STILL_ACTIVE, forced or not. -/
theorem test_incident_reset : answered (.incidentReset 226 1) (burning (fire .watch)) = some (.stillActive, []) := by
  decide +kernel

/-- R47: SATURATION_CLEAR clears the flag. -/
theorem test_saturation_clear :
    (after .saturationClear (State.reset.setEngine { Engine.reset with saturated := true })).engine.saturated = false := by
  decide +kernel

/-- A profile of 05, Worked Case: One Fire on Floor 17. -/
def profile3 : RawProfile :=
  { up := 1, down := 0, margin := 2, interval := 1200, limit := 6, ackWindow := 300, investigate := 1800
    evacuate := 0, alert := 1, building := 0 }

/-- R55: a profile that a live incident carries is BUSY. -/
theorem test_profile_write : answered (.profileWrite 3 profile3) (burning (fire .watch)) = some (.busy, []) := by
  decide +kernel

/-- R55: a written profile reads back. -/
theorem test_profile_read :
    answered (.profileRead 4) (after (.profileWrite 4 profile3) State.reset)
      = some (.ok, [1, 0, 2, 0x04, 0xB0, 6, 0x01, 0x2C, 0x07, 0x08, 0, 1, 0]) := by decide +kernel

/-- R56: F of 17 would leave zone 3, on floor 17, outside the building. -/
theorem test_building_set : answered (.buildingSet 17) building = some (.outOfRange, []) := by decide +kernel

/-! ### Zones and sessions -/

/-- R81: 400 + 60 + 30 W on one amplifier is OVERLOAD (05, Load check example). -/
theorem test_zone_write_overload :
    answered (.zoneWrite 11 { kind := 1, low := 5, high := 6, duty := 2, load := 391 }) building
      = some (.overload, []) := by decide +kernel

/-- R170: a zone written for the first time brings its line into use. -/
theorem test_zone_write_line :
    (after (.zoneWrite 11 { kind := 1, low := 5, high := 6, duty := 4, load := 20 }) State.reset).scanner.lines[11].state
      = .normal := by decide +kernel

/-- R82: the five fields, the load in two bytes. -/
theorem test_zone_read : answered (.zoneRead 3) building = some (.ok, [1, 17, 17, 2, 0, 90]) := by decide +kernel

/-- R100: a quiet zone: FLOOR, NONE, NONE, no program, no handle, DISCONNECTED, not carried, NORMAL, amplifier 2. -/
theorem test_zone_status :
    answered (.zoneStatus 3) building = some (.ok, [1, 0, 0, 0xFF, 0xFF, 0xFF, 0, 0, 1, 2]) := by decide +kernel

/-- R91, R109: a test claim resolves its zone to TEST. -/
theorem test_zone_test_start :
    (after (.zoneTestStart 9 .all) building).resolver.records[3]
      = { rank := .test, source := .test, program := some 9, governing := none } := by decide +kernel

/-- R110: a stop that names no tested zone withdraws none. -/
theorem test_zone_test_stop : answered (.zoneTestStop .all) building = some (.ok, [0]) := by decide +kernel

/-- R103: a session of 10 s opens; the response carries opened-at and the one used zone. -/
theorem test_mic_open : answered (.micOpen 0 10 .all) building = some (.ok, [0, 0, 0, 0, 1]) := by decide +kernel

/-- An open MANAGEMENT session with a talk limit of 60 s and 5 ticks left. -/
def speaking (timer : Nat) : State :=
  State.reset.setSession .management (some { zones := [4, 9], limit := 60, timer := timer, openedAt := 7 })

/-- R105: a refresh loads 600 ticks. -/
theorem test_mic_refresh : answered (.micRefresh 1) (speaking 5) = some (.ok, [0x02, 0x58]) := by decide +kernel

/-- R106: the ticks open wrap with the running tick count: 0 - 7 is FFFFFFF9h. -/
theorem test_mic_close : answered (.micClose 1) (speaking 5) = some (.ok, [0xFF, 0xFF, 0xFF, 0xF9]) := by
  decide +kernel

/-- R107, R193: zones 4 and 9 are bits 4 and 9 of the zone set. -/
theorem test_mic_status :
    answered (.micStatus 1) (speaking 5)
      = some (.ok, [1, 0x10, 0x02, 0, 0, 0, 0, 0, 60, 0, 5, 0, 0, 0, 7]) := by decide +kernel

/-- R104: a talk timer at 0 closes the session with MIC_TIMEOUT. -/
theorem test_talk_expiry :
    (after (.talkTimerExpiry .management) (speaking 0)).sessions.management = none ∧
    (after (.talkTimerExpiry .management) (speaking 0)).notices.micTimeoutManagement = true := by decide +kernel

/-! ### Amplifiers, segments and players -/

/-- R126: the fault of a NORMAL amplifier moves its group to the lowest IDLE standby. -/
theorem test_fault_change :
    let d := Desk.faultChange building.view 2 { audio := Audio.reset, notices := Notices.empty }
    d.audio.serverOf 2 = some 10 ∧ d.notices.ampFault = [2, 10] := by decide +kernel

/-- R122: the load pulse of the first refresh leaves the matrix with the image of power-on. -/
theorem test_switching_load : (after .switchingLoad State.reset).audio.loaded = some Image.reset := by decide +kernel

/-- R131: a NORMAL amplifier is not restored. -/
theorem test_amp_restore : answered (.ampRestore 2) State.reset = some (.refusedState, []) := by decide +kernel

/-- R132, R191: amplifier 0 at power-on, and an empty unserved queue. -/
theorem test_amp_status :
    ((answered .ampStatus State.reset).map fun r => (r.2.take 16, r.2.length, r.2.getLast?))
      = some ([0, 0, 0, 0, 0, 0, 0, 0, 0xFF, 0xFF, 0xFF, 0, 0xFF, 0xFF, 0xFF, 0xFF], 193, some 0) := by
  decide +kernel

/-- R138, R191: six IDLE players and an empty demand list are 97 bytes. -/
theorem test_player_status :
    ((answered .playerStatus State.reset).map fun r => (r.2.take 3, r.2.length)) = some ([0, 0xFF, 0], 97) := by
  decide +kernel

/-- The descriptor of a TONE of 50 ticks that leads to segment 11 (08, Worked Sequence: A Pass). -/
def tone10 : RawSegment :=
  { kind := 1, pattern := 1, duration := 50, start := 0, pages := 0, retries := 0, repeats := 1, next := 11 }

/-- R142: a segment that is no player's current one is written. -/
theorem test_segment_write :
    (after (.segmentWrite 10 tone10) State.reset).audio.segments[10] = .tone .evacuatePattern 50 1 (.segment 11) := by
  decide +kernel

/-- R142: a player's current segment is BUSY. -/
theorem test_segment_write_busy :
    answered (.segmentWrite 30 tone10) (playing (walk30 .segment 3 1)) = some (.busy, []) := by decide +kernel

/-- R143, R193: a CLIP's descriptor and the bitmap of player 1. -/
theorem test_segment_read :
    answered (.segmentRead 30) (playing (walk30 .segment 3 1))
      = some (.ok, [2, 0xFF, 0xFF, 0xFF, 0x13, 0x88, 0, 10, 1, 2, 0x80, 2]) := by decide +kernel

/-- R145: PROGRAM_SET writes the head. -/
theorem test_program_set : (after (.programSet 0 20) State.reset).audio.programs[0].head = some 20 := by
  decide +kernel

/-- R144: head EMPTY, not BROKEN, player 1. -/
theorem test_program_read :
    answered (.programRead 6) (playing (walk30 .segment 3 1)) = some (.ok, [0xFF, 0, 1]) := by decide +kernel

/-- R153: 65536 pages are accepted, 65537 are not. -/
theorem test_store_set :
    answered (.storeSet 65536) State.reset = some (.ok, []) ∧
    answered (.storeSet 65537) State.reset = some (.outOfRange, []) := by decide +kernel

/-- R155: after player 2, of players 0 and 4 the arbiter grants player 4 (08, Arbitration example). -/
theorem test_arbiter_grant :
    (after .arbiterGrant (State.reset.onAudio fun a => { a with store := { a.store with
      lastServed := 2, requests := (a.store.requests.set 0 (some 1)).set 4 (some 7) } })).audio.store.fetch
      = some { player := 4, page := 7, wanted := true } := by decide +kernel

/-- R157: a failed check with a retry left asks for the page again (08, A Damaged Page). -/
theorem test_fetch_complete_retry :
    let c : ClipWalk := { retries := 1, position := 3, abandoned := false }
    let a := (playing (walk30 .segment 3 1)).audio.storeError 1 (walk30 .segment 3 1) c 5004
    a.store.requests[1] = some 5004 ∧ (a.players[1].walk.bind Walk.clip).map ClipWalk.retries = some 0 := by
  decide +kernel

/-- R156: a page that is no longer awaited is dropped unchecked. -/
theorem test_fetch_complete_dropped :
    let s := (playing (walk30 .startWait 0 1)).onAudio fun a =>
      { a with store := { a.store with fetch := some { player := 1, page := 5000, wanted := false } } }
    (after (.fetchComplete page #v[0, 0]) s).audio.players[1].walk = some (walk30 .startWait 0 1) := by decide +kernel

/-- R152: of the two bytes of a page's check the high byte is stored first. -/
theorem test_page_check :
    pageCheck (((Vector.replicate 256 0).set 254 0x29).set 255 0xB1) = 0x29B1 := by decide +kernel

/-- A part whose player 1 begins the next repetition of a CHIME. -/
def chiming : State :=
  (playing (walk30 .segment 9 0)).onAudio fun a =>
    { a with segments := a.segments.set 30 (.tone .chime 50 2 .finish) }.nextRepetition 1

/-- R141: a TONE repetition starts its pattern from its beginning, 660 Hz for 0.6 s. -/
theorem test_tone_begins : chiming.audio.playFrequency 1 = some 660 := by decide +kernel

/-- R140, R141: six ticks of 800 samples on, the CHIME is at 520 Hz. -/
theorem test_tone_runs_on :
    ((chiming.audio.players[1].tick.tick.tick.tick.tick.tick.walk.bind Walk.generator).map fun g =>
      (g.place, g.pattern.frequencyAt g.place)) = some (4800, some 520) := by decide +kernel

/-- R158: a page not ready when it is needed is an underrun. -/
theorem test_page_end_underrun :
    (after (.pageEnd 1) (playing (walk30 .segment 3 1))).audio.players[1].underruns = 1 := by decide +kernel

/-- R149, R154: the next repetition of a CLIP waits for its first page, with the retries kept. -/
theorem test_next_repetition :
    ((playing (walk30 .segment 9 0)).audio.nextRepetition 1).players[1].walk
      = some { walk30 .startWait 0 0 with left := 1 } := by decide +kernel

/-- R149: of an idle player no repetition ends. -/
theorem test_repetition_end_idle :
    (after (.repetitionEnd 0) State.reset).audio.players[0] = Player.reset := by decide +kernel

/-! ### Lines -/

/-- R161: the first visit goes to the lowest-numbered used line. -/
theorem test_visit_start : (after .visitStart building).scanner.visit = some { line := 3, discard := false } := by
  decide +kernel

/-- R162, R163: a third SHORT reading on a DISCONNECTED zone is declared SHORT with the allowance kept (09, A Short Found
Before the Alarm). -/
theorem test_visit_end_short :
    ((building.setLine 3 { state := .normal, reading := some .short, run := 2, allowance := 3 }).takeReading 3
      (readClass true false)).scanner.lines[3] = { state := .short, reading := some .short, run := 3, allowance := 3 } := by
  decide +kernel

/-- R162: a first reading has run count 1. -/
theorem test_visit_end :
    (after (.visitEnd false true) (after .visitStart building)).scanner.lines[3]
      = { state := .normal, reading := some .opened, run := 1, allowance := 3 } := by decide +kernel

/-- R167: a line that is not LOCKED_OUT is not reconnected. -/
theorem test_line_reconnect : answered (.lineReconnect 3) building = some (.refusedState, []) := by decide +kernel

/-- R168: a line in use that has not been read. -/
theorem test_line_status : answered (.lineStatus 3) building = some (.ok, [1, 0xFF, 0, 3, 0]) := by decide +kernel

/-! ### Witnesses of hypotheses

Each theorem `witness_X` gives, for the statement X that has hypotheses, states and operands that meet those of each clause,
at boundary values where a clause has a range. -/

/-- The one live incident of `burning` is the one put there. -/
theorem burning_slots {i j : Incident} {k : Fin 32} (h : (burning i).engine.slots[k].incident = some j) :
    k = 2 ∧ j = i := by
  have hs : (burning i).engine.slots
      = (Vector.replicate 32 { generation := 0, incident := none }).set 2 { generation := 7, incident := some i } := rfl
  simp only [Fin.getElem_fin, hs, Vector.getElem_set, Vector.getElem_replicate] at h
  split at h
  · next hk => exact ⟨Fin.ext hk.symm, (Option.some.inj h).symm⟩
  · cases h

theorem burning_names (i : Incident) : (burning i).Names 226 2 i :=
  ⟨by decide, by decide, rfl, rfl⟩

/-- A part with a request at the front of its queue. -/
theorem witness_StepRunsTheFrontCommand :
    (State.reset.setPending [.identify, .arbiterGrant]).pending = .identify :: [.arbiterGrant] := rfl

/-- A part whose fault lines all read low and whose amplifier 0 has a run count. -/
def sampled (run : Nat) : State :=
  let s := State.reset
  (s.setAudio (s.audio.setAmp 0 { s.audio.amps[0] with run := run })).setPins
    { s.pins with ampFaultLow := Vector.replicate 12 true }

theorem witness_EmptyQueueStepIsOneTick :
    State.reset.pending = [] ∧
    ((burning (fire (.phased (some 1)))).engine.slots[2].incident = some (fire (.phased (some 1))) ∧
      (burning (fire (.phased (some 1)))).pending = []) ∧
    (fire (.investigating .investigate 1)).allClear = false ∧
    ({ fire (.investigating .investigate 1) with detectors := [] } : Incident).allClear = true ∧
    (fire .watch).stage.timer = none ∧ (fire (.silencedPhased none)).stage = .silencedPhased none ∧
    State.reset.pins.ampFaultLow[0] = State.reset.audio.amps[0].fault ∧
    ((sampled 3).pins.ampFaultLow[0] ≠ (sampled 3).audio.amps[0].fault ∧ (sampled 3).audio.amps[0].run < 4) ∧
    ((sampled 4).pins.ampFaultLow[0] ≠ (sampled 4).audio.amps[0].fault ∧ (sampled 4).audio.amps[0].run = 4) := by
  decide +kernel

theorem witness_TickQueuesWhatFallsDue : State.reset.pending = [] := rfl

/-- A part in AUTONOMOUS mode. -/
def alone : State :=
  State.reset.setLink { Link.reset with mode := .autonomous, supervision := none }

theorem witness_RequestIsTakenByTheLink :
    requestBytes (.mapRead 95) = some (0x22, [95]) ∧ Instr.mapRead 95 ≠ .noticeRead ∧ Instr.mapRead 95 ≠ .restart ∧
    alone.link.mode = .autonomous ∧ (serveRequest (.mapRead 95) alone).result = .ok ∧
    (serveRequest (.mapRead 96) alone).result ≠ .ok := by decide +kernel

theorem witness_RefusalChangesNothing : (serveRequest (.mapRead 96) State.reset).result ≠ .ok := by decide +kernel

theorem witness_RequestPayloadsReadBack :
    (Instr.zoneTestStop (.listed (List.replicate 48 47))).wf = true ∧
    requestBytes (.zoneTestStop (.listed (List.replicate 48 47))) = some (0x44, 48 :: List.replicate 48 47) := by
  decide +kernel

/-- A part in a transaction. -/
def inTransaction (served : Bool) : State :=
  State.reset.setLink { Link.reset with transaction := some { served := served, out := [] } }

theorem witness_RequestFrameIsCarriedOut :
    Instr.identify.wf = true ∧ requestBytes .identify = some (0x01, []) ∧
    (inTransaction true).link.transaction = some { served := true, out := [] } := by decide

/-- A part last released at moment 0, with a response in its buffer. -/
def released : State :=
  State.reset.setLink { Link.reset with
    lastRelease := some 0, response := some { code := 1, result := .unknown, payload := [] } }

theorem witness_TransactionStartTakesTheResponse :
    (inTransaction true).link.transaction.isSome ∧
    (released.link.transaction = none ∧ (∀ n, released.link.lastRelease = some n → n + 20000 ≤ 20000) ∧
      released.link.response = some { code := 1, result := .unknown, payload := [] }) ∧
    (State.reset.link.transaction = none ∧ (∀ n, State.reset.link.lastRelease = some n → n + 20000 ≤ 0) ∧
      State.reset.link.response = none) ∧
    (released.link.transaction = none ∧ ∃ n, released.link.lastRelease = some n ∧ 19999 < n + 20000) :=
  ⟨rfl, ⟨rfl, by rintro _ ⟨⟩; decide, rfl⟩, ⟨rfl, by rintro _ ⟨⟩, rfl⟩, rfl, 0, rfl, by decide⟩

theorem witness_ReleaseWithoutCommand :
    State.reset.link.transaction = none ∧
    (inTransaction false).link.transaction = some { served := false, out := [] } ∧
    wholeBytes [true, false] = [] ∧ wholeBytes (bitsOfByte 0x00) = [0x00] ∧
    wholeBytes (bitsOfByte 0x5A) = [0x5A] ∧
    wholeBytes ([0x5A, 0x01, 121, 0, 0].flatMap bitsOfByte) = [0x5A, 0x01, 121, 0, 0] ∧
    wholeBytes ([0x5A, 0x01, 1, 0, 0].flatMap bitsOfByte) = [0x5A, 0x01, 1, 0, 0] ∧
    (wholeBytes ([0x5A, 0x01, 0, 0, 0].flatMap bitsOfByte) = [0x5A, 0x01, 0, 0, 0] ∧
      ([0, 0] : List Byte) ≠ crcBytes [0x01, 0]) ∧
    (wholeBytes ((requestFrame 0x00 []).flatMap bitsOfByte) = 0x5A :: 0x00 :: 0 :: crcBytes [0x00, 0] ∧
      ∀ row ∈ commandTable, row.1 ≠ (0x00#8).toNat) ∧
    (wholeBytes ((requestFrame 0x01 [7]).flatMap bitsOfByte) = 0x5A :: 0x01 :: 1 :: 7 :: crcBytes [0x01, 1, 7] ∧
      ((0x01#8).toNat, 0, false) ∈ commandTable ∧ [(7 : Byte)].length ≠ allowedLength 0 false [7]) ∧
    (((0x44#8).toNat, 0, true) ∈ commandTable ∧
      ((48 : Byte) :: List.replicate 48 47).length = allowedLength 0 true (48 :: List.replicate 48 47) ∧
      ((49 : Byte) :: List.replicate 49 47).length ≠ allowedLength 0 true (49 :: List.replicate 49 47) ∧
      ([] : List Byte).length ≠ allowedLength 0 true []) :=
  ⟨rfl, rfl, by decide, by decide, by decide, by decide, by decide, ⟨by decide, by decide +kernel⟩, by decide +kernel,
    by decide +kernel, by decide +kernel⟩

/-- A LINKED part whose supervision timer has run to 0, with an investigation going on. -/
def silent : State :=
  (burning (fire (.investigating .ackWindow 9))).setLink { Link.reset with supervision := some 0 }

theorem witness_SupervisionExpiry :
    (silent.link.mode = .linked ∧ silent.link.supervision = some 0) ∧ State.reset.link.supervision ≠ some 0 ∧
    (silent.map.misses = [] ∧ 2 ∈ silent.engine.ages ∧
      silent.engine.slots[2].incident = some (fire (.investigating .ackWindow 9)) ∧
      (fire (.investigating .ackWindow 9)).stage.name = .investigating) ∧
    (3 ∉ silent.engine.ages ∧ (fire .confirming).stage.name ≠ .investigating) := by decide

theorem witness_LoopCharacterTaken :
    ((State.reset.setLoop 0 { Receiver.reset with state := .disabled }).loops[0].state = .disabled ∧
      (State.reset.setLoop 0 { Receiver.reset with line := .waitingForOne }).loops[0].line = .waitingForOne ∧
      cellValue { first := true, second := false, third := true } = true) ∧
    (State.reset.loops[0].state ≠ .disabled ∧ State.reset.loops[0].line = .seeking ∧
      cellValue (character true 35).start = false ∧ cellValue (character true 35).stop = true ∧
      cellValue (cell false) = false) ∧
    (cellValue (character true 35).mark = true ∧ State.reset.loops[0].partialReport = []) ∧
    (cellValue (character false 35).mark = false ∧
      (State.reset.setLoop 0 { Receiver.reset with partialReport := [35] }).loops[0].partialReport.length = 1 ∧
      (State.reset.setLoop 0 { Receiver.reset with partialReport := [35, 1] }).loops[0].partialReport.length = 2) := by
  decide +kernel

/-- A receiver whose report of address `a` and kind `k` lacks its check. -/
def lacking (a k : Byte) : State :=
  State.reset.setLoop 0 { Receiver.reset with partialReport := [a, k, 0] }

theorem witness_LoopReportCompleted :
    ((lacking 250 1).loops[0].state ≠ .disabled ∧ (lacking 250 1).loops[0].line = .seeking ∧
      (lacking 250 1).loops[0].partialReport = [250, 1, 0] ∧ cellValue (character false 0).start = false ∧
      cellValue (character false 0).stop = true ∧ cellValue (character false 0).mark = false) ∧
    charData (character false 0) ≠ checkOf 250 1 0 ∧ charData (character false 4) = checkOf 250 1 0 ∧
    charData (character false 248) = checkOf 1 6 0 ∧ charData (character false 3) = checkOf 251 1 0 ∧
    charData (character false 240) = checkOf 0 15 0 ∧ charData (character false 0) = checkOf 250 5 0 ∧
    (1#8 = AlarmKind.alarm.code ∧ (lacking 250 1).loops[0].buffer.length < 4) ∧
    (∀ buffer : List Report,
      ((lacking 250 1).setLoop 0 { (lacking 250 1).loops[0] with buffer := buffer }).loops[0].buffer = buffer) :=
  ⟨by decide +kernel, by decide +kernel, by decide +kernel, by decide +kernel, by decide +kernel, by decide +kernel,
    by decide +kernel, by decide +kernel, fun _ => rfl⟩

/-- A report of an address with a kind from loop 0. -/
def report (a : Byte) (kind : AlarmKind) : Report :=
  { loop := 0, address := a, kind := kind }

theorem witness_FullBufferKeepsAlarms :
    ({ Receiver.reset with buffer := List.replicate 4 (report 1 .alarm) } : Receiver).buffer.length = 4 ∧
    (report 2 .clear).kind ≠ .alarm ∧ (∀ y ∈ List.replicate 4 (report 1 .alarm), y.kind = .alarm) ∧
    ((report 2 .alarm).kind = .alarm ∧
      ∃ y ∈ [report 1 .alarm, report 1 .alarm, report 1 .alarm, report 1 .prealarm], y.kind ≠ .alarm) := by
  decide

theorem witness_SilenceExpiryAndLineReads1 :
    ((State.reset.setLoop 0 { Receiver.reset with timer := some 0 }).loops[0].state = .awaiting ∧
      (State.reset.setLoop 0 { Receiver.reset with timer := some 0 }).loops[0].timer = some 0) ∧
    State.reset.loops[0].timer ≠ some 0 ∧ State.reset.loops[0].state ≠ .disabled ∧
    (State.reset.setLoop 0 { Receiver.reset with state := .disabled }).loops[0].state = .disabled := by decide +kernel

theorem witness_LoopCommands :
    3 < (4#8).toNat ∧ 1 < (2#8).toNat ∧ (9#8).toNat < 10 ∧ 100 < (101#8).toNat ∧
    ((3#8).toNat = (3 : Fin 4).val ∧ (1#8).toNat ≤ 1 ∧ 10 ≤ (10#8).toNat ∧ (100#8).toNat ≤ 100) ∧
    State.reset.loops[3].state = .awaiting ∧
    (State.reset.setLoop 3 { Receiver.reset with state := .silent, timer := none }).loops[3].state = .silent ∧
    (State.reset.setLoop 3 { Receiver.reset with state := .disabled, timer := none }).loops[3].state = .disabled := by
  decide +kernel

theorem witness_RecordFieldRanges :
    (entry? 13 entry4).isSome ∧ entry? 12 entry4 = none ∧ (profile? profile3).isSome ∧
    (zoneConfig? { kind := 4, low := 79, high := 79, duty := 9, load := 480 }).isSome ∧
    (segment? { tone10 with kind := 0 }).isSome ∧ (segment? { tone10 with duration := 600, repeats := 15 }).isSome ∧
    (segment? { tone10 with kind := 2, pages := 4096, retries := 3, next := 0x81 }).isSome ∧
    (segment? { tone10 with kind := 3, duration := 1 }).isSome ∧
    (zoneSet? (.listed (List.replicate 48 47))).isSome := by decide +kernel

/-- A part with a report of device 2.35 in the buffer of loop 2. -/
def buffered (s : State) : State :=
  s.setLoop 2 { Receiver.reset with buffer := [{ loop := 2, address := 35, kind := .alarm }] }

/-- A part whose last take, of loop 1, began at moment 0, with a mapped device 2.35. -/
def mapped : State :=
  (after (.mapWrite 4 entry4) State.reset).onMap fun m => { m with lastTake := some 0, lastLoop := 1 }

/-- A part whose miss list holds four other devices. -/
def crowded : State :=
  State.reset.onMap fun m => { m with misses := ([1, 2, 3, 4] : List Byte).map (fun a =>
    { loop := 2, address := a, first := .alarm, last := .alarm, deadline := 20 }) }

theorem buffered_loops (s : State) (j : Fin 4) : (buffered s).loops[j] =
    if (2 : Fin 4) = j then
      { Receiver.reset with buffer := [{ loop := 2, address := 35, kind := .alarm }] } else s.loops[j] := by
  show (s.loops.set 2 _)[j] = _
  simp only [Fin.getElem_fin, Vector.getElem_set, Fin.ext_iff]
  rfl

theorem turn_of {s : State} {moment : Nat} (due : ∀ t, s.map.lastTake = some t → t + 3000000 ≤ moment)
    (empty : ∀ l : Fin 4, s.loops[l].buffer = []) :
    (buffered s).Turn moment 2 { loop := 2, address := 35, kind := .alarm } [] where
  due := due
  buffer := by rw [buffered_loops]; rfl
  passed j hj := by
    have h : (2 : Fin 4) ≠ j := by rintro rfl; exact lt_irrefl _ hj
    rw [buffered_loops, if_neg h]
    exact empty j

theorem witness_ReportTakeRule :
    (∃ n, mapped.map.lastTake = some n ∧ 2999999 < n + 3000000) ∧ (∀ l : Fin 4, State.reset.loops[l].buffer = []) ∧
    ((buffered (waiting 7)).Turn 0 2 { loop := 2, address := 35, kind := .alarm } [] ∧
      ∃ x ∈ (buffered (waiting 7)).map.misses, x.loop = 2 ∧ x.address = 35) ∧
    ((buffered mapped).Turn 3000000 2 { loop := 2, address := 35, kind := .alarm } [] ∧
      (buffered mapped).map.misses = [] ∧ (buffered mapped).map.entries[4].Matches 2 35 ∧
      ∀ j : Fin 96, j < 4 → ¬ (buffered mapped).map.entries[j].Matches 2 35) ∧
    ((buffered State.reset).Turn 0 2 { loop := 2, address := 35, kind := .alarm } [] ∧
      (∀ i : Fin 96, ¬ (buffered State.reset).map.entries[i].Matches 2 35) ∧
      (buffered State.reset).link.mode = .linked) ∧
    ((buffered crowded).Turn 0 2 { loop := 2, address := 35, kind := .alarm } [] ∧
      4 ≤ (buffered crowded).map.misses.length ∧ ∀ i : Fin 96, ¬ (buffered crowded).map.entries[i].Matches 2 35) ∧
    ((buffered alone).Turn 0 2 { loop := 2, address := 35, kind := .alarm } [] ∧ (buffered alone).link.mode = .autonomous ∧
      (∀ i : Fin 96, ¬ (buffered alone).map.entries[i].Matches 2 35) ∧
      (∀ k : Fin 32, (buffered alone).engine.slots[k].incident = none) ∧
      ((after (.reportTake 0) (buffered alone)).engine.slots[0].incident.map fun i => i.stage.name) = some .phased) ∧
    (((after (.reportTake 3000000) (buffered mapped)).engine.slots[0].incident.map fun i => i.stage.name)
        = some .confirming ∧ (after (.reportTake 3000000) (buffered mapped)).engine.saturated = false) :=
  ⟨⟨0, by decide +kernel, by decide⟩, by decide, ⟨turn_of (by rintro _ ⟨⟩) (by decide +kernel), by decide +kernel⟩,
    ⟨turn_of (by intro t h; have : mapped.map.lastTake = some 0 := by decide +kernel
                 rw [this] at h; cases h; decide) (by decide +kernel), by decide +kernel, by decide +kernel⟩,
    ⟨turn_of (by rintro _ ⟨⟩) (by decide +kernel), by decide +kernel, rfl⟩,
    ⟨turn_of (by rintro _ ⟨⟩) (by decide +kernel), by decide +kernel, by decide +kernel⟩,
    ⟨turn_of (by rintro _ ⟨⟩) (by decide +kernel), rfl, by decide +kernel, by decide +kernel, by decide +kernel⟩,
    by decide +kernel⟩

/-- The map entry that `entry4` writes. -/
def mapEntry4 : MapEntry :=
  { valid := true, selector := some 2, base := 32, span := 16, zone := 17, floor := 12, cls := .smoke
    rule := .coincident, profile := 3 }

theorem witness_MapWriteAndPlace :
    95 < (96#8).toNat ∧ ((95#8).toNat = (95 : Fin 96).val ∧ entry? 80 entry4 = some mapEntry4) ∧
    ((4 : Fin 96) ≠ 95 ∧ (4 : Fin 96) ≠ mapped.map.cursor ∧ mapped.map.entries[4] = mapEntry4) ∧
    (mapEntry4.valid = true ∧ mapEntry4.base + mapEntry4.span - 1 = 47) ∧
    (∀ j : Fin 96, mapped.map.entries[j].valid = true → j = 4) ∧
    (∀ j : Fin 96, State.reset.map.entries[j].valid = false) ∧
    (mapEntry4.Matches 2 47 ∧ ¬ mapEntry4.Matches 2 48 ∧ mapEntry4.Matches 2 32 ∧ ¬ mapEntry4.Matches 2 31 ∧
      { mapEntry4 with selector := none }.Matches 3 32) ∧
    ((waiting 7).map.misses.filter (fun x => decide (mapEntry4.Matches x.loop x.address.toNat))).length = 1 := by
  decide +kernel

theorem witness_MapCommands :
    95 < (96#8).toNat ∧ (95#8).toNat = (95 : Fin 96).val ∧ 3 < (4#8).toNat ∧ (0#8).toNat = 0 ∧
    250 < (251#8).toNat ∧ ((3#8).toNat = (3 : Fin 4).val ∧ 1 ≤ (1#8).toNat ∧ (250#8).toNat ≤ 250) ∧
    2 < (3#8).toNat ∧ (4#8).toNat < 5 ∧ 100 < (101#8).toNat ∧
    (3#8 = Cls.sprinkler.code ∧ 2#8 = Confirm.delayed.code ∧ 5 ≤ (5#8).toNat ∧ (100#8).toNat ≤ 100) ∧
    (mapped.map.entries[4].Matches 2 47 ∧ (∀ j : Fin 96, j < 4 → ¬ mapped.map.entries[j].Matches 2 47) ∧
      ∀ i : Fin 96, ¬ mapped.map.entries[i].Matches 2 48) := by decide +kernel

theorem witness_MissResolvesUnderDefault :
    (∀ x ∈ (waiting 1).map.misses, x.loop = 2 → x.address = 35 → x.deadline ≠ 0) ∧
    (3 < (4#8).toNat ∧ (0#8).toNat = 0 ∧ 250 < (251#8).toNat) ∧
    ((2#8).toNat = (2 : Fin 4).val ∧ ∀ x ∈ State.reset.map.misses, ¬ (x.loop = 2 ∧ x.address = 35)) ∧
    (waiting 0).map.misses
      = [] ++ { loop := 2, address := 35, first := .prealarm, last := .alarm, deadline := 0 } :: [] := by
  decide +kernel

theorem witness_HandleCheck :
    8191 < (8192#16).toNat ∧ ((8191#16).toNat ≤ 8191 ∧
      ∀ k : Fin 32, k.val = (8191#16).toNat % 32 → State.reset.engine.slots[k].incident = none) ∧
    (∀ k : Fin 32, k.val = (194#16).toNat % 32 →
      (burning (fire .watch)).engine.slots[k].generation.toNat ≠ (194#16).toNat / 32) := by decide +kernel

theorem witness_IncidentStageCommands :
    (burning (fire (.phased none))).Names 226 2 (fire (.phased none)) ∧
    (burning (fire .general)).Names 226 2 (fire .general) ∧
    ((burning (fire .watch)).Names 226 2 (fire .watch) ∧ (fire .watch).stage.name ≠ .phased ∧
      (fire .watch).stage.name ≠ .general ∧ (fire .watch).stage.name ≠ .silenced) ∧
    (burning (fire (.silencedPhased (some 0)))).Names 226 2 (fire (.silencedPhased (some 0))) ∧
    (burning (fire .silencedGeneral)).Names 226 2 (fire .silencedGeneral) :=
  ⟨burning_names _, burning_names _, ⟨burning_names _, by decide⟩, burning_names _, burning_names _⟩

/-- A part whose profile 3 has investigate time 0. -/
def hasty (i : Incident) : State :=
  let s := burning i
  s.setEngine { s.engine with profiles := s.engine.profiles.set 3 { Profile.reset with investigate := 0 } }

theorem witness_IncidentAckAndReset :
    ((burning { fire .general with acknowledged := true }).Names 226 2 { fire .general with acknowledged := true } ∧
      ∀ n, (fire .general).stage ≠ .investigating .ackWindow n) ∧
    (fire .general).acknowledged = false ∧
    ((burning (fire (.investigating .ackWindow 1))).Names 226 2 (fire (.investigating .ackWindow 1)) ∧
      (burning (fire (.investigating .ackWindow 1))).engine.profiles[3].investigate ≠ 0) ∧
    ((hasty (fire (.investigating .ackWindow 1))).Names 226 2 (fire (.investigating .ackWindow 1)) ∧
      (hasty (fire (.investigating .ackWindow 1))).engine.profiles[3].investigate = 0 ∧
      (fire (.investigating .ackWindow 1)).allClear = false) ∧
    1 < (2#8).toNat ∧ ((1#8).toNat ≤ 1 ∧ ∃ d ∈ (fire .watch).detectors, d.last ≠ .clear) ∧
    ((burning { fire .general with detectors := [], unlisted := 1 }).Names 226 2
        { fire .general with detectors := [], unlisted := 1 } ∧
      ∀ d ∈ ({ fire .general with detectors := [], unlisted := 1 } : Incident).detectors, d.last ≠ .alarm) :=
  ⟨⟨burning_names _, fun _ => by simp [fire]⟩, rfl, ⟨burning_names _, by decide⟩,
    ⟨⟨by decide, by decide, by decide, rfl⟩, by decide, by decide⟩, by decide, by decide, burning_names _, by decide⟩

theorem witness_EngineCommands :
    (burning (fire .watch)).Names 226 2 (fire .watch) ∧ State.reset.engine.saturated = false ∧
    15 < (16#8).toNat ∧ (15#8).toNat = (15 : Fin 16).val ∧ (profile? profile3).isSome ∧
    profile? { profile3 with up := 80 } = none ∧
    ((burning (fire .watch)).engine.slots[2].incident = some (fire .watch) ∧ (fire .watch).profile = 3) ∧
    (∀ (k : Fin 32) (i : Incident), (burning (fire .watch)).engine.slots[k].incident = some i → i.profile ≠ 15) ∧
    ((80#8).toNat ≤ 80 ∧ 80 < (81#8).toNat ∧ 1 ≤ (1#8).toNat) ∧
    (∃ k : Fin 32, (burning (fire .watch)).engine.slots[k].incident ≠ none) ∧
    (¬ ∃ k : Fin 32, building.engine.slots[k].incident ≠ none) ∧
    (building.resolver.configs[3].kind ≠ .unused ∧ 17 ≤ building.resolver.configs[3].high) ∧
    ¬ ((∃ i : Fin 96, building.map.entries[i].valid = true ∧ 18 ≤ building.map.entries[i].floor) ∨
      ∃ z : Fin 48, building.resolver.configs[z].kind ≠ .unused ∧ 18 ≤ building.resolver.configs[z].high) :=
  ⟨burning_names _, rfl, by decide, by decide, by decide +kernel, by decide +kernel, ⟨rfl, rfl⟩,
    fun _ _ h => by rw [(burning_slots h).2]; decide, by decide, ⟨2, by decide⟩, by decide +kernel, by decide +kernel,
    by decide +kernel⟩

theorem witness_StageTimerExpiries :
    1 ≤ State.reset.engine.floors ∧
    (∀ i, (burning (fire (.investigating .ackWindow 1))).engine.slots[(2 : Fin 32)].incident = some i →
      ∀ p, i.stage ≠ .investigating p 0) ∧
    (∀ i, (burning (fire (.phased none))).engine.slots[(2 : Fin 32)].incident = some i → i.stage ≠ .phased (some 0)) ∧
    ((burning (fire (.investigating .investigate 0))).engine.slots[2].incident
        = some (fire (.investigating .investigate 0)) ∧ (fire (.investigating .investigate 0)).allClear = false) ∧
    ((burning { fire (.phased (some 0)) with step := 79 }).engine.slots[2].incident
        = some { fire (.phased (some 0)) with step := 79 } ∧ 79 < 80 ∧
      (burning { fire (.phased (some 0)) with step := 79 }).engine.saturated = false) :=
  ⟨by decide, fun _ h => by rw [(burning_slots h).2]; intro p; cases p <;> decide,
    fun _ h => by rw [(burning_slots h).2]; decide, ⟨rfl, by decide⟩, rfl, by decide, rfl⟩

/-- A bound report from device 2.36 for detection zone 17. -/
def second (kind : AlarmKind) : BoundReport :=
  { loop := 2, address := 36, kind := kind
    binding := { zone := 17, floor := some 12, cls := .smoke, rule := .coincident, profile := 3 } }

/-- An engine whose every slot holds an incident of another zone. -/
def full : Engine :=
  { Engine.reset with
    slots := Vector.replicate 32 { generation := 1, incident := some { fire .watch with zone := 200 } } }

theorem witness_EngineOpensIncident :
    (∀ (k : Fin 32) (i : Incident), Engine.reset.slots[k].incident = some i → i.zone ≠ 17) ∧
    ((∀ (k : Fin 32) (i : Incident), full.slots[k].incident = some i → i.zone ≠ 17) ∧
      ∀ k : Fin 32, full.slots[k].incident ≠ none) ∧
    (Engine.reset.slots[0].incident = none ∧ ∀ j : Fin 32, j < 0 → Engine.reset.slots[j].incident ≠ none) ∧
    (second .alarm).kind ≠ .clear :=
  ⟨fun k i h => by simp [Engine.reset] at h,
    ⟨fun k i h => by simp [full] at h; subst h; decide, by decide +kernel⟩, ⟨rfl, by decide +kernel⟩, by decide⟩

theorem witness_DetectorAccounting :
    (∃ d ∈ (fire .watch).detectors, d.loop = 2 ∧ d.address = 35) ∧
    ((∀ d ∈ (fire .watch).detectors, ¬ (d.loop = 2 ∧ d.address = 36)) ∧ (fire .watch).detectors.length < 12) ∧
    (12 ≤ (List.replicate 12 (2 : Fin 4)).length ∧ (second .prealarm).kind ≠ .clear ∧ (second .clear).kind = .clear) := by
  decide

/-- An investigation whose only detector has cleared, its timer paused at 0. -/
def cleared : Incident :=
  { fire (.investigating .investigate 0) with
    detectors := [{ loop := 2, address := 35, last := .clear, firstSeen := 1000 }] }

theorem witness_LiveIncidentTakesReport :
    ((burning (fire .watch)).engine.slots[2].incident = some (fire .watch) ∧ (fire .watch).zone = 17 ∧
      ∀ (j : Fin 32) (i : Incident), j ≠ 2 → (burning (fire .watch)).engine.slots[j].incident = some i → i.zone ≠ 17) ∧
    (({ fire .confirming with detectors := [] } : Incident).allClear = true) ∧
    ((fire .confirming).account 1004 (second .alarm)).allClear = false ∧
    (second .alarm).binding.cls = .smoke ∧
    (∃ d rest, ((fire (.investigating .ackWindow 5)).account 1004 (second .alarm)).detectors = d :: rest ∧
      ¬ (d.loop = (second .alarm).loop ∧ d.address = (second .alarm).address)) ∧
    (second .prealarm).kind ≠ .alarm ∧ (fire (.silencedPhased none)).stage.name = .silenced ∧
    (cleared.stage = .investigating .investigate 0 ∧ cleared.allClear = true ∧
      (cleared.account 1004 (second .prealarm)).allClear = false) ∧
    ((cleared.account 1004 (second .clear)).allClear = true) ∧
    (∃ d rest, (cleared.account 1004 { second .alarm with address := 35 }).detectors = d :: rest ∧
      d.loop = 2 ∧ d.address = 35) :=
  ⟨⟨rfl, rfl, fun _ _ hj h => absurd (burning_slots h).1 hj⟩, by decide, by decide, rfl, ⟨_, _, rfl, by decide⟩, by decide,
    rfl, by decide, by decide, ⟨_, _, rfl, by decide⟩⟩

/-! #### Zones -/

/-- A FLOOR zone of one floor, and the staging profile of 05, Worked Case. -/
def oneFloor (f : Nat) : ZoneConfig :=
  { kind := .floor, low := f, high := f, duty := 2, load := 90 }

theorem witness_ClaimsByStage :
    ZoneConfig.reset.kind = .unused ∧ (fire .watch).stage.name ≠ .phased ∧ (fire .watch).stage.name ≠ .general ∧
    (fire .general).stage.name = .general ∧ (oneFloor 3).kind ≠ .unused ∧
    ((fire (.phased none)).stage.name = .phased ∧ (fire (.phased none)).floor.isSome ∧
      ({ fire (.phased none) with floor := none } : Incident).floor = none) := by decide

theorem witness_RingClaims :
    (oneFloor 13).low ≤ (oneFloor 13).high ∧ (fire (.phased none)).stage.name = .phased ∧
    (fire (.phased none)).floor = some 12 ∧
    (12 < (oneFloor 13).low ∧ (oneFloor 13).low ≤ 12 + min (Profile.reset.up + 0) (80 - 1)) ∧
    (12 < (oneFloor 15).low ∧ ¬ (oneFloor 15).low ≤ 12 + min (Profile.reset.up + 0) (80 - 1) ∧
      (oneFloor 15).low ≤ 12 + min (Profile.reset.up + 0) (80 - 1) + Profile.reset.margin) ∧
    ¬ (oneFloor 16).low ≤ 12 + min (Profile.reset.up + 0) (80 - 1) + Profile.reset.margin ∧
    Profile.reset.building = false := by decide

theorem witness_RingsOnlyGrow :
    (oneFloor 13).low ≤ (oneFloor 13).high ∧ (fire (.phased none)).stage.name = .phased ∧
    (fire (.phased none)).step ≤ 80 := by decide

theorem witness_SaturationEvacuates :
    ({ Engine.reset with saturated := true } : Engine).saturated = true ∧ building.resolver.configs[3].kind ≠ .unused := by
  decide +kernel

theorem witness_ResolvedSource :
    (building.resolver.configs[3].kind ≠ .unused ∧ (burning (fire .general)).engine.ages = [] ++ (2 : Fin 32) :: [] ∧
      (burning (fire .general)).engine.slots[2].incident = some (fire .general) ∧
      State.reset.sessions.fireService = none) ∧
    (fire .general).claim 80 Profile.reset building.resolver.configs[3] = .evacuate ∧
    ((fire (.phased none)).claim 80 Profile.reset (oneFloor 15) = .alert ∧ State.reset.engine.saturated = false) ∧
    ((fire .watch).claim 80 Profile.reset building.resolver.configs[3] = .none ∧ State.reset.engine.ages = [] ∧
      State.reset.resolver.configs[0].kind = .unused ∧ State.reset.resolver.tests[0] = none ∧
      (State.reset.setTests (Vector.replicate 48 (some 9))).resolver.tests[0] = some 9) ∧
    ((speaking 5).sessions.management = some { zones := [4, 9], limit := 60, timer := 5, openedAt := 7 } ∧
      (4 : Fin 48) ∈ [(4 : Fin 48), 9] ∧ (speaking 5).sessions.fireService = none) ∧
    (State.reset.setSession .fireService
        (some { zones := [3], limit := 60, timer := 5, openedAt := 7 })).sessions.fireService
      = some { zones := [3], limit := 60, timer := 5, openedAt := 7 } := by decide +kernel

theorem witness_ZoneWriteRule :
    47 < (48#8).toNat ∧ zoneConfig? { kind := 5, low := 0, high := 0, duty := 0, load := 1 } = none ∧
    ((47#8).toNat = (47 : Fin 48).val ∧
      zoneConfig? { kind := 1, low := 79, high := 79, duty := 9, load := 480 }
        = some { kind := .floor, low := 79, high := 79, duty := 9, load := 480 }) ∧
    ((79 ≤ 79 ∧ 79 < State.reset.engine.floors) ∧ ¬ 80 < State.reset.engine.floors) ∧
    State.reset.audio.connections[47] = .disconnected ∧
    (State.reset.onAudio fun a => { a with connections := a.connections.set 47 .isolated }).audio.connections[47]
      ≠ .disconnected ∧
    ((∑ y : Fin 48, if y ≠ 47 ∧ building.resolver.configs[y].kind ≠ .unused ∧ building.resolver.configs[y].duty = 2
        then building.resolver.configs[y].load else 0) + 391 = 481) := by decide +kernel

theorem witness_ZoneReadAndStatus : 47 < (48#8).toNat ∧ (47#8).toNat = (47 : Fin 48).val := by decide

theorem witness_ZoneTests :
    zoneSet? (.listed []) = none ∧ 15 < (16#8).toNat ∧ zoneSet? (.listed [47, 3, 47]) = some [3, 47] ∧
    (15#8).toNat = (15 : Fin 16).val ∧
    ((burning (fire (.phased none))).engine.slots[2].incident = some (fire (.phased none)) ∧
      (fire (.phased none)).stage.name = .phased) ∧
    State.reset.engine.saturated = false ∧ (∀ k : Fin 32, State.reset.engine.slots[k].incident = none) ∧
    (∀ z ∈ [(3 : Fin 48), 47], State.reset.resolver.tests[z] = none) ∧
    (∃ z ∈ [(3 : Fin 48), 47], (State.reset.setTests (Vector.replicate 48 (some 9))).resolver.tests[z] ≠ none) := by
  decide +kernel

theorem witness_MicSessionsRule :
    1 < (2#8).toNat ∧ (9#16).toNat < 10 ∧ 600 < (601#16).toNat ∧ zoneSet? (.listed []) = none ∧
    (1#8 = Mic.code .management ∧ zoneSet? .all = some (List.finRange 48) ∧ 10 ≤ (10#16).toNat ∧ (600#16).toNat ≤ 600) ∧
    State.reset.sessions.of .management = none ∧ (speaking 5).sessions.of .management ≠ none ∧
    ((speaking 1).sessions.of .management = some { zones := [4, 9], limit := 60, timer := 1, openedAt := 7 } ∧
      (speaking 0).sessions.of .management = some { zones := [4, 9], limit := 60, timer := 0, openedAt := 7 }) := by
  decide +kernel

/-! #### The audio side -/

/-- The evacuate feed of program 6. -/
def evacuate6 : Feed :=
  .program .evacuate 6 none

/-- An audio side whose amplifier 2 carries program 6 from player 1, with a pending target. -/
def fed (pending : Option Feed) : Audio :=
  let a := (playing (walk30 .segment 9 1)).audio
  a.setAmp 2 { a.amps[2] with feed := evacuate6, pending := pending }

theorem witness_FeedSwitching :
    (evacuate6.rank = (fed none).amps[2].feed.rank ∧ evacuate6.program? = (fed none).amps[2].feed.program?) ∧
    (fed none).amps[2].feed.rank.value < (Feed.mic .fireService).rank.value ∧
    (∃ (j : Fin 6) (w : Walk), (fed none).players[j].walk = some w ∧
      (fed none).amps[2].feed.program? = some w.program) ∧
    (¬ (Feed.none.rank = evacuate6.rank ∧ Feed.none.program? = evacuate6.program?) ∧
      Feed.none.rank.value ≤ evacuate6.rank.value) ∧
    ((fed (some .none)).amps[2].pending = some .none ∧ (fed (some .none)).delivererOf evacuate6 = some 1) ∧
    (fed none).amps[2].pending = none ∧ (fed none).delivererOf evacuate6 ≠ some 0 :=
  ⟨by decide +kernel, by decide +kernel, ⟨1, walk30 .segment 9 1, by decide +kernel, by decide +kernel⟩, by decide,
    by decide +kernel, by decide +kernel, by decide +kernel⟩

/-- The part of 05 with zone 3 at EVACUATE. -/
def claimed : State :=
  building.setRecords (building.resolver.records.set 3
    { rank := .evacuate, source := .incident, program := some 0, governing := some 226 })

theorem witness_TargetAndConnection :
    (∀ z : Fin 48, claimed.view.records[z].rank = .test ∨ claimed.view.records[z].rank = .alert ∨
      claimed.view.records[z].rank = .evacuate → claimed.view.records[z].program.isSome) ∧
    (claimed.view.configs[3].duty = 2 ∧ claimed.view.configs[3].kind ≠ .unused ∧
      claimed.view.records[3].rank ≠ .none ∧ claimed.view.lines[3].state.eligible = true) ∧
    (∀ z : Fin 48, claimed.view.configs[z].duty = 9 → claimed.view.records[z].rank = .none) ∧
    (claimed.view.configs[0].kind = .unused ∧
      (claimed.setLine 3 { state := .lockedOut, reading := none, run := 0, allowance := 0 }).view.lines[3].state
        = .lockedOut ∧ building.view.records[3].rank = .none) ∧
    (claimed.audio.serverOf 2 = some 2 ∧ ((claimed.audio.setServer 2 none).serverOf 2 = none) ∧
      (fed (some .none)).amps[2].pending ≠ none ∧
      ({ fed none with connections := Vector.replicate 48 .connected } : Audio).connections[3] = .connected) ∧
    (claimed.setEngine (burning (fire .general)).engine).view.target 2 = .program .evacuate 0 (some 226) ∧
    claimed.view.target 2 = .program .evacuate 0 none ∧
    (after (.zoneTestStart 9 .all) building).view.target 2 = .program .test 9 none := by decide +kernel

theorem witness_GroupMoves : (fed none).serverOf 2 = some 2 ∧ (2 : Fin 12) ≠ 10 := by decide +kernel

/-- A part whose duty amplifier 2 and standby 10 stand in given states, with a debounced fault and the standby's feed. -/
def cover (duty standby : AmpState) (server : Option (Fin 12)) (dutyFault standbyFault : Bool) (feed : Feed) : State :=
  let a := Audio.reset
  let a := a.setAmp 2 { a.amps[2] with state := duty, fault := dutyFault, server := server }
  State.reset.setAudio (a.setAmp 10 { a.amps[10] with state := standby, fault := standbyFault, feed := feed })

theorem witness_DutyAmplifierFaults :
    (State.reset.audio.amps[dutyAmp 2].state = .normal ∧ State.reset.audio.amps[dutyAmp 2].fault = false ∧
      2 ∉ State.reset.audio.unserved ∧ State.reset.audio.amps[10].state = .idle) ∧
    (cover .recovered (.standingIn 2) (some 10) false false .none).audio.amps[dutyAmp 2].state = .recovered ∧
    (∀ i ∈ standbys, (State.reset.onAudio fun a => (a.setAmpState 10 .failed).setAmpState 11 .failed).audio.amps[i].state
      = .failed) ∧
    ((cover .failed .failed none true true .none).audio.amps[dutyAmp 2].state = .failed ∧
      (cover .failed .failed none true true .none).audio.serverOf 2 = none) ∧
    (∀ feed : Feed, (cover .failed (.standingIn 2) (some 10) true false feed).audio.amps[10].feed = feed) ∧
    ((cover .failed (.standingIn 2) (some 10) true false evacuate6).audio.amps[dutyAmp 2].fault = true ∧
      (cover .failed (.standingIn 2) (some 10) true false evacuate6).audio.serverOf 2 = some 10 ∧
      (cover .failed (.standingIn 2) (some 10) true false evacuate6).audio.amps[10].state = .standingIn 2 ∧
      (cover .failed (.standingIn 2) (some 10) true false evacuate6).audio.amps[10].pending = none ∧
      (∀ j, (cover .failed (.standingIn 2) (some 10) true false evacuate6).audio.amps[otherStandby 10].state
        ≠ .standingIn j) ∧
      (cover .failed (.standingIn 2) (some 10) true false .none).audio.unserved = []) :=
  ⟨by decide +kernel, by decide +kernel, by decide +kernel, by decide +kernel, fun _ => rfl, by decide +kernel⟩

/-- The part of `cover` with an unserved queue. -/
def queued (s : State) (unserved : List (Fin 10)) : State :=
  s.onAudio fun a => { a with unserved := unserved, failOrder := [2, 3] }

/-- A part whose standbys both stand in for RECOVERED amplifiers while two groups wait. -/
def returning : State :=
  ((queued (cover .recovered (.standingIn 2) (some 10) false false evacuate6) [5, 3]).onAudio fun a =>
    (((a.setAmpState 3 .failed).setAmpState 5 .failed).setAmpState 4 .recovered).setAmpState 11 (.standingIn 4))

theorem witness_RestartRule :
    ((burning (fire .silencedGeneral)).engine.slots[2].incident = some (fire .silencedGeneral) ∧
      (fire .silencedGeneral).stage.name = .silenced) ∧
    ((burning (fire .confirming)).engine.saturated = false ∧
      ∀ (k : Fin 32) (i : Incident), (burning (fire .confirming)).engine.slots[k].incident = some i →
        i.stage.name = .watch ∨ i.stage.name = .confirming ∨ i.stage.name = .investigating) ∧
    (returning.engine.saturated = false ∧ (∀ k : Fin 32, returning.engine.slots[k].incident = none) ∧
      (∀ k, returning.audio.amps[10].state = .standingIn k → returning.audio.amps[11].state ≠ .standingIn k) ∧
      returning.audio.unserved = [5, 3] ∧ returning.audio.amps[10].state = .standingIn 2 ∧
      returning.audio.amps[11].state = .standingIn 4 ∧
      ∀ k ∈ [(2 : Fin 10), 4], returning.audio.amps[dutyAmp k].state = .recovered) ∧
    (returning.audio.unserved.Nodup ∧
      ∀ k ∈ returning.audio.unserved, returning.audio.amps[dutyAmp k].state = .failed) ∧
    (State.reset.audio.amps[10].state ≠ .standingIn 2 ∧ State.reset.audio.unserved = [] ∧
      State.reset.audio.shifting = some Image.reset ∧ (after .switchingLoad State.reset).audio.shifting = none) :=
  ⟨⟨rfl, rfl⟩, ⟨rfl, fun _ _ h => by rw [(burning_slots h).2]; decide⟩, by decide +kernel, by decide +kernel,
    by decide +kernel⟩

/-- A part whose standbys both stand in for FAILED amplifiers (07, Worked Sequence, tick 105). -/
def bothIn : State :=
  (queued (cover .failed (.standingIn 2) (some 10) true false .none) []).onAudio fun a =>
    (a.setAmpState 3 .failed).setAmpState 11 (.standingIn 3)

theorem witness_StandbyAmplifierFaults :
    ((10 : Fin 12) ∈ standbys ∧ State.reset.audio.amps[10].fault = false ∧ State.reset.audio.amps[10].state = .idle) ∧
    ((cover .recovered (.standingIn 2) (some 10) false false .none).audio.amps[10].state = .standingIn 2 ∧
      2 ∉ (cover .recovered (.standingIn 2) (some 10) false false .none).audio.unserved) ∧
    ((cover .failed (.standingIn 2) (some 10) true false .none).audio.amps[dutyAmp 2].state = .failed ∧
      (cover .failed (.standingIn 2) (some 10) true false .none).audio.amps[otherStandby 10].state = .idle) ∧
    (((cover .failed (.standingIn 2) (some 10) true false .none).onAudio fun a => a.setAmpState 11 .failed).audio.amps[
        otherStandby 10].state = .failed ∧
      2 ∈ (queued (cover .failed (.standingIn 2) (some 10) true false .none) []).audio.failOrder) ∧
    ((cover .failed .failed none true true .none).audio.amps[10].fault = true ∧
      (cover .failed .failed none true true .none).audio.amps[10].state = .failed ∧
      (queued (cover .failed .failed none true true .none) [2]).audio.unserved = 2 :: [] ∧
      ∀ j, (cover .failed .failed none true true .none).audio.amps[otherStandby 10].state ≠ .standingIn j) ∧
    (bothIn.audio.amps[10].fault = false ∧ bothIn.audio.amps[10].state = .standingIn 2 ∧ 2 ∉ bothIn.audio.unserved ∧
      bothIn.audio.amps[dutyAmp 2].state = .failed ∧ bothIn.audio.amps[otherStandby 10].state = .standingIn 3 ∧
      bothIn.audio.amps[dutyAmp 3].state = .failed ∧ 2 ∈ bothIn.audio.failOrder) := by
  decide +kernel

theorem witness_AmplifierCommands :
    11 < (12#8).toNat ∧ (11#8).toNat = 11 ∧ (2#8).toNat = (2 : Fin 10).val ∧
    State.reset.audio.amps[dutyAmp 2].state ≠ .recovered ∧
    ((cover .recovered (.standingIn 2) (some 10) false false evacuate6).audio.amps[dutyAmp 2].state = .recovered ∧
      (cover .recovered (.standingIn 2) (some 10) false false evacuate6).audio.amps[10].state = .standingIn 2 ∧
      (cover .recovered (.standingIn 2) (some 10) false false evacuate6).audio.unserved = []) ∧
    ((queued ((cover .recovered (.standingIn 2) (some 10) false false evacuate6).onAudio fun a =>
        a.setAmpState 3 .failed) [3]).audio.unserved = 3 :: [] ∧
      ((cover .recovered (.standingIn 2) (some 10) false false evacuate6).onAudio fun a =>
        a.setAmpState 3 .failed).audio.amps[dutyAmp 3].state = .failed) ∧
    State.reset.audio.shifting = some Image.reset ∧ (after .switchingLoad State.reset).audio.shifting = none := by
  decide +kernel

theorem witness_SegmentAndProgramCommands :
    127 < (128#8).toNat ∧ segment? { tone10 with kind := 4 } = none ∧
    ((30#8).toNat = (30 : Fin 128).val ∧ segment? { tone10 with kind := 0 } = some .unused) ∧
    ((playing (walk30 .segment 3 1)).audio.players[1].walk = some (walk30 .segment 3 1) ∧
      (walk30 .segment 3 1).current = some 30) ∧
    (∀ k : Fin 6, State.reset.audio.players[k].walk = none) ∧
    15 < (16#8).toNat ∧ (127 < (0xFE#8).toNat ∧ 0xFE#8 ≠ 0xFF#8) ∧ (15#8).toNat = (15 : Fin 16).val ∧
    (0xFF#8 = optByte none ∧ 127#8 = optByte (some 127)) ∧ State.reset.audio.programs[15].broken = false ∧
    (State.reset.onAudio fun a =>
      { a with programs := a.programs.set 15 { head := none, broken := true } }).audio.programs[15].broken = true ∧
    (clip30.next = .finish ∧ (playing (walk30 .segment 3 1)).audio.consistent 30 = true) ∧
    (State.reset.audio.unserved = [] ∧
      ∀ i : Fin 12, (State.reset.audio.amps[i].pending.getD State.reset.audio.amps[i].feed).program? ≠ some 15) ∧
    (0#24).toNat = 0 ∧ 65536 < (65537#24).toNat ∧ (1 ≤ (65536#24).toNat ∧ (65536#24).toNat ≤ 65536) := by
  decide +kernel

/-- A part whose player 1 walks in segment 30 with a fetch in flight for it. -/
def fetching (w : Walk) (wanted : Bool) : State :=
  (playing w).onAudio fun a => { a with store := { a.store with
    fetch := some { player := 1, page := 5004, wanted := wanted } } }

/-- A check as the two bytes of the store, the high byte first. -/
def checkBytes (check : BitVec 16) : Vector Byte 2 :=
  #v[check.extractLsb' 8 8, check.extractLsb' 0 8]

theorem checkBytes_join (check : BitVec 16) : (checkBytes check)[0] ++ (checkBytes check)[1] = check := by
  show check.extractLsb' 8 8 ++ check.extractLsb' 0 8 = check
  apply BitVec.eq_of_getLsbD_eq
  intro i hi
  rw [BitVec.getLsbD_append]
  by_cases h : i < 8
  · simp [h]
  · simp [h, show i - 8 < 8 by omega, show 8 + (i - 8) = i by omega]

theorem witness_StorePortRule :
    (fetching (walk30 .segment 3 1) true).audio.store.fetch ≠ none ∧
    (State.reset.audio.store.fetch = none ∧ ∀ k : Fin 6, State.reset.audio.store.requests[k] = none) ∧
    ((State.reset.audio.request 5 7).store.requests[5] = some 7 ∧
      ∀ j : Fin 6, (j.val + 5 - (State.reset.audio.request 5 7).store.lastServed.val) % 6 < 5 →
        (State.reset.audio.request 5 7).store.requests[j] = none) ∧
    (65535 : Nat) < 65536 ∧
    ((fetching (walk30 .segment 3 1) false).audio.store.fetch = some { player := 1, page := 5004, wanted := false } ∧
      (fetching (walk30 .segment 3 1) true).audio.store.fetch = some { player := 1, page := 5004, wanted := true }) ∧
    (∀ w : Walk, (fetching w true).audio.players[1].walk = some w) ∧
    (fetching (walk30 .startWait 0 0) true).audio.segments[30] = .clip 5000 10 1 2 .finish ∧
    ((walk30 .startWait 0 0).output = .startWait ∧ (walk30 .segment 3 1).output = .segment ∧
      (walk30 .startWait 0 0).clip = some { retries := 0, position := 0, abandoned := false } ∧
      (walk30 .startWait 0 0).current = some 30) ∧
    (crc page.toList = (checkBytes (crc page.toList))[0] ++ (checkBytes (crc page.toList))[1] ∧
      crc page.toList ≠ (checkBytes (crc page.toList + 1))[0] ++ (checkBytes (crc page.toList + 1))[1]) :=
  ⟨by decide +kernel, by decide +kernel, by decide +kernel, by decide, by decide +kernel, fun _ => rfl, by decide +kernel,
    by decide, (checkBytes_join _).symm, by rw [checkBytes_join]; simp⟩

theorem witness_PageEnds :
    State.reset.audio.players[1].playing = none ∧ (walk30 .startWait 0 1).output ≠ .segment ∧
    ((playing (walk30 .segment 8 1)).audio.players[1].walk = some (walk30 .segment 8 1) ∧
      (playing (walk30 .segment 8 1)).audio.players[1].playing = some page ∧ 8 + 1 < 10) ∧
    ((playing (walk30 .segment 9 1)).audio.players[1].walk = some (walk30 .segment 9 1) ∧ 10 ≤ 9 + 1) ∧
    ((playing (walk30 .segment 8 1)).audio.players[1].ready = none ∧
      ({ (playing (walk30 .segment 8 1)).audio.players[1] with ready := some page } : Player).ready = some page ∧
      ({ retries := 0, position := 8, abandoned := true } : ClipWalk).abandoned = true) ∧
    ((fed none).amps[2].feed = .program .evacuate 6 none ∧ (fed none).playerOf 6 = some 1 ∧
      ((fed none).setAmp 2 { (fed none).amps[2] with feed := .program .alert 6 none }).amps[2].feed
        = .program .alert 6 none ∧ ∀ i : Fin 12, State.reset.audio.amps[i].feed = .none) ∧
    (chiming.audio.players[1].walk.bind Walk.generator = some { pattern := .chime, place := 0 } ∧
      chiming.audio.segments[30] = .tone .chime 50 2 .finish ∧
      chiming.audio.players[1].walk.bind Walk.current = some 30) := by
  decide +kernel

/-- A part whose player 1 ends the last repetition of a CLIP on its last page, and nothing waits. -/
def ending : State :=
  let s := playing { walk30 .segment 9 1 with left := 1 }
  s.onAudio fun a => { a with demand := a.demandOf s.view }

theorem ending_quiet : ending.AudioQuiet where
  pending := by decide +kernel
  standbys := by decide +kernel
  releasing := by
    have h : ∀ k : Fin 6, ending.audio.players[k].walk.all (fun w => !w.releasing) = true := by decide +kernel
    intro k w hw
    have := h k
    rw [hw] at this
    simpa using this
  demand := by decide +kernel

/-- An audio side whose player 1 is RELEASING, its one server about to leave the program. -/
def leaving : Audio :=
  (fed (some .none)).setWalk 1 (some { walk30 .segment 9 1 with releasing := true })

theorem witness_RepetitionEnds :
    State.reset.audio.players[1].walk = none ∧ (walk30 .startWait 0 1).output = .startWait ∧
    (ending.AudioQuiet ∧ ending.audio.players[1].walk = some { walk30 .segment 9 1 with left := 1 } ∧
      ending.audio.repeating { walk30 .segment 9 1 with left := 1 } = true) ∧
    1 < (walk30 .segment 9 1).left ∧
    (clip30.next = .finish ∧ ending.audio.servesTest 1 = false ∧ ending.audio.programs[6].head = none) ∧
    (ending.audio.consistent 30 = true ∧ ending.audio.consistent 0 = false) ∧
    ({ (fed none) with amps := (fed none).amps.set 2 { (fed none).amps[2] with feed := .program .test 6 none } }
      : Audio).servesTest 1 = true ∧
    ((fed (some .none)).players[1].walk = some (walk30 .segment 9 1) ∧
      (fed (some .none)).repeating (walk30 .segment 9 1) = true ∧ ¬ (walk30 .segment 9 1).left ≤ 1 ∧
      (∀ a ∈ standbys, ∀ g, (fed (some .none)).amps[a].state ≠ .standingIn g) ∧
      (fed (some .none)).amps[2].pending = some .none ∧
      (fed (some .none)).delivererOf (fed (some .none)).amps[2].feed = some 1) ∧
    (leaving.players[1].walk = some { walk30 .segment 9 1 with releasing := true } ∧
      leaving.repeating { walk30 .segment 9 1 with releasing := true } = true ∧ leaving.playerOf 6 = some 1 ∧
      ∀ a : Fin 12, (leaving.amps[a].pending.getD leaving.amps[a].feed).program? ≠ some 6) :=
  ⟨by decide +kernel, by decide, ⟨ending_quiet, by decide +kernel, by decide +kernel⟩, by decide, by decide +kernel,
    by decide +kernel, by decide +kernel, by decide +kernel, by decide +kernel⟩

/-! #### Lines and invariants -/

/-- The part of 05 with line 3 being visited after a run of SHORT readings. -/
def visited (discard : Bool) (state : LineState) (allowance : Nat) : State :=
  let s := building.setLine 3 { state := state, reading := some .short, run := 2, allowance := allowance }
  s.setScanner { s.scanner with visit := some { line := 3, discard := discard }, last := 3 }

theorem witness_VisitsRule :
    (visited false .normal 1).scanner.visit ≠ none ∧ (∀ n : Fin 48, State.reset.resolver.configs[n].kind = .unused) ∧
    (building.scanner.visit = none ∧ building.resolver.configs[3].kind ≠ .unused ∧
      ∀ j : Fin 48, (j.val + 47 - building.scanner.last.val) % 48 < (3 + 47 - building.scanner.last.val) % 48 →
        building.resolver.configs[j].kind = .unused) ∧
    ((visited true .normal 1).scanner.visit = some { line := 3, discard := true } ∧
      (visited false .normal 1).scanner.visit = some { line := 3, discard := false }) ∧
    ((visited false .normal 1).scanner.lines[3].state.declared = some .normal ∧
      min 3 ((visited false .normal 1).scanner.lines[3].run + 1) = 3) ∧
    (0 < (visited false .normal 1).scanner.lines[3].allowance ∧
      (visited false .normal 0).scanner.lines[3].allowance = 0) ∧
    (visited false .normal 1).audio.connections[3] ≠ .connected ∧
    ((visited false .normal 1).onAudio fun a =>
      { a with connections := a.connections.set 3 .connected }).audio.connections[3] = .connected := by decide +kernel

theorem witness_LineCommands :
    47 < (48#8).toNat ∧ (47#8).toNat = (47 : Fin 48).val ∧ building.scanner.lines[3].state ≠ .lockedOut ∧
    (visited false .lockedOut 0).scanner.lines[3].state = .lockedOut ∧
    (visited false .lockedOut 0).resolver.configs[3].kind ≠ .unused ∧
    (State.reset.setLine 3 { state := .lockedOut, reading := none, run := 0, allowance := 0 }).resolver.configs[3].kind
      = .unused := by decide +kernel

/-- A part with an incident and a queued command. -/
def lit : State :=
  (burning (fire (.phased (some 3)))).setPending [.switchingLoad]

theorem lit_slots {i : Incident} {k : Fin 32} (h : lit.engine.slots[k].incident = some i) :
    k = 2 ∧ i = fire (.phased (some 3)) :=
  burning_slots h

theorem lit_bounded : lit.Bounded where
  loops l := {
    buffer := by revert l; decide +kernel
    partialReport := by revert l; decide +kernel
    timeout := by revert l; decide +kernel
    running := by revert l; decide +kernel
    timer := by
      have : ∀ l : Fin 4, lit.loops[l].timer = some 30 ∧ lit.loops[l].timeout = 30 := by decide +kernel
      intro t h
      rw [(this l).1] at h
      cases h
      rw [(this l).2]
    counts := by revert l; decide +kernel
    lastCycle := by revert l; decide +kernel }
  map := ⟨by decide +kernel, by decide +kernel, by decide +kernel, .nil, by intro x h; cases h⟩
  engine := ⟨by decide +kernel, by decide +kernel,
    fun j k a b hj hk _ => by rw [(lit_slots hj).1, (lit_slots hk).1],
    fun k i h => by rw [(lit_slots h).2]; exact ⟨by decide, by decide, by decide, by decide⟩, by decide +kernel⟩
  sessions m x h := by cases m <;> cases h
  link := ⟨by decide +kernel, by rintro _ ⟨⟩; decide⟩
  autonomous := by rintro ⟨⟩
  deviceFault := by rintro _ ⟨⟩

theorem witness_BoundsAreKept : lit.Bounded ∧ ∃ t, step lit = .next t :=
  ⟨lit_bounded, _, rfl⟩

theorem witness_RecordsStayResolved : lit.RecordsResolved ∧ ∃ t, step lit = .next t := by
  constructor
  · show ∀ z : Fin 48, _
    decide +kernel
  · exact ⟨_, rfl⟩

/-- The part of 05 with a mapped device and a queued command. -/
def planned : State :=
  (after (.mapWrite 4 entry4) building).setPending [.switchingLoad]

theorem planned_valid : ∀ i : Fin 96, planned.map.entries[i].valid = true → i = 4 := by decide +kernel

theorem witness_PlanIsKept :
    planned.map.Consistent ∧ planned.InBuilding ∧ planned.LinesFollowPlan ∧
      planned.map.entries[4].valid = true ∧ ∃ t, step planned = .next t :=
  ⟨⟨fun i j _ _ hi hj => (planned_valid i hi.1).trans (planned_valid j hj.1).symm, by decide +kernel⟩,
    ⟨by decide +kernel, by decide +kernel⟩,
    ⟨fun n => ⟨by revert n; decide +kernel, by revert n; decide +kernel, by revert n; decide +kernel⟩,
      by decide +kernel, by decide +kernel⟩, by decide +kernel, _, rfl⟩

/-- A part with a player in a walk, standby 10 standing in for the FAILED amplifier 2, and a queued command. -/
def sounding : State :=
  ((playing (walk30 .segment 3 1)).onAudio fun a =>
    let a := a.setAmp 2 { a.amps[2] with state := .failed, fault := true, server := some 10 }
    { a.setAmpState 10 (.standingIn 2) with failOrder := [2] }).setPending [.identify]

theorem sounding_walk {k : Fin 6} {w : Walk} (h : sounding.audio.players[k].walk = some w) :
    k = 1 ∧ w = walk30 .segment 3 1 := by
  have hs : sounding.audio.players = State.reset.audio.players.set 1
    { walk := some (walk30 .segment 3 1), failed := 0, underruns := 0, playing := some page, ready := none } := rfl
  have hn : ∀ k : Fin 6, State.reset.audio.players[k].walk = none := by decide +kernel
  simp only [Fin.getElem_fin, hs, Vector.getElem_set] at h
  split at h
  · next hk => exact ⟨Fin.ext hk.symm, (Option.some.inj h).symm⟩
  · have := hn k
    simp only [Fin.getElem_fin] at this
    rw [this] at h
    cases h

theorem sounding_agree : sounding.audio.AmpsAgree where
  duty := by decide +kernel
  standby := by decide +kernel
  faults := by decide +kernel
  normal := by decide +kernel
  recovered := by decide +kernel
  failed := by decide +kernel
  standing := by decide +kernel
  spare := by decide +kernel
  queue := by decide +kernel
  waiting := by decide +kernel
  order := by decide +kernel

theorem sounding_follow : sounding.FeedsFollow where
  wanted := by decide +kernel
  held i x h := by
    have hn : ∀ i : Fin 12, sounding.audio.amps[i].pending = none := by decide +kernel
    rw [hn i] at h
    cases h
  connections := by decide +kernel

theorem witness_AudioIsKept :
    sounding.audio.Bounded ∧ sounding.ImageFollows ∧ sounding.audio.AmpsAgree ∧ sounding.RecordsResolved ∧
      sounding.FeedsFollow ∧ ∃ t, step sounding = .next t :=
  ⟨⟨fun _ _ _ _ hj hk _ => by rw [(sounding_walk hj).1, (sounding_walk hk).1], by decide +kernel, by decide +kernel,
      fun _ _ h => by rw [(sounding_walk h).2]; decide, by decide +kernel⟩,
    ⟨by decide +kernel, by decide +kernel⟩, sounding_agree, by show ∀ z : Fin 48, _; decide +kernel, sounding_follow, _, rfl⟩

end Sys2Proof.Tests
end

section
/-! SUPPORT. The loop receivers: what a character's cells spell, how a character is placed, and the loop commands
(R1 to R6, R14, R15). -/

namespace Sys2Proof.Machine

open Sys2Proof

/-! ### One receiver of the part -/

theorem State.setLoop_loops_same (s : State) (l : Fin 4) (r : Receiver) : (s.setLoop l r).loops[l] = r := by
  simp [State.setLoop]

theorem State.setLoop_setLoop (s : State) (l : Fin 4) (r r' : Receiver) :
    (s.setLoop l r).setLoop l r' = s.setLoop l r' := by
  simp [State.setLoop, State.setLoops]

theorem State.setLoop_self (s : State) (l : Fin 4) : s.setLoop l s.loops[l] = s := by
  simp [State.setLoop, State.setLoops]

/-! ### The cells of a character (R1) -/

/-- The powers of two of the bits that are set add up to the number that has those bits. -/
theorem sum_powers_eq_ofBits {n : Nat} (f : Fin n → Bool) :
    ((List.finRange n).map fun j => if f j then 2 ^ j.val else 0).sum = Nat.ofBits f := by
  induction n with
  | zero => rfl
  | succ n ih =>
    have shifted (j : Fin n) :
        (if f j.succ then 2 ^ j.succ.val else 0) = 2 * if f j.succ then 2 ^ j.val else 0 := by
      simp [pow_succ, mul_comm]
    have head : (if f 0 then 2 ^ (0 : Fin (n + 1)).val else 0) = (f 0).toNat := by
      cases f 0 <;> rfl
    rw [List.finRange_succ, List.map_cons, List.sum_cons, List.map_map, Nat.ofBits_succ, ← ih, head, add_comm,
      ← List.sum_map_mul_left]
    simp only [Function.comp_def, shifted]

/-- The data cells are the bits of the character, least significant first. -/
theorem charData_getLsbD (c : LineChar) (j : Fin 8) : (charData c).getLsbD j.val = cellValue c.data[j] := by
  have bits : charData c = BitVec.ofNat 8 (Nat.ofBits fun k : Fin 8 => cellValue c.data[k]) := by
    rw [← sum_powers_eq_ofBits]; rfl
  rw [bits, BitVec.getLsbD_ofNat, Nat.testBit_ofBits_lt _ _ j.isLt, decide_eq_true j.isLt, Bool.true_and]

theorem charOutcome_of_start {c : LineChar} (start : cellValue c.start = true) : charOutcome c = .glitch := by
  simp [charOutcome, start]

theorem charOutcome_of_no_stop {c : LineChar} (start : cellValue c.start = false) (stop : cellValue c.stop = false) :
    charOutcome c = .framingError := by
  simp [charOutcome, start, stop]

theorem charOutcome_of_stop {c : LineChar} (start : cellValue c.start = false) (stop : cellValue c.stop = true) :
    charOutcome c = .character (charData c) (cellValue c.mark) (charNoisy c) := by
  simp [charOutcome, start, stop]

/-! ### The noise count (R6) -/

@[simp] theorem noiseCounted_partialReport (r : Receiver) (c : LineChar) :
    (noiseCounted r c).partialReport = r.partialReport := by
  unfold noiseCounted; split <;> rfl

@[simp] theorem noiseCounted_protocol (r : Receiver) (c : LineChar) : (noiseCounted r c).protocol = r.protocol := by
  unfold noiseCounted; split <;> rfl

/-! ### Placing a character (R3) -/

section Place
variable (s : State) (l : Fin 4) {r : Receiver} (data : Byte)

/-- A marked character begins a report where none is in progress. -/
theorem State.placeCharacter_begins (idle : r.partialReport = []) :
    (s.setLoop l r).placeCharacter l data true = s.setLoop l { r with partialReport := [data] } := by
  simp only [State.placeCharacter, State.setLoop_loops_same, idle, State.setLoop_setLoop]

/-- A marked character abandons the report in progress and begins another. -/
theorem State.placeCharacter_restarts (busy : r.partialReport ≠ []) :
    (s.setLoop l r).placeCharacter l data true = s.setLoop l { r.countProtocol with partialReport := [data] } := by
  obtain ⟨x, xs, held⟩ := List.exists_cons_of_ne_nil busy
  simp only [State.placeCharacter, State.setLoop_loops_same, held, State.setLoop_setLoop]

/-- An unmarked character outside a report is counted and ignored. -/
theorem State.placeCharacter_strays (idle : r.partialReport = []) :
    (s.setLoop l r).placeCharacter l data false = s.setLoop l r.countProtocol := by
  simp only [State.placeCharacter, State.setLoop_loops_same, idle, State.setLoop_setLoop]

/-- An unmarked second or third character is appended to the report in progress. -/
theorem State.placeCharacter_appends (held : r.partialReport.length = 1 ∨ r.partialReport.length = 2) :
    (s.setLoop l r).placeCharacter l data false =
      s.setLoop l { r with partialReport := r.partialReport ++ [data] } := by
  rcases held with one | two
  · obtain ⟨a, held⟩ := List.length_eq_one_iff.1 one
    simp only [State.placeCharacter, State.setLoop_loops_same, held, State.setLoop_setLoop]
  · obtain ⟨a, k, held⟩ := List.length_eq_two.1 two
    simp only [State.placeCharacter, State.setLoop_loops_same, held, State.setLoop_setLoop]

end Place

/-! ### LOOP_CHARACTER (R1, R3, R4) -/

/-- A character with its start and stop cells is placed after its noise is counted. -/
theorem State.endCharacter_character (s : State) (l : Fin 4) (c : LineChar) (data : Byte) (mark : Bool) :
    s.endCharacter l (.character data mark (charNoisy c)) =
      (s.setLoop l (noiseCounted s.loops[l] c)).placeCharacter l data mark := by
  unfold State.endCharacter noiseCounted
  cases charNoisy c with
  | true => rfl
  | false => exact (congrArg (State.placeCharacter · l data mark) (s.setLoop_self l)).symm

theorem exec_loopCharacter_lost {l : Fin 4} {c : LineChar} {s : State}
    (deaf : s.loops[l].state = .disabled ∨ s.loops[l].line = .waitingForOne) :
    exec (.loopCharacter l c) s = .next s :=
  if_pos (by simpa using deaf)

/-- A receiver that seeks a start on an enabled loop samples the character to its end. -/
theorem exec_loopCharacter_sampled {l : Fin 4} {s : State} (c : LineChar) (enabled : s.loops[l].state ≠ .disabled)
    (seeking : s.loops[l].line = .seeking) :
    exec (.loopCharacter l c) s = .next (s.endCharacter l (charOutcome c)) :=
  if_neg (by rw [seeking]; simpa using enabled)

theorem exec_loopCharacter_glitch {c : LineChar} (l : Fin 4) (s : State) (start : cellValue c.start = true) :
    exec (.loopCharacter l c) s = .next s := by
  by_cases deaf : s.loops[l].state = .disabled ∨ s.loops[l].line = .waitingForOne
  · exact exec_loopCharacter_lost deaf
  · obtain ⟨enabled, heard⟩ := not_or.1 deaf
    have seeking : s.loops[l].line = .seeking := by
      cases line : s.loops[l].line with
      | seeking => rfl
      | waitingForOne => exact absurd line heard
    rw [exec_loopCharacter_sampled c enabled seeking, charOutcome_of_start start, State.endCharacter]

theorem exec_loopCharacter_placed {l : Fin 4} {c : LineChar} {s : State} (enabled : s.loops[l].state ≠ .disabled)
    (seeking : s.loops[l].line = .seeking) (start : cellValue c.start = false) (stop : cellValue c.stop = true) :
    exec (.loopCharacter l c) s =
      .next ((s.setLoop l (noiseCounted s.loops[l] c)).placeCharacter l (charData c) (cellValue c.mark)) := by
  rw [exec_loopCharacter_sampled c enabled seeking, charOutcome_of_stop start stop, State.endCharacter_character]

/-- Settles O17: a character that is sampled ends in one of three ways, and one that is placed has its noise counted and
then falls under the placement rule that its mark and the report in progress choose. -/
theorem loopCharacterTaken : Obligations.LoopCharacterTaken := by
  unfold Obligations.LoopCharacterTaken
  intro l c s
  refine ⟨?lost, ?framing, charData_getLsbD c, fun enabled seeking start stop => ?placed⟩
  case lost =>
    rintro (disabled | waiting | glitch)
    · exact exec_loopCharacter_lost (.inl disabled)
    · exact exec_loopCharacter_lost (.inr waiting)
    · exact exec_loopCharacter_glitch l s glitch
  case framing =>
    intro enabled seeking start stop
    rw [exec_loopCharacter_sampled c enabled seeking, charOutcome_of_no_stop start stop]
    rfl
  case placed =>
    have taken := exec_loopCharacter_placed enabled seeking start stop
    rw [← noiseCounted_partialReport s.loops[l] c, ← noiseCounted_protocol s.loops[l] c]
    refine ⟨fun mark idle => ?_, fun mark busy => ?_, fun mark idle => ?_, fun mark held => ?_⟩
    · rw [taken, mark, State.placeCharacter_begins s l _ idle]; rfl
    · rw [taken, mark, State.placeCharacter_restarts s l _ busy]; rfl
    · rw [taken, mark, State.placeCharacter_strays s l _ idle]; rfl
    · rw [taken, mark, State.placeCharacter_appends s l _ held]; rfl

/-! ### LOOP_CONFIG (R14) -/

theorem yesNo?_some_iff {b : Byte} {e : Bool} : yesNo? b = some e ↔ b = flagByte e := by
  constructor
  · intro h
    unfold yesNo? at h
    split at h
    · next zero => cases h; exact BitVec.eq_of_toNat_eq zero
    · next one => cases h; exact BitVec.eq_of_toNat_eq one
    · cases h
  · rintro rfl
    cases e <;> rfl

theorem yesNo?_some_le_one {b : Byte} {e : Bool} (h : yesNo? b = some e) : b.toNat ≤ 1 := by
  by_contra big
  rw [yesNo?_none_iff.2 (not_le.1 big)] at h
  cases h

/-- A field of 0 or 1 is a no or a yes. -/
theorem eq_flagByte_of_le_one {b : Byte} (h : b.toNat ≤ 1) : ∃ e, b = flagByte e := by
  cases read : yesNo? b with
  | none => have := yesNo?_none_iff.1 read; omega
  | some e => exact ⟨e, yesNo?_some_iff.1 read⟩

/-- A request that replaces one receiver: the answer, and the receiver in its place. -/
theorem State.takeRequest_setLoop {s : State} {code : Byte} {serve : State → Served} {p : List Byte} {l : Fin 4}
    {r : Receiver} (h : serve s.linkValid = accept p (s.linkValid.setLoop l r)) :
    s.takeRequest code serve = { s.answer code .ok p with loops := s.loops.set l r } := by
  rw [State.takeRequest_accept h, ← State.linkValid_respond, ← State.linkValid_loops]
  rfl

theorem serveLoopConfig_of_fields {loop timeout : Byte} {l : Fin 4} (e : Bool) (s : State) (hl : loop.toNat = l.val)
    (low : 10 ≤ timeout.toNat) (high : timeout.toNat ≤ 100) :
    serveLoopConfig loop (flagByte e) timeout s =
      accept [(s.loops[l].configure e timeout.toNat).state.code]
        (s.setLoop l (s.loops[l].configure e timeout.toNat)) := by
  simp only [serveLoopConfig, index?_some_iff.2 hl, yesNo?_some_iff.2 rfl, inRange?_some_iff.2 ⟨low, high, rfl⟩]

theorem serveLoopConfig_outOfRange {loop enable timeout : Byte} (s : State)
    (h : 3 < loop.toNat ∨ 1 < enable.toNat ∨ timeout.toNat < 10 ∨ 100 < timeout.toNat) :
    serveLoopConfig loop enable timeout s = refuse .outOfRange s := by
  unfold serveLoopConfig
  split
  · next l e t hl he ht =>
    have := index?_some_iff.1 hl
    have := yesNo?_some_le_one he
    obtain ⟨low, high, -⟩ := inRange?_some_iff.1 ht
    omega
  · rfl

section Configure
variable {r : Receiver} (timeout : Nat)

theorem Receiver.configure_enable_disabled (h : r.state = .disabled) :
    r.configure true timeout = { r with
      state := .awaiting, line := .seeking, timeout := timeout, timer := some timeout, partialReport := []
      buffer := [] } := by
  simp only [Receiver.configure, h]

theorem Receiver.configure_enable_running (h : r.state = .awaiting ∨ r.state = .live) :
    r.configure true timeout = { r with timeout := timeout, timer := some timeout } := by
  rcases h with h | h <;> simp only [Receiver.configure, h]

theorem Receiver.configure_enable_silent (h : r.state = .silent) :
    r.configure true timeout = { r with timeout := timeout } := by
  simp only [Receiver.configure, h]

theorem Receiver.configure_disable_disabled (h : r.state = .disabled) :
    r.configure false timeout = { r with timeout := timeout } := by
  simp only [Receiver.configure, h]

theorem Receiver.configure_disable_enabled (h : r.state ≠ .disabled) :
    r.configure false timeout = { r with
      state := .disabled, line := .seeking, timeout := timeout, timer := none, partialReport := []
      buffer := [] } := by
  cases state : r.state with
  | disabled => exact absurd state h
  | awaiting => simp only [Receiver.configure, state]
  | live => simp only [Receiver.configure, state]
  | silent => simp only [Receiver.configure, state]

end Configure

/-! ### LOOP_STATUS (R15) -/

theorem serveLoopStatus_of_fields {loop : Byte} {l : Fin 4} (c : Bool) (s : State) (hl : loop.toNat = l.val) :
    serveLoopStatus loop (flagByte c) s =
      accept s.loops[l].bytes (if c then s.setLoop l s.loops[l].clearCounts else s) := by
  simp only [serveLoopStatus, index?_some_iff.2 hl, yesNo?_some_iff.2 rfl]

theorem serveLoopStatus_outOfRange {loop clear : Byte} (s : State) (h : 3 < loop.toNat ∨ 1 < clear.toNat) :
    serveLoopStatus loop clear s = refuse .outOfRange s := by
  unfold serveLoopStatus
  split
  · next l c hl hc =>
    have := index?_some_iff.1 hl
    have := yesNo?_some_le_one hc
    omega
  · rfl

/-! ### The loop commands as taken -/

theorem exec_loopConfig_outOfRange {loop enable timeout : Byte} (s : State)
    (h : 3 < loop.toNat ∨ 1 < enable.toNat ∨ timeout.toNat < 10 ∨ 100 < timeout.toNat) :
    exec (.loopConfig loop enable timeout) s = .next (s.answer 0x10 .outOfRange []) :=
  congrArg _ (State.takeRequest_refuse (serveLoopConfig_outOfRange _ h))

theorem exec_loopConfig_of_fields {loop timeout : Byte} {l : Fin 4} (e : Bool) (s : State) (hl : loop.toNat = l.val)
    (low : 10 ≤ timeout.toNat) (high : timeout.toNat ≤ 100) :
    exec (.loopConfig loop (flagByte e) timeout) s = .next
      { s.answer 0x10 .ok [(s.loops[l].configure e timeout.toNat).state.code] with
        loops := s.loops.set l (s.loops[l].configure e timeout.toNat) } := by
  have served := serveLoopConfig_of_fields e s.linkValid hl low high
  rw [State.linkValid_loops] at served
  exact congrArg _ (State.takeRequest_setLoop served)

theorem exec_loopStatus_outOfRange {loop clear : Byte} (s : State) (h : 3 < loop.toNat ∨ 1 < clear.toNat) :
    exec (.loopStatus loop clear) s = .next (s.answer 0x11 .outOfRange []) :=
  congrArg _ (State.takeRequest_refuse (serveLoopStatus_outOfRange _ h))

theorem exec_loopStatus_keeps {loop : Byte} {l : Fin 4} (s : State) (hl : loop.toNat = l.val) :
    exec (.loopStatus loop 0) s = .next (s.answer 0x11 .ok s.loops[l].bytes) := by
  have served := serveLoopStatus_of_fields false s.linkValid hl
  rw [State.linkValid_loops] at served
  exact congrArg _ (State.takeRequest_read served)

theorem exec_loopStatus_clears {loop : Byte} {l : Fin 4} (s : State) (hl : loop.toNat = l.val) :
    exec (.loopStatus loop 1) s = .next
      { s.answer 0x11 .ok s.loops[l].bytes with loops := s.loops.set l s.loops[l].clearCounts } := by
  have served := serveLoopStatus_of_fields true s.linkValid hl
  rw [State.linkValid_loops] at served
  exact congrArg _ (State.takeRequest_setLoop served)

/-- Settles O21: the fields of LOOP_CONFIG in their ranges choose the receiver's `configure` by its state and the enable
field, those of LOOP_STATUS its record with or without the clearing, and any field outside its range refuses. -/
theorem loopCommands : Obligations.LoopCommands := by
  unfold Obligations.LoopCommands
  refine ⟨fun loop enable timeout s => ⟨exec_loopConfig_outOfRange s, fun l hl he low high => ?config⟩,
    fun loop clear s => ⟨exec_loopStatus_outOfRange s, fun l hl => ⟨?keeps, ?clears⟩⟩⟩
  case config =>
    obtain ⟨e, rfl⟩ := eq_flagByte_of_le_one he
    refine ⟨_, exec_loopConfig_of_fields e s hl low high, ?_⟩
    cases e with
    | true =>
      have no {P : Prop} : flagByte true = 0 → P := fun h => absurd h (by decide)
      exact ⟨fun _ => Receiver.configure_enable_disabled _, fun _ => Receiver.configure_enable_running _,
        fun _ => Receiver.configure_enable_silent _, no, no⟩
    | false =>
      have no {P : Prop} : flagByte false = 1 → P := fun h => absurd h (by decide)
      exact ⟨no, no, no, fun _ => Receiver.configure_disable_disabled _,
        fun _ => Receiver.configure_disable_enabled _⟩
  case keeps =>
    rintro rfl
    exact exec_loopStatus_keeps s hl
  case clears =>
    rintro rfl
    exact exec_loopStatus_clears s hl

end Sys2Proof.Machine
end

section
/-! SUPPORT. The cause map: matching and lookup, the fields of MAP_SET_DEFAULT, and the commands that read the map or
change the map alone (R18, R24, R25, R33). -/

namespace Sys2Proof.Machine

open Sys2Proof

/-! ### Matching and lookup (R18, R24) -/

theorem MapEntry.covers_iff {e : MapEntry} {loop : Fin 4} {address : Nat} :
    e.covers loop address = true ↔ e.Matches loop address := by
  simp only [MapEntry.covers, MapEntry.Matches, Bool.and_eq_true, Bool.or_eq_true, decide_eq_true_eq, and_assoc,
    or_comm]

theorem MapEntry.covers_false_iff {e : MapEntry} {loop : Fin 4} {address : Nat} :
    e.covers loop address = false ↔ ¬ e.Matches loop address := by
  rw [← MapEntry.covers_iff, Bool.not_eq_true]

/-- The lookup tries the entries by ascending index. -/
theorem CauseMap.lookup_eq_find? (m : CauseMap) (loop : Fin 4) (address : Nat) :
    m.lookup loop address = Fin.find? fun i => m.entries[i].covers loop address :=
  Fin.find?_eq_find?_finRange.symm

theorem CauseMap.lookup_none_iff {m : CauseMap} {loop : Fin 4} {address : Nat} :
    m.lookup loop address = none ↔ ∀ i : Fin 96, ¬ m.entries[i].Matches loop address := by
  simp only [CauseMap.lookup_eq_find?, Fin.find?_eq_none_iff, MapEntry.covers_false_iff]

theorem CauseMap.lookup_some_iff {m : CauseMap} {loop : Fin 4} {address : Nat} {i : Fin 96} :
    m.lookup loop address = some i ↔
      m.entries[i].Matches loop address ∧ ∀ j : Fin 96, j < i → ¬ m.entries[j].Matches loop address := by
  simp only [CauseMap.lookup_eq_find?, Fin.find?_eq_some_iff, MapEntry.covers_iff, MapEntry.covers_false_iff]

/-! ### Class and confirm rule fields (R190) -/

theorem cls?_some_iff {b : Byte} {c : Cls} : cls? b = some c ↔ b = c.code := by
  constructor
  · intro h
    unfold cls? at h
    split at h
    case h_5 => cases h
    all_goals next value => cases h; exact BitVec.eq_of_toNat_eq value
  · rintro rfl
    cases c <;> rfl

theorem Cls.code_toNat_le (c : Cls) : c.code.toNat ≤ 3 := by
  cases c <;> decide

theorem rule?_some_iff {b : Byte} {r : Confirm} : rule? b = some r ↔ b = r.code := by
  constructor
  · intro h
    unfold rule? at h
    split at h
    case h_4 => cases h
    all_goals next value => cases h; exact BitVec.eq_of_toNat_eq value
  · rintro rfl
    cases r <;> rfl

theorem Confirm.code_toNat_le (r : Confirm) : r.code.toNat ≤ 2 := by
  cases r <;> decide

/-! ### Requests that change the map alone -/

/-- A request that changes the map: the answer, and the map in its new form. -/
theorem State.takeRequest_onMap {s : State} {code : Byte} {serve : State → Served} {p : List Byte}
    {f : CauseMap → CauseMap} (h : serve s.linkValid = accept p (s.linkValid.onMap f)) :
    s.takeRequest code serve = { s.answer code .ok p with map := f s.map } := by
  rw [State.takeRequest_accept h, ← State.linkValid_respond, ← State.linkValid_map]
  rfl

/-! ### Commands that name an index (R24, R25) -/

section Index
variable {index : Byte} {i : Fin 96} (s : State)

theorem exec_mapRead_outOfRange (h : 95 < index.toNat) :
    exec (.mapRead index) s = .next (s.answer 0x22 .outOfRange []) :=
  congrArg _ (State.takeRequest_refuse (by simp only [serveMapRead, index?_none_iff.2 h]))

theorem exec_mapRead_of_index (h : index.toNat = i.val) :
    exec (.mapRead index) s = .next (s.answer 0x22 .ok
      ([flagByte s.map.entries[i].valid, flagByte (i.val < s.map.wired.val)] ++ s.map.entries[i].bytes)) :=
  congrArg _ (State.takeRequest_read (by simp only [serveMapRead, index?_some_iff.2 h, State.linkValid_map]))

theorem exec_mapRemove_outOfRange (h : 95 < index.toNat) :
    exec (.mapRemove index) s = .next (s.answer 0x24 .outOfRange []) :=
  congrArg _ (State.takeRequest_refuse (by simp only [serveMapRemove, index?_none_iff.2 h]))

theorem serveMapRemove_of_index (h : index.toNat = i.val) :
    serveMapRemove index s = accept [] (s.onMap fun m =>
      { m with entries := m.entries.set i { m.entries[i] with valid := false } }) := by
  simp only [serveMapRemove, index?_some_iff.2 h]

theorem exec_mapRemove_of_index (h : index.toNat = i.val) :
    exec (.mapRemove index) s = .next { s.answer 0x24 .ok [] with
      map := { s.map with entries := s.map.entries.set i { s.map.entries[i] with valid := false } } } :=
  congrArg _ (State.takeRequest_onMap (serveMapRemove_of_index _ h))

theorem exec_mapSetWired_outOfRange (h : 95 < index.toNat) :
    exec (.mapSetWired index) s = .next (s.answer 0x25 .outOfRange []) :=
  congrArg _ (State.takeRequest_refuse (by simp only [serveMapSetWired, index?_none_iff.2 h]))

theorem serveMapSetWired_of_index (h : index.toNat = i.val) :
    serveMapSetWired index s = accept [] (s.onMap fun m => { m with wired := i, cursor := 95 }) := by
  simp only [serveMapSetWired, index?_some_iff.2 h]

theorem exec_mapSetWired_of_index (h : index.toNat = i.val) :
    exec (.mapSetWired index) s = .next { s.answer 0x25 .ok [] with
      map := { s.map with wired := i, cursor := 95 } } :=
  congrArg _ (State.takeRequest_onMap (serveMapSetWired_of_index _ h))

end Index

/-! ### MAP_PROBE (R24) -/

theorem serveMapProbe_outOfRange {loop address : Byte} (s : State)
    (h : 3 < loop.toNat ∨ address.toNat = 0 ∨ 250 < address.toNat) :
    serveMapProbe loop address s = refuse .outOfRange s := by
  unfold serveMapProbe
  split
  · next l a hl ha =>
    have := index?_some_iff.1 hl
    obtain ⟨low, high, -⟩ := deviceAddress?_some_iff.1 ha
    omega
  · rfl

theorem exec_mapProbe_outOfRange {loop address : Byte} (s : State)
    (h : 3 < loop.toNat ∨ address.toNat = 0 ∨ 250 < address.toNat) :
    exec (.mapProbe loop address) s = .next (s.answer 0x23 .outOfRange []) :=
  congrArg _ (State.takeRequest_refuse (serveMapProbe_outOfRange _ h))

/-- A probe of a device answers what the lookup of its reports finds. -/
theorem exec_mapProbe_of_fields {loop address : Byte} {l : Fin 4} (s : State) (hl : loop.toNat = l.val)
    (low : 1 ≤ address.toNat) (high : address.toNat ≤ 250) :
    exec (.mapProbe loop address) s = .next (s.answer 0x23 .ok
      [optByte ((s.map.lookup l address.toNat).map Fin.val)]) :=
  congrArg _ (State.takeRequest_read (by
    simp only [serveMapProbe, index?_some_iff.2 hl, deviceAddress?_some_iff.2 ⟨low, high, rfl⟩,
      State.linkValid_map]))

/-! ### MAP_SET_DEFAULT (R25) -/

theorem serveMapSetDefault_outOfRange {c r d : Byte} (s : State)
    (h : 3 < c.toNat ∨ 2 < r.toNat ∨ d.toNat < 5 ∨ 100 < d.toNat) :
    serveMapSetDefault c r d s = refuse .outOfRange s := by
  unfold serveMapSetDefault
  split
  · next cls rule n hc hr hd =>
    rw [cls?_some_iff.1 hc, rule?_some_iff.1 hr] at h
    have := cls.code_toNat_le
    have := rule.code_toNat_le
    obtain ⟨low, high, -⟩ := inRange?_some_iff.1 hd
    omega
  · rfl

theorem exec_mapSetDefault_outOfRange {c r d : Byte} (s : State)
    (h : 3 < c.toNat ∨ 2 < r.toNat ∨ d.toNat < 5 ∨ 100 < d.toNat) :
    exec (.mapSetDefault c r d) s = .next (s.answer 0x26 .outOfRange []) :=
  congrArg _ (State.takeRequest_refuse (serveMapSetDefault_outOfRange _ h))

theorem serveMapSetDefault_of_fields {d : Byte} (cls : Cls) (rule : Confirm) (s : State) (low : 5 ≤ d.toNat)
    (high : d.toNat ≤ 100) :
    serveMapSetDefault cls.code rule.code d s = accept [] (s.onMap fun m =>
      { m with defaultCls := cls, defaultRule := rule, deadline := d.toNat }) := by
  simp only [serveMapSetDefault, cls?_some_iff.2 rfl, rule?_some_iff.2 rfl, inRange?_some_iff.2 ⟨low, high, rfl⟩]

theorem exec_mapSetDefault_of_fields {d : Byte} (cls : Cls) (rule : Confirm) (s : State) (low : 5 ≤ d.toNat)
    (high : d.toNat ≤ 100) :
    exec (.mapSetDefault cls.code rule.code d) s = .next { s.answer 0x26 .ok [] with
      map := { s.map with defaultCls := cls, defaultRule := rule, deadline := d.toNat } } :=
  congrArg _ (State.takeRequest_onMap (serveMapSetDefault_of_fields cls rule _ low high))

/-! ### MAP_STATUS and MISS_LIST (R25, R33) -/

theorem exec_mapStatus (s : State) :
    exec .mapStatus s = .next (s.answer 0x27 .ok
      [byte s.map.wired.val, byte s.map.cursor.val, byte s.map.validCount, byte s.map.misses.length,
        s.map.defaultCls.code, s.map.defaultRule.code, byte s.map.deadline]) :=
  congrArg _ (State.takeRequest_read (by simp only [serveMapStatus, State.linkValid_map]))

theorem exec_missList (s : State) :
    exec .missList s = .next (s.answer 0x28 .ok
      (byte s.map.misses.length :: s.map.misses.flatMap Miss.bytes)) :=
  congrArg _ (State.takeRequest_read (by
    simp only [serveMissList, State.linkValid_map, List.flatMap_def]))

/-- Settles O25: each command's fields in their ranges give its answer and its change of the map, the entry MAP_PROBE
answers is the one the lookup finds, and any field outside its range refuses. -/
theorem mapCommands : Obligations.MapCommands := by
  unfold Obligations.MapCommands
  intro s
  refine ⟨fun index => ⟨fun big => ?beyond, fun i hi => ⟨?read, ?remove, ?wired⟩⟩,
    fun loop address => ⟨exec_mapProbe_outOfRange s, fun l hl low high => ⟨fun absent => ?unmatched,
      fun i hit earlier => ?matched⟩⟩,
    fun c r d => ⟨exec_mapSetDefault_outOfRange s, ?default⟩, exec_mapStatus s, exec_missList s⟩
  case beyond =>
    exact ⟨exec_mapRead_outOfRange s big, exec_mapRemove_outOfRange s big, exec_mapSetWired_outOfRange s big⟩
  case read => simpa only [flagByte, decide_eq_true_eq] using exec_mapRead_of_index s hi
  case remove => exact exec_mapRemove_of_index s hi
  case wired => exact exec_mapSetWired_of_index s hi
  case unmatched =>
    rw [exec_mapProbe_of_fields s hl low high, CauseMap.lookup_none_iff.2 absent]
    rfl
  case matched =>
    rw [exec_mapProbe_of_fields s hl low high, CauseMap.lookup_some_iff.2 ⟨hit, earlier⟩]
    rfl
  case default =>
    rintro cls rule rfl rfl low high
    exact exec_mapSetDefault_of_fields cls rule s low high

end Sys2Proof.Machine
end

section
/-! SUPPORT. Incident records: detector accounting, the handle check, and the record as INCIDENT_READ spells it (R36, R37,
R44 to R46, R52). -/

namespace Sys2Proof.Machine

open Sys2Proof

/-! ### Detector accounting (R44, R45) -/

theorem Detector.sends_iff {d : Detector} {r : BoundReport} :
    d.sends r = true ↔ d.loop = r.loop ∧ d.address = r.address := by
  simp only [Detector.sends, Bool.and_eq_true, decide_eq_true_eq]

theorem AlarmKind.after_eq (old new : AlarmKind) :
    old.after new = if old = .alarm ∧ new = .prealarm then .alarm else new := by
  cases old with
  | alarm => cases new <;> rfl
  | prealarm => rfl
  | clear => rfl

theorem unlistedAfter_of_ne_clear {n : Nat} {kind : AlarmKind} (h : kind ≠ .clear) :
    unlistedAfter n kind = min 255 (n + 1) := by
  cases kind with
  | clear => exact absurd rfl h
  | alarm => rfl
  | prealarm => rfl

section Account
variable (now : Tick) {r : BoundReport} {i : Incident}

theorem Incident.account_listed (h : ∃ d ∈ i.detectors, d.loop = r.loop ∧ d.address = r.address) :
    i.account now r = { i with
      detectors := i.detectors.map fun d =>
        if d.loop = r.loop ∧ d.address = r.address then
          { d with last := if d.last = .alarm ∧ r.kind = .prealarm then .alarm else r.kind }
        else d } := by
  have listed : (i.detectors.any fun d => d.sends r) = true := by
    simpa only [List.any_eq_true, Detector.sends_iff] using h
  simp only [Incident.account, listed, if_true, Detector.sends_iff, AlarmKind.after_eq]

/-- A device that is not listed is appended where there is room, and counted otherwise. -/
theorem Incident.account_unlisted (h : ∀ d ∈ i.detectors, ¬ (d.loop = r.loop ∧ d.address = r.address)) :
    i.account now r =
      if i.detectors.length < 12 then
        { i with detectors := i.detectors ++
          [{ loop := r.loop, address := r.address, last := r.kind, firstSeen := now }] }
      else { i with unlisted := unlistedAfter i.unlisted r.kind } := by
  have unlisted : ¬ (i.detectors.any fun d => d.sends r) = true := by
    simpa only [List.any_eq_true, Detector.sends_iff, not_exists, not_and] using h
  exact if_neg unlisted

end Account

/-- Settles O33: the device is listed or not, and one that is not finds room in the list or is counted by its kind. -/
theorem detectorAccounting : Obligations.DetectorAccounting := by
  unfold Obligations.DetectorAccounting
  refine fun now r i => ⟨Incident.account_listed now, fun absent => ?_⟩
  rw [Incident.account_unlisted now absent]
  refine ⟨fun room => if_pos room, fun full rising => ?rises, fun full falling => ?falls⟩
  case rises => rw [if_neg (not_lt.2 full), unlistedAfter_of_ne_clear rising]
  case falls => rw [if_neg (not_lt.2 full), falling]; rfl

/-! ### The handle check (R37) -/

theorem handleSlot_eq {handle : BitVec 16} {k : Fin 32} (h : k.val = handle.toNat % 32) : handleSlot handle = k :=
  Fin.ext h.symm

section Handle
variable {handle : BitVec 16} {s : State} (serve : Fin 32 → Incident → Served)

theorem State.withHandle_outOfRange (big : 8191 < handle.toNat) :
    s.withHandle handle serve = refuse .outOfRange s :=
  if_pos big

theorem State.withHandle_stale (fits : handle.toNat ≤ 8191)
    (gone : ∀ k : Fin 32, k.val = handle.toNat % 32 →
      s.engine.slots[k].incident = none ∨ s.engine.slots[k].generation.toNat ≠ handle.toNat / 32) :
    s.withHandle handle serve = refuse .stale s := by
  have inRange : ¬ Config.maxHandle < handle.toNat := not_lt.2 fits
  rw [State.withHandle, if_neg inRange]
  dsimp only
  split
  · next i live =>
    have other := (gone (handleSlot handle) rfl).resolve_left (by rw [live]; exact Option.some_ne_none i)
    exact if_neg other
  · rfl

theorem State.withHandle_of_names {k : Fin 32} {i : Incident} (h : s.Names handle k i) :
    s.withHandle handle serve = serve k i := by
  obtain ⟨fits, slot, generation, live⟩ := h
  have inRange : ¬ Config.maxHandle < handle.toNat := not_lt.2 fits
  simp only [State.withHandle, if_neg inRange, handleSlot_eq slot, live, generation, if_true]

end Handle

/-- The request, under its command code, puts the handle check before everything else. -/
def ChecksHandle (handle : BitVec 16) (c : Instr) (code : Byte) : Prop :=
  ∃ serve : State → Fin 32 → Incident → Served,
    ∀ s, exec c s = .next (s.takeRequest code fun t => t.withHandle handle (serve t))

/-- The six commands that carry a handle are served under its check. -/
theorem checksHandle_of_mem (handle : BitVec 16) (force : Byte) :
    ∀ c ∈ [(Instr.incidentRead handle, 0x31#8), (.incidentAck handle, 0x32#8), (.incidentSilence handle, 0x33#8),
      (.incidentResound handle, 0x34#8), (.incidentGeneral handle, 0x35#8), (.incidentReset handle force, 0x36#8)],
    ChecksHandle handle c.1 c.2 := by
  simp only [List.forall_mem_cons]
  exact ⟨⟨_, fun _ => rfl⟩, ⟨_, fun _ => rfl⟩, ⟨_, fun _ => rfl⟩, ⟨_, fun _ => rfl⟩, ⟨_, fun _ => rfl⟩,
    ⟨_, fun _ => rfl⟩, List.forall_mem_nil _⟩

section Checked
variable {handle : BitVec 16} {c : Instr} {code : Byte} (h : ChecksHandle handle c code) {s : State}
include h

theorem ChecksHandle.exec_outOfRange (big : 8191 < handle.toNat) :
    exec c s = .next (s.answer code .outOfRange []) := by
  obtain ⟨serve, served⟩ := h
  rw [served, State.takeRequest_refuse (State.withHandle_outOfRange _ big)]

theorem ChecksHandle.exec_stale (fits : handle.toNat ≤ 8191)
    (gone : ∀ k : Fin 32, k.val = handle.toNat % 32 →
      s.engine.slots[k].incident = none ∨ s.engine.slots[k].generation.toNat ≠ handle.toNat / 32) :
    exec c s = .next (s.answer code .stale []) := by
  obtain ⟨serve, served⟩ := h
  rw [served, State.takeRequest_refuse
    (State.withHandle_stale _ fits (by simpa only [State.linkValid_engine] using gone))]

end Checked

/-- Settles O27: each of the six commands is served under the handle check, which refuses before the command is looked
at. -/
theorem handleCheck : Obligations.HandleCheck := by
  unfold Obligations.HandleCheck
  intro handle force s c mem
  have checked := checksHandle_of_mem handle force c mem
  exact ⟨checked.exec_outOfRange, checked.exec_stale⟩

/-! ### The record under a handle (R46, R52) -/

theorem Incident.allClear_iff {i : Incident} :
    i.allClear = true ↔ (∀ d ∈ i.detectors, d.last = .clear) ∧ i.unlisted = 0 := by
  simp only [Incident.allClear, Bool.and_eq_true, List.all_eq_true, decide_eq_true_eq]

/-- The all-clear bit of the flags byte. -/
theorem Incident.allClearFlag_eq (i : Incident) :
    (if i.allClear = true then 4 else 0) =
      if (∀ d ∈ i.detectors, d.last = .clear) ∧ i.unlisted = 0 then 4 else 0 :=
  if_congr Incident.allClear_iff rfl rfl

/-- The handle that names an incident is the handle of its slot (R36). -/
theorem State.Names.handle_eq {s : State} {handle : BitVec 16} {k : Fin 32} {i : Incident} (h : s.Names handle k i) :
    s.engine.handle k = handle.toNat := by
  obtain ⟨-, slot, generation, -⟩ := h
  rw [Engine.handle, generation, slot, Nat.div_add_mod']

theorem exec_incidentRead_of_names {s : State} {handle : BitVec 16} {k : Fin 32} {i : Incident}
    (h : s.Names handle k i) :
    exec (.incidentRead handle) s = .next (s.answer 0x31 .ok (i.bytes handle.toNat)) := by
  have named : s.linkValid.Names handle k i := by simpa only [State.Names, State.linkValid_engine] using h
  refine congrArg _ (State.takeRequest_read ?_)
  rw [serveIncidentRead, State.withHandle_of_names _ named, named.handle_eq]

end Sys2Proof.Machine
end

section
/-! SUPPORT. The incident engine: what its events leave of the records and the test claims, and the commands that name no
incident (R47, R51, R54 to R56, R96, R111). -/

namespace Sys2Proof.Machine

open Sys2Proof

/-! ### INCIDENT_LIST (R51) -/

theorem exec_incidentList (s : State) :
    exec .incidentList s = .next (s.answer 0x30 .ok
      ([flagByte s.engine.saturated, byte s.engine.ages.length]
        ++ (s.engine.ages.map fun k => bytes2 (s.engine.handle k)).flatten)) :=
  congrArg _ (State.takeRequest_read (by simp only [serveIncidentList, State.linkValid_engine]))

/-! ### Events of the engine (R54, R96, R111) -/

/-- Resolution does not read the records. -/
theorem resolveZone_records (e : Engine) (ss : Sessions) (r : Resolver) (records : Vector ZoneRecord 48) (z : Fin 48) :
    resolveZone e ss { r with records := records } z = resolveZone e ss r z := rfl

/-- An input change leaves every record the resolution of its zone. -/
theorem State.inputChange_recordsResolved (s : State) : s.inputChange.RecordsResolved := by
  intro z
  rw [State.inputChange_resolver, State.inputChange_engine, State.inputChange_sessions,
    resolveZone_records]
  exact Vector.getElem_ofFn z.isLt

theorem State.withdrawTests_recordsResolved {s : State} (h : s.RecordsResolved) : s.withdrawTests.RecordsResolved := by
  unfold State.withdrawTests
  split
  · exact State.inputChange_recordsResolved _
  · exact h

/-- An event the resolver is told of leaves every record the resolution of its zone. -/
theorem State.engineEvent_recordsResolved {s : State} {e : Engine} (told : s.engine.tells e = true) :
    (s.engineEvent e).RecordsResolved := by
  have resolved := State.inputChange_recordsResolved (s.setEngine e)
  simp only [State.engineEvent, told, if_true]
  split
  · exact State.withdrawTests_recordsResolved resolved
  · exact resolved

/-- Without an entry to an alarm stage, and with the saturation flag clear, the test claims stay. -/
theorem State.engineEvent_tests {s : State} {e : Engine} (quiet : s.engine.entered e = false)
    (flag : e.saturated = false) : (s.engineEvent e).resolver.tests = s.resolver.tests := by
  unfold State.engineEvent
  dsimp only
  split
  · simp only [quiet, flag, Bool.or_self, Bool.false_eq_true, if_false, State.inputChange_tests,
      State.setEngine_resolver]
  · rfl

theorem Stage.alarm_of_claiming {st : Stage} (h : st.claiming = true) : st.alarm = true := by
  cases st with
  | phased t => rfl
  | general => rfl
  | _ => cases h

/-- An event that leaves the slots as they were is no entry to an alarm stage. -/
theorem Engine.entered_of_slots_eq {e e' : Engine} (h : e'.slots = e.slots) : e.entered e' = false := by
  rw [Engine.entered, List.any_eq_false]
  intro k _ entry
  rw [h] at entry
  cases slot : e.slots[k].incident with
  | none => rw [slot] at entry; cases entry
  | some i =>
    rw [slot, Option.any_some, Option.any_some, Bool.and_eq_true, Bool.not_eq_true'] at entry
    obtain ⟨claiming, idle⟩ := entry
    rw [Stage.alarm_of_claiming claiming] at idle
    cases idle

theorem Engine.tells_self (e : Engine) : e.tells e = false := by
  simp [Engine.tells]

theorem Engine.tells_of_saturated_ne {e e' : Engine} (h : e.saturated ≠ e'.saturated) : e.tells e' = true := by
  simp [Engine.tells, h]

theorem State.engineEvent_self (s : State) : s.engineEvent s.engine = s :=
  if_neg (by rw [Engine.tells_self]; exact Bool.false_ne_true)

/-! ### SATURATION_CLEAR (R47) -/

theorem exec_saturationClear_clear {s : State} (flag : s.engine.saturated = false) :
    exec .saturationClear s = .next (s.answer 0x37 .ok []) := by
  have same : { s.linkValid.engine with saturated := false } = s.linkValid.engine := by
    rw [State.linkValid_engine, ← flag]
  refine congrArg _ (State.takeRequest_read ?_)
  rw [serveSaturationClear, same, State.engineEvent_self]

theorem exec_saturationClear (s : State) :
    exec .saturationClear s =
      .next ((s.linkValid.engineEvent { s.engine with saturated := false }).respond 0x37 .ok []) :=
  congrArg _ (State.takeRequest_accept (by rw [serveSaturationClear, State.linkValid_engine]))

/-- The response to a request that ends in an event of the engine. -/
theorem State.engineEvent_respond_link (s : State) (e : Engine) (code : Byte) (r : Result) (p : List Byte) :
    ((s.linkValid.engineEvent e).respond code r p).link = (s.answer code r p).link := by
  rw [← State.linkValid_respond]
  simp only [State.respond, State.setLink_link, State.engineEvent_link]

/-- A request that ends in an event of the engine reaches no further than incidents do. -/
theorem State.engineEvent_respond_onlyIncidents (s : State) (e : Engine) (code : Byte) (r : Result) (p : List Byte) :
    s.OnlyIncidents ((s.linkValid.engineEvent e).respond code r p) := by
  constructor <;> simp

theorem exec_saturationClear_set {s : State} (flag : s.engine.saturated = true) :
    ∃ t, exec .saturationClear s = .next t ∧
      t.engine = { s.engine with saturated := false } ∧ t.link = (s.answer 0x37 .ok []).link ∧
      t.resolver.tests = s.resolver.tests ∧ t.RecordsResolved ∧ s.OnlyIncidents t := by
  refine ⟨_, exec_saturationClear s, ?engine, State.engineEvent_respond_link .., ?tests, ?resolved,
    State.engineEvent_respond_onlyIncidents ..⟩
  case engine => exact State.engineEvent_engine ..
  case tests =>
    rw [State.respond_resolver, State.engineEvent_tests (Engine.entered_of_slots_eq ?_) rfl, State.linkValid_resolver]
    rw [State.linkValid_engine]
  case resolved =>
    have told : s.linkValid.engine.tells { s.engine with saturated := false } = true :=
      Engine.tells_of_saturated_ne (by simp [flag])
    exact State.engineEvent_recordsResolved told

/-! ### Requests that change the engine's settings alone -/

/-- A request that writes the engine without an event: the answer, and the engine in its new form. -/
theorem State.takeRequest_setEngine {s : State} {code : Byte} {serve : State → Served} {p : List Byte} {e : Engine}
    (h : serve s.linkValid = accept p (s.linkValid.setEngine e)) :
    s.takeRequest code serve = { s.answer code .ok p with engine := e } := by
  rw [State.takeRequest_accept h, ← State.linkValid_respond]
  rfl

/-! ### PROFILE_WRITE and PROFILE_READ (R55) -/

theorem Engine.profileUsed_iff {e : Engine} {n : Fin 16} :
    e.profileUsed n = true ↔ ∃ (k : Fin 32) (i : Incident), e.slots[k].incident = some i ∧ i.profile = n := by
  simp only [Engine.profileUsed, Vector.any_eq_true, Option.any_eq_true, decide_eq_true_eq, Fin.exists_iff,
    Fin.getElem_fin]

section Profile
variable {number : Byte} {raw : RawProfile} {s : State} {n : Fin 16} {p : Profile}

theorem exec_profileRead_outOfRange (big : 15 < number.toNat) :
    exec (.profileRead number) s = .next (s.answer 0x39 .outOfRange []) :=
  congrArg _ (State.takeRequest_refuse (by simp only [serveProfileRead, index?_none_iff.2 big]))

theorem exec_profileRead_of_index (hn : number.toNat = n.val) :
    exec (.profileRead number) s = .next (s.answer 0x39 .ok s.engine.profiles[n].bytes) :=
  congrArg _ (State.takeRequest_read (by
    simp only [serveProfileRead, index?_some_iff.2 hn, State.linkValid_engine]))

theorem serveProfileWrite_outOfRange (h : 15 < number.toNat ∨ profile? raw = none) :
    serveProfileWrite number raw s = refuse .outOfRange s := by
  unfold serveProfileWrite
  split
  · next n p hn hp =>
    have := index?_some_iff.1 hn
    rcases h with big | bad
    · omega
    · rw [hp] at bad; cases bad
  · rfl

theorem exec_profileWrite_outOfRange (h : 15 < number.toNat ∨ profile? raw = none) :
    exec (.profileWrite number raw) s = .next (s.answer 0x38 .outOfRange []) :=
  congrArg _ (State.takeRequest_refuse (serveProfileWrite_outOfRange h))

/-- A profile with every field in its range is written unless a live incident carries it, or saturation uses it. -/
theorem serveProfileWrite_of_fields (hn : number.toNat = n.val) (hp : profile? raw = some p) :
    serveProfileWrite number raw s =
      if s.engine.profileUsed n || (n = 15 && s.engine.saturated) then refuse .busy s
      else accept [] (s.setEngine { s.engine with profiles := s.engine.profiles.set n p }) := by
  simp only [serveProfileWrite, index?_some_iff.2 hn, hp]

theorem exec_profileWrite_busy (hn : number.toNat = n.val) (hp : profile? raw = some p)
    (used : s.engine.profileUsed n = true ∨ (n = 15 ∧ s.engine.saturated = true)) :
    exec (.profileWrite number raw) s = .next (s.answer 0x38 .busy []) := by
  refine congrArg _ (State.takeRequest_refuse ?_)
  rw [serveProfileWrite_of_fields hn hp, if_pos]
  simpa only [State.linkValid_engine, Bool.or_eq_true, Bool.and_eq_true, decide_eq_true_eq] using used

theorem exec_profileWrite_free (hn : number.toNat = n.val) (hp : profile? raw = some p)
    (free : ¬ (s.engine.profileUsed n = true ∨ (n = 15 ∧ s.engine.saturated = true))) :
    exec (.profileWrite number raw) s = .next { s.answer 0x38 .ok [] with
      engine := { s.engine with profiles := s.engine.profiles.set n p } } := by
  refine congrArg _ (State.takeRequest_setEngine ?_)
  rw [serveProfileWrite_of_fields hn hp, if_neg, State.linkValid_engine]
  simpa only [State.linkValid_engine, Bool.or_eq_true, Bool.and_eq_true, decide_eq_true_eq] using free

end Profile

/-! ### BUILDING_SET (R56) -/

theorem Engine.live_iff {e : Engine} : e.live = true ↔ ∃ k : Fin 32, e.slots[k].incident ≠ none := by
  simp only [Engine.live, Vector.any_eq_true, Fin.exists_iff, Fin.getElem_fin, ← Option.isSome_iff_ne_none]

theorem State.reachesFloor_iff {s : State} {floors : Nat} :
    s.reachesFloor floors = true ↔
      (∃ i : Fin 96, s.map.entries[i].valid = true ∧ floors ≤ s.map.entries[i].floor) ∨
      ∃ z : Fin 48, s.resolver.configs[z].kind ≠ .unused ∧ floors ≤ s.resolver.configs[z].high := by
  simp only [State.reachesFloor, Bool.or_eq_true, Vector.any_eq_true, Bool.and_eq_true, decide_eq_true_eq,
    Fin.exists_iff, Fin.getElem_fin]

section Building
variable {floors : Byte} {s : State}

theorem serveBuildingSet_outOfRange (h : floors.toNat = 0 ∨ 80 < floors.toNat) :
    serveBuildingSet floors s = refuse .outOfRange s := by
  rw [serveBuildingSet, if_pos]
  simp only [Bool.or_eq_true, decide_eq_true_eq]
  omega

theorem exec_buildingSet_outOfRange (h : floors.toNat = 0 ∨ 80 < floors.toNat) :
    exec (.buildingSet floors) s = .next (s.answer 0x3A .outOfRange []) :=
  congrArg _ (State.takeRequest_refuse (serveBuildingSet_outOfRange h))

/-- A floor count in its range is judged by the incidents first and by the map and the plan after them. -/
theorem serveBuildingSet_inRange (low : 1 ≤ floors.toNat) (high : floors.toNat ≤ 80) :
    serveBuildingSet floors s =
      if s.engine.live then refuse .alarmActive s
      else if s.reachesFloor floors.toNat then refuse .outOfRange s
      else accept [] (s.setEngine { s.engine with floors := floors.toNat }) := by
  rw [serveBuildingSet, if_neg]
  simp only [Bool.or_eq_true, decide_eq_true_eq]
  omega

theorem State.linkValid_reachesFloor (s : State) (floors : Nat) :
    s.linkValid.reachesFloor floors = s.reachesFloor floors := by
  simp only [State.reachesFloor, State.linkValid_map, State.linkValid_resolver]

theorem exec_buildingSet_live (low : 1 ≤ floors.toNat) (high : floors.toNat ≤ 80) (live : s.engine.live = true) :
    exec (.buildingSet floors) s = .next (s.answer 0x3A .alarmActive []) := by
  refine congrArg _ (State.takeRequest_refuse ?_)
  rw [serveBuildingSet_inRange low high, State.linkValid_engine, if_pos live]

theorem exec_buildingSet_reached (low : 1 ≤ floors.toNat) (high : floors.toNat ≤ 80) (quiet : ¬ s.engine.live = true)
    (reached : s.reachesFloor floors.toNat = true) :
    exec (.buildingSet floors) s = .next (s.answer 0x3A .outOfRange []) := by
  refine congrArg _ (State.takeRequest_refuse ?_)
  rw [serveBuildingSet_inRange low high, State.linkValid_engine, if_neg quiet, State.linkValid_reachesFloor,
    if_pos reached]

theorem exec_buildingSet_free (low : 1 ≤ floors.toNat) (high : floors.toNat ≤ 80) (quiet : ¬ s.engine.live = true)
    (clear : ¬ s.reachesFloor floors.toNat = true) :
    exec (.buildingSet floors) s = .next { s.answer 0x3A .ok [] with
      engine := { s.engine with floors := floors.toNat } } := by
  refine congrArg _ (State.takeRequest_setEngine ?_)
  rw [serveBuildingSet_inRange low high, State.linkValid_engine, if_neg quiet, State.linkValid_reachesFloor,
    if_neg clear]

end Building

/-- Settles O30: the record's bytes are those of its layout stage by stage, SATURATION_CLEAR is an event of the engine
exactly where the flag was set, and the tests of PROFILE_WRITE and BUILDING_SET come in their order. -/
theorem engineCommands : Obligations.EngineCommands := by
  unfold Obligations.EngineCommands
  refine ⟨⟨fun handle s k i named => ?read, fun s => ⟨exec_incidentList s, exec_saturationClear_clear,
      exec_saturationClear_set⟩⟩,
    fun number raw s => ⟨exec_profileRead_outOfRange, exec_profileWrite_outOfRange, fun n hn =>
      ⟨exec_profileRead_of_index hn, fun p hp => ⟨fun used => ?busy, fun unused flag => ?written⟩⟩⟩,
    fun floors s => ⟨exec_buildingSet_outOfRange, ?live, ?reached, ?set⟩⟩
  case read =>
    rw [exec_incidentRead_of_names named, Incident.bytes, i.allClearFlag_eq]
    obtain ⟨_, _, _, _, _, stage, _⟩ := i
    cases stage with
    | investigating phase _ => cases phase <;> rfl
    | _ => rfl
  case busy => exact exec_profileWrite_busy hn hp (used.imp_left Engine.profileUsed_iff.2)
  case written =>
    refine exec_profileWrite_free hn hp ?_
    rintro (used | ⟨last, saturated⟩)
    · obtain ⟨k, i, held, same⟩ := Engine.profileUsed_iff.1 used
      exact unused k i held same
    · rw [flag last] at saturated; cases saturated
  case live => exact fun low high live => exec_buildingSet_live low high (Engine.live_iff.2 live)
  case reached =>
    exact fun low high quiet reached =>
      exec_buildingSet_reached low high (mt Engine.live_iff.1 quiet) (State.reachesFloor_iff.2 reached)
  case set =>
    exact fun low high quiet clear =>
      exec_buildingSet_free low high (mt Engine.live_iff.1 quiet) (mt State.reachesFloor_iff.1 clear)

end Sys2Proof.Machine
end

section
/-! SUPPORT. The claims of an incident on a zone: stage by stage, and the rings of a PHASED incident of known floor (R83 to
R89). -/

namespace Sys2Proof.Machine

open Sys2Proof

/-! ### Claims by stage (R83, R86, R88, R89) -/

theorem Stage.name_phased_iff {st : Stage} : st.name = .phased ↔ ∃ t, st = .phased t := by
  cases st <;> simp [Stage.name]

theorem Stage.name_general_iff {st : Stage} : st.name = .general ↔ st = .general := by
  cases st <;> simp [Stage.name]

section Claim
variable {floors : Nat} {p : Profile} {i : Incident} {z : ZoneConfig}

theorem Incident.claim_unused (unused : z.kind = .unused) : i.claim floors p z = .none :=
  if_pos unused

theorem Incident.claim_general (used : z.kind ≠ .unused) (general : i.stage.name = .general) :
    i.claim floors p z = .evacuate := by
  rw [Incident.claim, if_neg used, Stage.name_general_iff.1 general]

theorem Incident.claim_phased_known {f : Nat} (used : z.kind ≠ .unused) (phased : i.stage.name = .phased)
    (known : i.floor = some f) : i.claim floors p z = phasedClaim floors p f i.step z := by
  obtain ⟨t, stage⟩ := Stage.name_phased_iff.1 phased
  rw [Incident.claim, if_neg used, stage, known]

theorem Incident.claim_phased_unknown (used : z.kind ≠ .unused) (phased : i.stage.name = .phased)
    (unknown : i.floor = none) : i.claim floors p z = .alert := by
  obtain ⟨t, stage⟩ := Stage.name_phased_iff.1 phased
  rw [Incident.claim, if_neg used, stage, unknown]

theorem Incident.claim_silent (phased : i.stage.name ≠ .phased) (general : i.stage.name ≠ .general) :
    i.claim floors p z = .none := by
  by_cases used : z.kind = .unused
  · exact Incident.claim_unused used
  · rw [Incident.claim, if_neg used]
    cases stage : i.stage with
    | phased t => exact absurd (Stage.name_phased_iff.2 ⟨t, stage⟩) phased
    | general => exact absurd (Stage.name_general_iff.2 stage) general
    | _ => rfl

end Claim

/-- Settles O35: the claim on a used zone is read off the stage and the floor. -/
theorem claimsByStage : Obligations.ClaimsByStage := by
  unfold Obligations.ClaimsByStage
  refine fun floors p i z => ⟨Incident.claim_unused, Incident.claim_silent, Incident.claim_general, ?stair,
    Incident.claim_phased_unknown⟩
  case stair =>
    intro stair phased known
    obtain ⟨f, floor⟩ := Option.isSome_iff_exists.1 known
    rw [Incident.claim_phased_known (by simp [stair]) phased floor]
    simp only [phasedClaim, stair]

/-! ### Rings (R84, R85, R87) -/

section Ring
variable {floors f step low high : Nat} {p : Profile}

/-- The zone holds the fire floor or lies within the radius on its side. -/
abbrev InsideRing (f up down low high : Nat) : Prop :=
  (low ≤ f ∧ f ≤ high) ∨ (f < low ∧ low ≤ f + up) ∨ (high < f ∧ f ≤ high + down)

/-- The zone lies within the margin beyond the radius on its side. -/
abbrev NearRing (f up down margin low high : Nat) : Prop :=
  (f < low ∧ low ≤ f + up + margin) ∨ (high < f ∧ f ≤ high + down + margin)

/-- The table of R85 is three lines: inside, near or under building alert, and neither. The zone lies on one side of the
fire floor only, since its floors are in order. -/
theorem ringClaim_eq (ordered : low ≤ high) :
    ringClaim floors p f step low high =
      if InsideRing f (grownRadius floors p.up step) (grownRadius floors p.down step) low high then .evacuate
      else if NearRing f (grownRadius floors p.up step) (grownRadius floors p.down step) p.margin low high
        ∨ p.building = true then .alert
      else .none := by
  unfold ringClaim
  dsimp only
  generalize grownRadius floors p.up step = up
  generalize grownRadius floors p.down step = down
  by_cases holds : low ≤ f ∧ f ≤ high
  · rw [if_pos holds, if_pos (.inl holds)]
  · rw [if_neg holds]
    rcases lt_or_ge f low with below | _
    · have notAbove : ¬ high < f := by omega
      grind
    · have above : high < f := by omega
      grind

end Ring

/-- Settles O36: a FLOOR or CAR_PARK zone takes the ring claim of its range, and a LIFT_LOBBY that claim raised. -/
theorem ringClaims : Obligations.RingClaims := by
  unfold Obligations.RingClaims
  intro floors f p i z _ ordered phased known
  dsimp only
  have floorClaim {z : ZoneConfig} (kind : z.kind = .floor ∨ z.kind = .carPark) :
      i.claim floors p z = ringClaim floors p f i.step z.low z.high := by
    rcases kind with kind | kind <;>
      rw [Incident.claim_phased_known (by simp [kind]) phased known] <;> simp only [phasedClaim, kind]
  refine ⟨fun kind => ?ring, fun lobby => ?lobby⟩
  case ring =>
    rw [floorClaim kind, ringClaim_eq ordered]
    refine ⟨fun inside => if_pos inside, fun outside near => ?_, fun outside far building => ?_⟩
    · exact (if_neg outside).trans (if_pos near)
    · exact (if_neg outside).trans (if_neg (not_or.2 ⟨far, by simp [building]⟩))
  case lobby =>
    rw [Incident.claim_phased_known (by simp [lobby]) phased known,
      floorClaim (z := { z with kind := .floor }) (.inl rfl)]
    simp only [phasedClaim, lobby]

end Sys2Proof.Machine
end

section
/-! SUPPORT. The zone commands: reading a zone's configuration and status, and the write of a configuration with what it
does to the zone's line (R80 to R82, R96, R100, R170). -/

namespace Sys2Proof.Machine

open Sys2Proof

/-! ### ZONE_READ and ZONE_STATUS (R82, R100) -/

theorem State.used_iff {s : State} {z : Fin 48} : s.used z = true ↔ s.resolver.configs[z].kind ≠ .unused :=
  decide_eq_true_iff

theorem State.used_false_iff {s : State} {z : Fin 48} : s.used z = false ↔ s.resolver.configs[z].kind = .unused := by
  rw [← Bool.not_eq_true, State.used_iff, not_not]

@[simp] theorem State.linkValid_used (s : State) : s.linkValid.used = s.used := by
  unfold State.used; rw [State.linkValid_resolver]

theorem State.linkValid_servingAmp (s : State) (z : Fin 48) : s.linkValid.servingAmp z = s.servingAmp z := by
  simp only [State.servingAmp, State.linkValid_used, State.linkValid_resolver, State.linkValid_audio]

theorem State.linkValid_zoneBytes (s : State) (z : Fin 48) : s.linkValid.zoneBytes z = s.zoneBytes z := by
  simp only [State.zoneBytes, State.linkValid_servingAmp, State.linkValid_resolver, State.linkValid_audio,
    State.linkValid_scanner]

theorem State.servingAmp_eq (s : State) (z : Fin 48) :
    (s.servingAmp z).map Fin.val =
      if s.resolver.configs[z].kind = .unused then none
      else s.audio.amps[dutyAmp s.resolver.configs[z].duty].server.map Fin.val := by
  by_cases unused : s.resolver.configs[z].kind = .unused
  · rw [if_pos unused, State.servingAmp, State.used_false_iff.2 unused]
    rfl
  · rw [if_neg unused, State.servingAmp, State.used_iff.2 unused]
    rfl

section Read
variable {zone : Byte} {z : Fin 48}

theorem exec_zoneRead_outOfRange (s : State) (big : 47 < zone.toNat) :
    exec (.zoneRead zone) s = .next (s.answer 0x41 .outOfRange []) :=
  congrArg _ (State.takeRequest_refuse (by simp only [serveZoneRead, index?_none_iff.2 big]))

theorem exec_zoneStatus_outOfRange (s : State) (big : 47 < zone.toNat) :
    exec (.zoneStatus zone) s = .next (s.answer 0x42 .outOfRange []) :=
  congrArg _ (State.takeRequest_refuse (by simp only [serveZoneStatus, index?_none_iff.2 big]))

theorem exec_zoneRead_of_index (s : State) (hz : zone.toNat = z.val) :
    exec (.zoneRead zone) s = .next (s.answer 0x41 .ok s.resolver.configs[z].bytes) :=
  congrArg _ (State.takeRequest_read (by
    simp only [serveZoneRead, index?_some_iff.2 hz, State.linkValid_resolver]))

theorem exec_zoneStatus_of_index (s : State) (hz : zone.toNat = z.val) :
    exec (.zoneStatus zone) s = .next (s.answer 0x42 .ok (s.zoneBytes z)) :=
  congrArg _ (State.takeRequest_read (by
    simp only [serveZoneStatus, index?_some_iff.2 hz, State.linkValid_zoneBytes]))

end Read

/-- Settles O41: a zone number below 48 is answered with the bytes of the zone's configuration or status. -/
theorem zoneReadAndStatus : Obligations.ZoneReadAndStatus := by
  unfold Obligations.ZoneReadAndStatus
  refine fun zone s => ⟨fun big => ⟨exec_zoneRead_outOfRange s big, exec_zoneStatus_outOfRange s big⟩,
    fun z hz => ⟨exec_zoneRead_of_index s hz, ?status⟩⟩
  case status =>
    rw [exec_zoneStatus_of_index s hz, State.zoneBytes, State.servingAmp_eq]
    rfl

/-! ### The summed load (R81) -/

/-- The load summed over the used zones of an amplifier, as a sum over all zones. -/
theorem State.summedLoad_eq (s : State) (z : Fin 48) (c : ZoneConfig) :
    s.summedLoad z c = (if c.kind = .unused then 0 else c.load) +
      ∑ y : Fin 48, if y ≠ z ∧ s.resolver.configs[y].kind ≠ .unused ∧ s.resolver.configs[y].duty = c.duty
        then s.resolver.configs[y].load else 0 := by
  rw [Fin.sum_univ_def, List.sum_map_ite, List.map_const', List.sum_replicate, smul_zero, add_zero, add_comm,
    State.summedLoad]
  simp only [State.used, ne_eq, decide_not, Bool.decide_and, Bool.and_assoc]

theorem State.linkValid_summedLoad (s : State) (z : Fin 48) (c : ZoneConfig) :
    s.linkValid.summedLoad z c = s.summedLoad z c := by
  simp only [State.summedLoad, State.linkValid_used, State.linkValid_resolver]

theorem ZoneConfig.floorsOk_iff {c : ZoneConfig} {floors : Nat} :
    c.floorsOk floors = true ↔ c.kind = .unused ∨ (c.low ≤ c.high ∧ c.high < floors) := by
  simp only [ZoneConfig.floorsOk, Bool.or_eq_true, Bool.and_eq_true, decide_eq_true_eq]

/-! ### The scanner told of a write (R170) -/

theorem State.zoneWritten_intoUse {s : State} {n : Fin 48} (used : s.used n = true) :
    (s.zoneWritten n false).scanner =
      { s.scanner with lines := s.scanner.lines.set n s.scanner.lines[n].intoUse } := by
  simp only [State.zoneWritten, used, State.lineChanged_scanner, State.setLine, State.setScanner_scanner]

theorem State.zoneWritten_outOfUse {s : State} {n : Fin 48} (unused : s.used n = false) :
    (s.zoneWritten n true).scanner =
      { s.scanner.discardVisit n with lines := s.scanner.lines.set n s.scanner.lines[n].outOfUse } := by
  simp only [State.zoneWritten, unused, State.lineChanged_scanner, State.setLine, State.setScanner_scanner]
  rfl

theorem State.zoneWritten_same {s : State} {n : Fin 48} {was : Bool} (same : s.used n = was) :
    s.zoneWritten n was = s := by
  cases was <;> simp only [State.zoneWritten, same]

/-! ### ZONE_WRITE (R80, R81, R96) -/

/-- A configuration stored and the zones resolved again, before the scanner is told. -/
def State.storeZone (s : State) (z : Fin 48) (c : ZoneConfig) : State :=
  (s.setResolver { s.resolver with configs := s.resolver.configs.set z c }).inputChange

theorem State.writeZone_eq (s : State) (z : Fin 48) (c : ZoneConfig) :
    s.writeZone z c = (s.storeZone z c).zoneWritten z (s.used z) := rfl

section Store
variable (s : State) (z : Fin 48) (c : ZoneConfig)

theorem State.storeZone_configs : (s.storeZone z c).resolver.configs = s.resolver.configs.set z c := by
  rw [State.storeZone, State.inputChange_configs, State.setResolver_resolver]

theorem State.storeZone_scanner : (s.storeZone z c).scanner = s.scanner := by
  rw [State.storeZone, State.inputChange_scanner, State.setResolver_scanner]

theorem State.storeZone_used_iff : (s.storeZone z c).used z = true ↔ c.kind ≠ .unused := by
  rw [State.used_iff, State.storeZone_configs, Fin.getElem_fin, Vector.getElem_set_self]

variable {s z c}

theorem State.writeZone_intoUse (was : s.resolver.configs[z].kind = .unused) (used : c.kind ≠ .unused) :
    (s.writeZone z c).scanner =
      { s.scanner with lines := s.scanner.lines.set z s.scanner.lines[z].intoUse } := by
  rw [State.writeZone_eq, State.used_false_iff.2 was,
    State.zoneWritten_intoUse ((State.storeZone_used_iff s z c).2 used), State.storeZone_scanner]

theorem State.writeZone_outOfUse (was : s.resolver.configs[z].kind ≠ .unused) (unused : c.kind = .unused) :
    (s.writeZone z c).scanner =
      { s.scanner.discardVisit z with lines := s.scanner.lines.set z s.scanner.lines[z].outOfUse } := by
  have gone : (s.storeZone z c).used z = false :=
    Bool.eq_false_iff.2 fun used => (State.storeZone_used_iff s z c).1 used unused
  rw [State.writeZone_eq, State.used_iff.2 was, State.zoneWritten_outOfUse gone, State.storeZone_scanner]

theorem State.writeZone_sameUse (same : s.resolver.configs[z].kind = .unused ↔ c.kind = .unused) :
    (s.writeZone z c).scanner = s.scanner := by
  have use : (s.storeZone z c).used z = s.used z := by
    rw [Bool.eq_iff_iff, State.storeZone_used_iff, State.used_iff, ne_eq, ne_eq, same]
  rw [State.writeZone_eq, State.zoneWritten_same use, State.storeZone_scanner]

variable (s z c)

/-- A write leaves every other line and the last line visited. -/
theorem State.writeZone_others : (s.writeZone z c).scanner.last = s.scanner.last ∧
    ∀ n, n ≠ z → (s.writeZone z c).scanner.lines[n] = s.scanner.lines[n] := by
  have other (x : Line) (n : Fin 48) (ne : n ≠ z) : (s.scanner.lines.set z x)[n] = s.scanner.lines[n] :=
    Vector.getElem_set_ne _ _ (fun same => ne (Fin.ext same.symm))
  by_cases same : s.resolver.configs[z].kind = .unused ↔ c.kind = .unused
  · rw [State.writeZone_sameUse same]
    exact ⟨rfl, fun _ _ => rfl⟩
  · by_cases was : s.resolver.configs[z].kind = .unused
    · rw [State.writeZone_intoUse was fun unused => same (iff_of_true was unused)]
      exact ⟨rfl, other _⟩
    · rw [State.writeZone_outOfUse was (by_contra fun used => same (iff_of_false was used))]
      exact ⟨rfl, other _⟩

theorem State.writeZone_recordsResolved : (s.writeZone z c).RecordsResolved := by
  intro y
  simp only [State.writeZone, State.zoneWritten_resolver, State.zoneWritten_engine, State.zoneWritten_sessions]
  exact State.inputChange_recordsResolved _ y

end Store

section Write
variable {zone : Byte} {raw : RawZone} {s : State} {z : Fin 48} {c : ZoneConfig}

theorem exec_zoneWrite_badFields (h : 47 < zone.toNat ∨ zoneConfig? raw = none) :
    exec (.zoneWrite zone raw) s = .next (s.answer 0x40 .outOfRange []) := by
  refine congrArg _ (State.takeRequest_refuse ?_)
  unfold serveZoneWrite
  split
  · next z c hz hc =>
    have := index?_some_iff.1 hz
    rcases h with big | bad
    · omega
    · rw [hc] at bad; cases bad
  · rfl

/-- A zone number and fields in their ranges are judged by the floors, the zone's connection and the summed load, in this
order. -/
theorem serveZoneWrite_of_fields (hz : zone.toNat = z.val) (hc : zoneConfig? raw = some c) :
    serveZoneWrite zone raw s =
      if ¬ c.floorsOk s.engine.floors = true then refuse .outOfRange s
      else if s.audio.connections[z] ≠ .disconnected then refuse .alarmActive s
      else if c.kind ≠ .unused ∧ Config.ampRating < s.summedLoad z c then refuse .overload s
      else accept (bytes2 (s.summedLoad z c)) (s.writeZone z c) := by
  simp only [serveZoneWrite, index?_some_iff.2 hz, hc, Bool.not_eq_true', Bool.not_eq_true, Bool.and_eq_true,
    decide_eq_true_eq]

theorem exec_zoneWrite_badFloors (hz : zone.toNat = z.val) (hc : zoneConfig? raw = some c)
    (outside : ¬ c.floorsOk s.engine.floors = true) :
    exec (.zoneWrite zone raw) s = .next (s.answer 0x40 .outOfRange []) := by
  refine congrArg _ (State.takeRequest_refuse ?_)
  rw [serveZoneWrite_of_fields hz hc, State.linkValid_engine, if_pos outside]

theorem exec_zoneWrite_alarmActive (hz : zone.toNat = z.val) (hc : zoneConfig? raw = some c)
    (inside : c.floorsOk s.engine.floors = true) (busy : s.audio.connections[z] ≠ .disconnected) :
    exec (.zoneWrite zone raw) s = .next (s.answer 0x40 .alarmActive []) := by
  refine congrArg _ (State.takeRequest_refuse ?_)
  rw [serveZoneWrite_of_fields hz hc, State.linkValid_engine, if_neg (not_not.2 inside), State.linkValid_audio,
    if_pos busy]

theorem exec_zoneWrite_overload (hz : zone.toNat = z.val) (hc : zoneConfig? raw = some c)
    (inside : c.floorsOk s.engine.floors = true) (idle : s.audio.connections[z] = .disconnected)
    (used : c.kind ≠ .unused) (heavy : 480 < s.summedLoad z c) :
    exec (.zoneWrite zone raw) s = .next (s.answer 0x40 .overload []) := by
  refine congrArg _ (State.takeRequest_refuse ?_)
  rw [serveZoneWrite_of_fields hz hc, State.linkValid_engine, if_neg (not_not.2 inside), State.linkValid_audio,
    if_neg (not_not.2 idle), State.linkValid_summedLoad, if_pos ⟨used, heavy⟩]

theorem exec_zoneWrite_accepted (hz : zone.toNat = z.val) (hc : zoneConfig? raw = some c)
    (inside : c.floorsOk s.engine.floors = true) (idle : s.audio.connections[z] = .disconnected)
    (light : c.kind = .unused ∨ s.summedLoad z c ≤ 480) :
    exec (.zoneWrite zone raw) s =
      .next ((s.linkValid.writeZone z c).respond 0x40 .ok (bytes2 (s.summedLoad z c))) := by
  refine congrArg _ (State.takeRequest_accept ?_)
  rw [serveZoneWrite_of_fields hz hc, State.linkValid_engine, if_neg (not_not.2 inside), State.linkValid_audio,
    if_neg (not_not.2 idle), State.linkValid_summedLoad, if_neg]
  rintro ⟨used, heavy⟩
  exact light.elim used (not_le.2 heavy)

end Write

/-- Settles O40: the tests come in their order, and an accepted write is stored, resolved and told to the scanner, which
brings the zone's line into use, out of use, or leaves it. -/
theorem zoneWriteRule : Obligations.ZoneWriteRule := by
  unfold Obligations.ZoneWriteRule
  refine fun zone raw s => ⟨exec_zoneWrite_badFields, fun z c hz hc => ?_⟩
  rw [← State.summedLoad_eq]
  dsimp only
  rw [← ZoneConfig.floorsOk_iff]
  refine ⟨exec_zoneWrite_badFloors hz hc, exec_zoneWrite_alarmActive hz hc, exec_zoneWrite_overload hz hc,
    fun inside idle light => ⟨_, exec_zoneWrite_accepted hz hc inside idle light, ?configs, ?tests, rfl, ?resolved,
      ?engine, ?map, ?sessions, ?loops, ?now, ?pins, ?pending, ?last, ?others, ?intoUse, ?outOfUse, ?same⟩⟩
  case configs =>
    rw [State.respond_resolver, State.writeZone_eq, State.zoneWritten_resolver, State.storeZone_configs,
      State.linkValid_resolver]
  case tests => simp [State.writeZone]
  case resolved => exact State.writeZone_recordsResolved s.linkValid z c
  case engine | map | sessions | loops | now | pins | pending => simp [State.writeZone]
  all_goals rw [State.respond_scanner, ← s.linkValid_scanner]
  case last => exact (State.writeZone_others s.linkValid z c).1
  case others => exact (State.writeZone_others s.linkValid z c).2
  all_goals rw [← s.linkValid_resolver]
  case intoUse =>
    intro was used
    rw [State.writeZone_intoUse was used]
    exact Vector.getElem_set_self _
  case outOfUse =>
    intro was unused
    rw [State.writeZone_outOfUse was unused]
    exact ⟨Vector.getElem_set_self _, rfl⟩
  case same => exact State.writeZone_sameUse

end Sys2Proof.Machine
end

section
/-! SUPPORT. What resolution reads of the engine and the sessions, and why an event of the engine that the resolver is not
told of leaves every resolution as it was (R54, R83 to R94, R96). -/

namespace Sys2Proof.Machine

open Sys2Proof

/-! ### What resolution reads (R83, R94) -/

/-- A claim depends on the incident's floor, step count and state alone, not on its timers or its detectors. -/
theorem Incident.claim_congr {i j : Incident} (floor : j.floor = i.floor) (step : j.step = i.step)
    (name : j.stage.name = i.stage.name) (floors : Nat) (p : Profile) (z : ZoneConfig) :
    j.claim floors p z = i.claim floors p z := by
  by_cases unused : z.kind = .unused
  · rw [Incident.claim_unused unused, Incident.claim_unused unused]
  · by_cases general : i.stage.name = .general
    · rw [Incident.claim_general unused general, Incident.claim_general unused (name.trans general)]
    · by_cases phased : i.stage.name = .phased
      · cases known : i.floor with
        | none =>
          rw [Incident.claim_phased_unknown unused phased known,
            Incident.claim_phased_unknown unused (name.trans phased) (floor.trans known)]
        | some f =>
          rw [Incident.claim_phased_known unused phased known,
            Incident.claim_phased_known unused (name.trans phased) (floor.trans known), step]
      · rw [Incident.claim_silent phased general, Incident.claim_silent (name ▸ phased) (name ▸ general)]

/-- What resolution reads of an incident: its claim on each zone, and the profile that names its programs. -/
def Engine.outlook (e : Engine) (i : Incident) : (ZoneConfig → Rank) × Profile :=
  (i.claim e.floors e.profiles[i.profile], e.profiles[i.profile])

/-- Two engines in which resolution reads the same. -/
structure Engine.ClaimsAlike (e e' : Engine) : Prop where
  ages : e'.ages = e.ages
  saturated : e'.saturated = e.saturated
  generation : ∀ k : Fin 32, e'.slots[k].generation = e.slots[k].generation
  outlook : ∀ k : Fin 32, e'.slots[k].incident.map e'.outlook = e.slots[k].incident.map e.outlook
  program : e.saturated = true → e'.profiles[15] = e.profiles[15]

/-- Two pairs of sessions whose microphones speak in the same zones. -/
def Sessions.HeardAlike (x x' : Sessions) : Prop :=
  ∀ m : Mic, (x'.of m).map Session.zones = (x.of m).map Session.zones

theorem Engine.ClaimsAlike.refl (e : Engine) : e.ClaimsAlike e :=
  ⟨rfl, rfl, fun _ => rfl, fun _ => rfl, fun _ => rfl⟩

theorem Sessions.HeardAlike.refl (x : Sessions) : x.HeardAlike x :=
  fun _ => rfl

/-- The claims of the incidents are read off their outlooks. -/
theorem Engine.claims_eq (e : Engine) (z : ZoneConfig) :
    e.claims z = e.ages.filterMap fun k => (e.slots[k].incident.map e.outlook).bind fun o =>
      if o.1 z = .none then none else some { rank := o.1 z, origin := .incident k } := by
  unfold Engine.claims
  congr 1
  funext k
  cases e.slots[k].incident <;> rfl

theorem sessionClaim_congr {x x' : Option Session} (heard : x'.map Session.zones = x.map Session.zones) (m : Mic)
    (rank : Rank) (z : Fin 48) : sessionClaim x' m rank z = sessionClaim x m rank z := by
  cases x with
  | none =>
    rw [Option.map_eq_none_iff.1 heard]
  | some y =>
    obtain ⟨y', rfl, zones⟩ := Option.map_eq_some_iff.1 heard
    simp only [sessionClaim, zones]

theorem origin_of_mem_sessionClaim {x : Option Session} {m : Mic} {rank : Rank} {z : Fin 48} {c : Claim}
    (mem : c ∈ sessionClaim x m rank z) : c.origin = .mic m := by
  unfold sessionClaim at mem
  split at mem
  · split at mem
    · rw [List.mem_singleton.1 mem]
    · cases mem
  · cases mem

/-- The saturation flag claims only while it is set. -/
theorem saturated_of_mem_claims {e : Engine} {x : Sessions} {r : Resolver} {z : Fin 48} {c : Claim}
    (mem : c ∈ claims e x r z) (origin : c.origin = .saturation) : e.saturated = true := by
  unfold claims at mem
  split at mem
  · cases mem
  · simp only [List.mem_append, Engine.claims_eq, List.mem_filterMap, Option.bind_eq_some_iff] at mem
    rcases mem with (((⟨k, -, o, -, claimed⟩ | flag) | fire) | management) | test
    · split at claimed
      · cases claimed
      · cases claimed; cases origin
    · split at flag
      · assumption
      · cases flag
    · rw [origin_of_mem_sessionClaim fire] at origin; cases origin
    · rw [origin_of_mem_sessionClaim management] at origin; cases origin
    · split at test
      · rw [List.mem_singleton.1 test] at origin; cases origin
      · cases test

section Alike
variable {e e' : Engine} {x x' : Sessions} (alike : e.ClaimsAlike e') (heard : x.HeardAlike x') (r : Resolver)
  (z : Fin 48)
include alike

theorem Engine.ClaimsAlike.handle (k : Fin 32) : e'.handle k = e.handle k := by
  rw [Engine.handle, Engine.handle, alike.generation]

theorem recordOf_congr {c : Claim} (mem : c ∈ claims e x r z) : recordOf e' c = recordOf e c := by
  obtain ⟨rank, origin⟩ := c
  cases origin with
  | incident k =>
    have program (e : Engine) : (e.slots[k].incident.map fun i => profileProgram e.profiles[i.profile] rank) =
        (e.slots[k].incident.map e.outlook).map fun o => profileProgram o.2 rank := by
      rw [Option.map_map]; rfl
    simp only [recordOf, alike.handle, program, alike.outlook]
  | saturation => simp only [recordOf, alike.program (saturated_of_mem_claims mem rfl)]
  | mic m => cases m <;> rfl
  | test p => rfl

include heard

theorem claims_congr : claims e' x' r z = claims e x r z := by
  have fire := sessionClaim_congr (heard .fireService) .fireService .liveFire z
  have management := sessionClaim_congr (heard .management) .management .liveMgmt z
  simp only [Sessions.of] at fire management
  simp only [claims, Engine.claims_eq, alike.ages, alike.saturated, alike.outlook, fire, management]

theorem resolveZone_congr : resolveZone e' x' r z = resolveZone e x r z := by
  unfold resolveZone
  rw [claims_congr alike heard]
  dsimp only
  cases found : (claims e x r z).find? fun c => c.rank = topClaim (claims e x r z) with
  | none => rfl
  | some c => exact recordOf_congr alike r z (List.mem_of_find?_eq_some found)

end Alike

section Kept
variable {s t : State} (h : s.RecordsResolved) (resolver : t.resolver = s.resolver)
include h resolver

theorem State.RecordsResolved.of_alike (alike : s.engine.ClaimsAlike t.engine)
    (heard : s.sessions.HeardAlike t.sessions) : t.RecordsResolved := fun z => by
  rw [resolver, resolveZone_congr alike heard]
  exact h z

/-- The records stay resolved where resolution's inputs stay as they were. -/
theorem State.RecordsResolved.of_inputs (engine : t.engine = s.engine) (sessions : t.sessions = s.sessions) :
    t.RecordsResolved :=
  h.of_alike resolver (engine ▸ .refl _) (sessions ▸ .refl _)

end Kept

/-! ### Events of the engine that resolution does not see (R54) -/

/-- The fields of an incident that no event after its creation changes and that resolution reads. -/
def Incident.place (i : Incident) : Option Nat × Fin 16 :=
  (i.floor, i.profile)

/-- The engine after events that change no more of it than its incidents' stages, steps, times and detectors. -/
structure Engine.Follows (e e' : Engine) : Prop where
  ages : e'.ages = e.ages
  saturated : e'.saturated = e.saturated
  floors : e'.floors = e.floors
  profiles : e'.profiles = e.profiles
  generation : ∀ k : Fin 32, e'.slots[k].generation = e.slots[k].generation
  place : ∀ k : Fin 32, e'.slots[k].incident.map Incident.place = e.slots[k].incident.map Incident.place

theorem Engine.Follows.refl (e : Engine) : e.Follows e :=
  ⟨rfl, rfl, rfl, rfl, fun _ => rfl, fun _ => rfl⟩

theorem Engine.Follows.trans {e e' e'' : Engine} (f : e.Follows e') (g : e'.Follows e'') : e.Follows e'' where
  ages := g.ages.trans f.ages
  saturated := g.saturated.trans f.saturated
  floors := g.floors.trans f.floors
  profiles := g.profiles.trans f.profiles
  generation k := (g.generation k).trans (f.generation k)
  place k := (g.place k).trans (f.place k)

/-- Where no incident's state or step count has changed, its claims have not either. -/
theorem Engine.Follows.claimsAlike {e e' : Engine} (f : e.Follows e') (keys : ∀ k, e.slotKey k = e'.slotKey k) :
    e.ClaimsAlike e' where
  ages := f.ages
  saturated := f.saturated
  generation := f.generation
  program _ := by rw [f.profiles]
  outlook k := by
    have place := f.place k
    have key := keys k
    unfold Engine.slotKey at key
    cases old : e.slots[k].incident with
    | none =>
      rw [old] at place
      rw [Option.map_eq_none_iff.1 place]
      rfl
    | some i =>
      rw [old] at place key
      obtain ⟨j, new, placed⟩ := Option.map_eq_some_iff.1 place
      rw [new] at key ⊢
      obtain ⟨floor, profile⟩ := Prod.mk.inj placed
      obtain ⟨name, step⟩ := Prod.mk.inj (Option.some.inj key)
      simp only [Option.map_some, Engine.outlook, f.floors, f.profiles, profile]
      rw [funext (Incident.claim_congr floor step.symm name.symm _ _)]

theorem Engine.slotKey_eq_of_not_tells {e e' : Engine} (quiet : ¬ e.tells e' = true) (k : Fin 32) :
    e.slotKey k = e'.slotKey k := by
  by_contra ne
  refine quiet (Bool.or_eq_true_iff.2 (.inl (List.any_eq_true.2 ⟨k, List.mem_finRange k, ?_⟩)))
  exact decide_eq_true ne

theorem Engine.tells_of_slotKey_ne {e e' : Engine} {k : Fin 32} (ne : e.slotKey k ≠ e'.slotKey k) :
    e.tells e' = true := by
  by_contra quiet
  exact ne (Engine.slotKey_eq_of_not_tells quiet k)

/-- An event of the engine that the resolver is told of, or that follows what was, keeps the records resolved. -/
theorem State.RecordsResolved.engineEvent {s : State} (h : s.RecordsResolved) {e : Engine}
    (event : s.engine.tells e = true ∨ s.engine.Follows e) : (s.engineEvent e).RecordsResolved := by
  by_cases told : s.engine.tells e = true
  · exact State.engineEvent_recordsResolved told
  · have follows := event.resolve_left told
    rw [State.engineEvent, if_neg told]
    exact h.of_alike rfl (follows.claimsAlike (Engine.slotKey_eq_of_not_tells told)) (.refl _)

/-! ### The table (R36 to R43, R48) -/

theorem Engine.setSlot_slots (e : Engine) (k j : Fin 32) (x : Slot) :
    (e.setSlot k x).slots[j] = if j = k then x else e.slots[j] := by
  simp only [Engine.setSlot, Fin.getElem_fin, Vector.getElem_set, Fin.ext_iff, eq_comm]

theorem Engine.put_follows {e : Engine} {k : Fin 32} {old new : Incident} (now : Tick)
    (live : e.slots[k].incident = some old) (place : new.place = old.place) : e.Follows (e.put now k old new) := by
  unfold Engine.put
  split
  · exact .refl e
  · refine ⟨rfl, rfl, rfl, rfl, fun j => ?_, fun j => ?_⟩
    all_goals
      simp only [Engine.join, Engine.setSlot_slots]
      split
    · next same => rw [same]
    · rfl
    · next same => rw [same, live]; exact congrArg some place
    · rfl

theorem Engine.retire_tells {e : Engine} {k : Fin 32} {i : Incident} (live : e.slots[k].incident = some i) :
    e.tells (e.retire k) = true := by
  refine Engine.tells_of_slotKey_ne (k := k) ?_
  simp only [Engine.slotKey, Engine.retire, Engine.join, Engine.setSlot_slots, live, if_true]
  exact Option.some_ne_none _

theorem Engine.create_tells {e : Engine} {k : Fin 32} (free : e.slots[k].incident = none) (now : Tick) (a : Bool)
    (r : BoundReport) : e.tells (e.create now a r k) = true := by
  refine Engine.tells_of_slotKey_ne (k := k) ?_
  simp only [Engine.slotKey, Engine.create, Engine.join, Engine.setSlot_slots, free, if_true]
  exact (Option.some_ne_none _).symm

theorem Engine.incident_of_freeSlot {e : Engine} {k : Fin 32} (found : e.freeSlot = some k) :
    e.slots[k].incident = none := by
  unfold Engine.freeSlot at found
  have free := List.find?_some found
  exact Option.isNone_iff_eq_none.1 free

/-! ### The stage machine keeps an incident's place (R43, R60 to R72) -/

section Place
variable (floors : Nat) (p : Profile) (i : Incident) (r : BoundReport)

@[simp] theorem Incident.enterPhased_place : (i.enterPhased floors p).place = i.place := rfl

@[simp] theorem Incident.takeStep_place : (i.takeStep floors p).place = i.place := rfl

@[simp] theorem Incident.account_place (now : Tick) : (i.account now r).place = i.place := by
  unfold Incident.account
  split
  · rfl
  · split <;> rfl

@[simp] theorem Incident.entryTest_place (a : Bool) : (i.entryTest floors p a r).place = i.place := by
  unfold Incident.entryTest
  split
  · rfl
  · cases i.rule with
    | single => rfl
    | coincident => dsimp only; split <;> rfl
    | delayed => dsimp only; split_ifs <;> rfl

@[simp] theorem Incident.investigationReport_place (wasClear : Bool) (timer : Nat) :
    (i.investigationReport floors p r wasClear timer).place = i.place := by
  unfold Incident.investigationReport
  split_ifs <;> rfl

@[simp] theorem Incident.stageReport_place (a wasClear : Bool) :
    (i.stageReport floors p a r wasClear).place = i.place := by
  unfold Incident.stageReport
  split
  · exact Incident.entryTest_place ..
  · split <;> rfl
  · exact Incident.investigationReport_place ..
  all_goals rfl

@[simp] theorem Incident.acknowledge_place : (i.acknowledge floors p).place = i.place := by
  unfold Incident.acknowledge
  dsimp only
  split
  · split <;> rfl
  · rfl

end Place

/-! ### Bound reports and the mode change (R41 to R43, R75) -/

theorem Engine.applyReport_event {e : Engine} {k : Fin 32} {i : Incident} (live : e.slots[k].incident = some i)
    (now : Tick) (a : Bool) (r : BoundReport) :
    e.tells (e.applyReport now a r k i) = true ∨ e.Follows (e.applyReport now a r k i) := by
  unfold Engine.applyReport
  dsimp only
  split
  · exact .inl (Engine.retire_tells live)
  · exact .inr (Engine.put_follows now live (by simp))

theorem Engine.takeReport_event (e : Engine) (now : Tick) (a : Bool) (r : BoundReport) :
    e.tells (e.takeReport now a r) = true ∨ e.Follows (e.takeReport now a r) := by
  unfold Engine.takeReport
  split
  · split
    · next live => exact Engine.applyReport_event live now a r
    · exact .inr (.refl e)
  · split
    · exact .inr (.refl e)
    · next found _ =>
      exact .inl (Engine.create_tells (Engine.incident_of_freeSlot found) now a r)
    · cases flag : e.saturated with
      | false => exact .inl (Engine.tells_of_saturated_ne (by simp [flag]))
      | true => exact .inr ⟨rfl, flag.symm, rfl, rfl, fun _ => rfl, fun _ => rfl⟩
    · exact .inr (.refl e)

theorem Engine.autonomousEntry_follows (e : Engine) (now : Tick) : e.Follows (e.autonomousEntry now) := by
  unfold Engine.autonomousEntry
  refine List.foldlRecOn e.ages _ (.refl e) fun e' follows k _ => ?_
  split
  · next live =>
    split
    · exact follows.trans (Engine.put_follows now live rfl)
    · exact follows
  · exact follows

section Reports
variable {s : State} (h : s.RecordsResolved)
include h

theorem State.RecordsResolved.changeIncident {k : Fin 32} {old new : Incident}
    (live : s.engine.slots[k].incident = some old) (place : new.place = old.place) :
    (s.changeIncident k old new).RecordsResolved :=
  h.engineEvent (.inr (Engine.put_follows s.now live place))

theorem State.RecordsResolved.boundReport (r : BoundReport) : (s.boundReport r).RecordsResolved := by
  have event := s.engine.takeReport_event s.now s.autonomous r
  unfold State.boundReport
  dsimp only
  split
  · have raised : (s.setNotices s.notices.raiseSaturation).RecordsResolved := h.of_inputs rfl rfl rfl
    exact raised.engineEvent event
  · exact h.engineEvent event

theorem State.RecordsResolved.boundReports (rs : List BoundReport) : (s.boundReports rs).RecordsResolved :=
  List.foldlRecOn rs _ h fun _ kept r _ => kept.boundReport r

theorem State.RecordsResolved.onMap (f : CauseMap → CauseMap) : (s.onMap f).RecordsResolved :=
  h.of_inputs rfl rfl rfl

theorem State.RecordsResolved.resolveMisses (p : Miss → Bool) (b : Binding) :
    (s.resolveMisses p b).RecordsResolved :=
  (h.onMap _).boundReports _

end Reports

end Sys2Proof.Machine
end

section
/-! SUPPORT. Every step keeps each zone's record the resolution of the zone (R96): the reset, the tick, the events of the
blocks, and the requests block by block. -/

namespace Sys2Proof.Machine

open Sys2Proof

/-! ### Reset and tick (00, Time; R95) -/

theorem resolveZone_unused {e : Engine} {x : Sessions} {r : Resolver} {z : Fin 48}
    (unused : r.configs[z].kind = .unused) : resolveZone e x r z = ZoneRecord.empty := by
  have unclaimed : claims e x r z = [] := if_pos unused
  rw [resolveZone, unclaimed]
  rfl

theorem State.reset_recordsResolved : State.reset.RecordsResolved := fun z => by
  have record : State.reset.resolver.records[z] = ZoneRecord.empty := Vector.getElem_replicate _
  have config : State.reset.resolver.configs[z] = ZoneConfig.reset := Vector.getElem_replicate _
  rw [record, resolveZone_unused (by rw [config]; rfl)]

theorem Incident.tick_place (i : Incident) : i.tick.place = i.place := by
  unfold Incident.tick
  split
  · split <;> rfl
  all_goals rfl

/-- A tick moves an incident's timer, and neither its state nor its step count. -/
theorem Incident.tick_key (i : Incident) : (i.tick.stage.name, i.tick.step) = (i.stage.name, i.step) := by
  unfold Incident.tick
  split
  · next stage => split <;> simp only [stage, Stage.name]
  · next stage => simp only [stage, Stage.name]
  · rfl

theorem Engine.tick_incident (e : Engine) (k : Fin 32) :
    e.tick.slots[k].incident = e.slots[k].incident.map Incident.tick := by
  simp [Engine.tick]

theorem Engine.tick_generation (e : Engine) (k : Fin 32) :
    e.tick.slots[k].generation = e.slots[k].generation := by
  simp [Engine.tick]

theorem Engine.tick_follows (e : Engine) : e.Follows e.tick where
  ages := by rw [Engine.tick]
  saturated := by rw [Engine.tick]
  floors := by rw [Engine.tick]
  profiles := by rw [Engine.tick]
  generation := e.tick_generation
  place k := by
    have same : Incident.place ∘ Incident.tick = Incident.place := funext Incident.tick_place
    rw [Engine.tick_incident, Option.map_map, same]

theorem Engine.tick_claimsAlike (e : Engine) : e.ClaimsAlike e.tick :=
  e.tick_follows.claimsAlike fun k => by
    rw [Engine.slotKey, Engine.slotKey, Engine.tick_incident, Option.map_map]
    exact congrArg (Option.map · _) (funext fun i => (Incident.tick_key i).symm)

theorem Sessions.tick_heardAlike (x : Sessions) : x.HeardAlike x.tick
  | .fireService => Option.map_map ..
  | .management => Option.map_map ..

theorem State.RecordsResolved.tick {s : State} (h : s.RecordsResolved) : s.tick.RecordsResolved :=
  h.of_alike rfl s.engine.tick_claimsAlike s.sessions.tick_heardAlike

/-! ### Updates that resolution does not see -/

section Updates
variable {s : State} (h : s.RecordsResolved)
include h

theorem State.RecordsResolved.setPending (x : List Instr) : (s.setPending x).RecordsResolved :=
  h.of_inputs rfl rfl rfl

theorem State.RecordsResolved.setLink (x : Link) : (s.setLink x).RecordsResolved :=
  h.of_inputs rfl rfl rfl

theorem State.RecordsResolved.setNotices (x : Notices) : (s.setNotices x).RecordsResolved :=
  h.of_inputs rfl rfl rfl

theorem State.RecordsResolved.setScanner (x : Scanner) : (s.setScanner x).RecordsResolved :=
  h.of_inputs rfl rfl rfl

theorem State.RecordsResolved.setLoop (l : Fin 4) (r : Receiver) : (s.setLoop l r).RecordsResolved :=
  h.of_inputs rfl rfl rfl

theorem State.RecordsResolved.onAudio (f : Audio → Audio) : (s.onAudio f).RecordsResolved :=
  h.of_inputs rfl rfl rfl

theorem State.RecordsResolved.onDesk (f : View → Desk → Desk) : (s.onDesk f).RecordsResolved :=
  h.of_inputs rfl rfl rfl

theorem State.RecordsResolved.emptyNotices : s.emptyNotices.RecordsResolved :=
  h.of_alike rfl ⟨rfl, rfl, fun _ => rfl, fun _ => rfl, fun _ => rfl⟩ (.refl _)

/-! ### Receivers and takes (01, 02) -/

theorem State.RecordsResolved.validReport (l : Fin 4) (address : Byte) (kind : ReportKind) (value : Byte) :
    (s.validReport l address kind value).RecordsResolved := by
  unfold State.validReport
  dsimp only
  have heard : (if s.loops[l].state = .silent then
      (s.setLoop l s.loops[l].heard).setNotices ((s.setLoop l s.loops[l].heard).notices.raiseLoopFault l)
      else s.setLoop l s.loops[l].heard).RecordsResolved := by
    split
    · exact (h.setLoop _ _).setNotices _
    · exact h.setLoop _ _
  cases kind with
  | buffered k => exact heard.setLoop _ _
  | trouble k => exact heard.setNotices _
  | cycleEnd => exact heard.setLoop _ _

theorem State.RecordsResolved.completeReport (l : Fin 4) (address kind value check : Byte) :
    (s.completeReport l address kind value check).RecordsResolved := by
  unfold State.completeReport
  split
  · exact h.setLoop _ _
  · exact h.setLoop _ _
  · exact h.validReport _ _ _ _

theorem State.RecordsResolved.placeCharacter (l : Fin 4) (data : Byte) (mark : Bool) :
    (s.placeCharacter l data mark).RecordsResolved := by
  unfold State.placeCharacter
  dsimp only
  split
  case h_4 => exact (h.setLoop _ _).completeReport _ _ _ _ _
  all_goals exact h.setLoop _ _

theorem State.RecordsResolved.endCharacter (l : Fin 4) (outcome : CharOutcome) :
    (s.endCharacter l outcome).RecordsResolved := by
  cases outcome with
  | glitch => exact h
  | framingError => exact h.setLoop _ _
  | character data mark noisy =>
    cases noisy with
    | false => exact h.placeCharacter _ _ _
    | true => exact (h.setLoop _ _).placeCharacter _ _ _

theorem State.RecordsResolved.newMiss (r : Report) : (s.newMiss r).RecordsResolved := by
  unfold State.newMiss
  dsimp only
  split
  · exact (h.setNotices _).onMap _
  · exact (h.setNotices _).boundReport _

theorem State.RecordsResolved.lookupReport (r : Report) : (s.lookupReport r).RecordsResolved := by
  unfold State.lookupReport
  split
  · exact h.onMap _
  · split
    · exact h.boundReport _
    · split
      · exact h.boundReport _
      · exact h.newMiss r

theorem State.RecordsResolved.takeFrom (moment : Nat) (l : Fin 4) : (s.takeFrom moment l).RecordsResolved := by
  unfold State.takeFrom
  split
  · exact h
  · next rest _ =>
    have left : (s.setLoop l { s.loops[l] with buffer := rest }).RecordsResolved := h.setLoop _ _
    exact (left.onMap _).lookupReport _

theorem State.RecordsResolved.enterAutonomous : s.enterAutonomous.RecordsResolved :=
  ((h.setLink _).resolveMisses _ _).engineEvent (.inr (Engine.autonomousEntry_follows _ _))

/-! ### Lines and players (08, 09) -/

theorem State.RecordsResolved.takeReading (n : Fin 48) (c : LineClass) : (s.takeReading n c).RecordsResolved :=
  h.of_inputs (State.takeReading_resolver ..) (State.takeReading_engine ..) (State.takeReading_sessions ..)

theorem State.RecordsResolved.afterVisit : s.afterVisit.RecordsResolved :=
  h.of_inputs (State.afterVisit_resolver _) (State.afterVisit_engine _) (State.afterVisit_sessions _)

theorem State.RecordsResolved.lineChanged (n : Fin 48) (old : LineState) : (s.lineChanged n old).RecordsResolved :=
  h.of_inputs (State.lineChanged_resolver ..) (State.lineChanged_engine ..) (State.lineChanged_sessions ..)

theorem State.RecordsResolved.endTaken (p : Fin 16) : (s.endTaken p).RecordsResolved := by
  unfold State.endTaken
  dsimp only
  split
  · exact State.inputChange_recordsResolved _
  · exact h

theorem State.RecordsResolved.testEnd (k : Fin 6) (p : Fin 16) : (s.testEnd k p).RecordsResolved := by
  have ended := (h.onAudio fun a => a.endHold k).endTaken p
  unfold State.testEnd
  dsimp only
  split
  · exact ended.onDesk _
  · exact ended

theorem State.RecordsResolved.repetitionOver (k : Fin 6) (w : Walk) : (s.repetitionOver k w).RecordsResolved := by
  unfold State.repetitionOver
  split
  · exact h.onDesk _
  · split
    · exact h.onDesk _
    · exact h.onDesk _
    · split
      · exact h.testEnd _ _
      · exact h.onDesk _

end Updates

/-! ### Requests -/

/-- The request keeps the records resolved. -/
def KeepsResolved (serve : State → Served) : Prop :=
  ∀ s : State, s.RecordsResolved → (serve s).state.RecordsResolved

@[simp] theorem accept_state (p : List Byte) (s : State) : (accept p s).state = s := rfl

/-- A request that ends in an input change leaves every record resolved. -/
theorem accept_inputChange_recordsResolved (p : List Byte) (s : State) :
    (accept p s.inputChange).state.RecordsResolved := by
  rw [accept_state]
  exact s.inputChange_recordsResolved

/-! #### Link and receivers -/

theorem State.setRecords_recordsResolved (s : State) : (s.setRecords s.resolved).RecordsResolved := fun z => by
  have resolved : s.resolved[z] = resolveZone s.engine s.sessions s.resolver z := Vector.getElem_ofFn z.isLt
  rw [State.setRecords_engine, State.setRecords_sessions]
  exact resolved.trans (resolveZone_records ..).symm

theorem State.restart_recordsResolved (s : State) : s.restart.RecordsResolved :=
  ((State.setRecords_recordsResolved _).onDesk _).emptyNotices

theorem keepsResolved_restart : KeepsResolved serveRestart := fun s h => by
  unfold serveRestart
  split
  · exact h
  · exact s.restart_recordsResolved

theorem keepsResolved_loopConfig (loop enable timeout : Byte) :
    KeepsResolved (serveLoopConfig loop enable timeout) := fun s h => by
  unfold serveLoopConfig
  split
  · exact h.setLoop _ _
  · exact h

theorem keepsResolved_loopStatus (loop clear : Byte) : KeepsResolved (serveLoopStatus loop clear) := fun s h => by
  unfold serveLoopStatus
  split
  · next l c _ _ =>
    cases c with
    | false => exact h
    | true => exact h.setLoop _ _
  · exact h

/-! #### Cause map -/

theorem keepsResolved_writeEntry (raw : RawEntry) (place : Bool) (index : State → Option (Fin 96)) :
    KeepsResolved fun s => s.writeEntry (index s) raw place := fun s h => by
  dsimp only
  unfold State.writeEntry
  split
  · split
    · exact h
    · split
      · exact h
      · exact (h.onMap _).resolveMisses _ _
  · exact h

theorem keepsResolved_mapRead (index : Byte) : KeepsResolved (serveMapRead index) := fun s h => by
  unfold serveMapRead
  split <;> exact h

theorem keepsResolved_mapProbe (loop address : Byte) : KeepsResolved (serveMapProbe loop address) := fun s h => by
  unfold serveMapProbe
  split <;> exact h

theorem keepsResolved_mapRemove (index : Byte) : KeepsResolved (serveMapRemove index) := fun s h => by
  unfold serveMapRemove
  split
  · exact h.onMap _
  · exact h

theorem keepsResolved_mapSetWired (count : Byte) : KeepsResolved (serveMapSetWired count) := fun s h => by
  unfold serveMapSetWired
  split
  · exact h.onMap _
  · exact h

theorem keepsResolved_mapSetDefault (cls rule deadline : Byte) :
    KeepsResolved (serveMapSetDefault cls rule deadline) := fun s h => by
  unfold serveMapSetDefault
  split
  · exact h.onMap _
  · exact h

theorem keepsResolved_missDefault (loop address : Byte) : KeepsResolved (serveMissDefault loop address) :=
  fun s h => by
  unfold serveMissDefault
  split
  · split
    · exact h.resolveMisses _ _
    · exact h
  · exact h

/-! #### Incidents -/

/-- A command under the handle check keeps the records resolved where it does so on the live incident named. -/
theorem State.RecordsResolved.withHandle {s : State} (h : s.RecordsResolved) (handle : BitVec 16)
    {f : Fin 32 → Incident → Served}
    (named : ∀ k i, s.engine.slots[k].incident = some i → (f k i).state.RecordsResolved) :
    (s.withHandle handle f).state.RecordsResolved := by
  unfold State.withHandle
  split
  · exact h
  · dsimp only
    split
    · next live =>
      split
      · exact named _ _ live
      · exact h
    · exact h

theorem keepsResolved_incidentRead (handle : BitVec 16) : KeepsResolved (serveIncidentRead handle) :=
  fun _ h => h.withHandle handle fun _ _ _ => h

theorem keepsResolved_incidentAck (handle : BitVec 16) : KeepsResolved (serveIncidentAck handle) :=
  fun _ h => h.withHandle handle fun _ _ live => h.changeIncident live (Incident.acknowledge_place ..)

theorem keepsResolved_incidentSilence (handle : BitVec 16) : KeepsResolved (serveIncidentSilence handle) :=
  fun _ h => h.withHandle handle fun _ i live => by
    cases i.stage with
    | phased t => exact h.changeIncident live rfl
    | general => exact h.changeIncident live rfl
    | _ => exact h

theorem keepsResolved_incidentResound (handle : BitVec 16) : KeepsResolved (serveIncidentResound handle) :=
  fun _ h => h.withHandle handle fun _ i live => by
    cases i.stage with
    | silencedPhased t => exact h.changeIncident live rfl
    | silencedGeneral => exact h.changeIncident live rfl
    | _ => exact h

theorem keepsResolved_incidentGeneral (handle : BitVec 16) : KeepsResolved (serveIncidentGeneral handle) :=
  fun _ h => h.withHandle handle fun _ i live => by
    cases i.stage with
    | general => exact h
    | _ => exact h.changeIncident live rfl

theorem keepsResolved_incidentReset (handle : BitVec 16) (force : Byte) :
    KeepsResolved (serveIncidentReset handle force) :=
  fun _ h => h.withHandle handle fun _ _ live => by
    split
    · exact h
    · split
      · exact h.engineEvent (.inl (Engine.retire_tells live))
      · exact h

theorem keepsResolved_saturationClear : KeepsResolved serveSaturationClear := fun s h => by
  refine h.engineEvent ?_
  cases flag : s.engine.saturated with
  | true => exact .inl (Engine.tells_of_saturated_ne (by simp [flag]))
  | false => exact .inr ⟨rfl, flag.symm, rfl, rfl, fun _ => rfl, fun _ => rfl⟩

/-- A profile that neither a live incident nor the saturation flag uses is not read by resolution. -/
theorem Engine.setProfile_claimsAlike {e : Engine} {n : Fin 16} (unused : ¬ e.profileUsed n = true)
    (flag : n = 15 → e.saturated = false) (p : Profile) :
    e.ClaimsAlike { e with profiles := e.profiles.set n p } where
  ages := rfl
  saturated := rfl
  generation _ := rfl
  outlook k := by
    refine Option.map_congr fun i held => ?_
    have other : n.val ≠ i.profile.val := fun same =>
      unused (Engine.profileUsed_iff.2 ⟨k, i, held, Fin.ext same.symm⟩)
    simp only [Engine.outlook, Fin.getElem_fin, Vector.getElem_set_ne _ _ other]
  program saturated := by
    have other : n.val ≠ 15 := fun same => by
      rw [flag (Fin.ext same)] at saturated; cases saturated
    exact Vector.getElem_set_ne n.isLt (by decide) other

theorem keepsResolved_profileWrite (number : Byte) (raw : RawProfile) :
    KeepsResolved (serveProfileWrite number raw) := fun s h => by
  unfold serveProfileWrite
  split
  · split
    · exact h
    · next free =>
      rw [Bool.or_eq_true, not_or, Bool.and_eq_true, not_and, decide_eq_true_eq] at free
      obtain ⟨unused, flag⟩ := free
      have clear : _ → s.engine.saturated = false := fun last => Bool.eq_false_iff.2 (flag last)
      exact h.of_alike rfl (Engine.setProfile_claimsAlike unused clear _) (.refl _)
  · exact h

theorem keepsResolved_profileRead (number : Byte) : KeepsResolved (serveProfileRead number) := fun s h => by
  unfold serveProfileRead
  split <;> exact h

/-- Without a live incident the floor count is not read by resolution. -/
theorem Engine.setFloors_claimsAlike {e : Engine} (quiet : ¬ e.live = true) (floors : Nat) :
    e.ClaimsAlike { e with floors := floors } where
  ages := rfl
  saturated := rfl
  generation _ := rfl
  outlook k := Option.map_congr fun i held =>
    absurd (Engine.live_iff.2 ⟨k, by rw [held]; exact Option.some_ne_none i⟩) quiet
  program _ := rfl

theorem keepsResolved_buildingSet (floors : Byte) : KeepsResolved (serveBuildingSet floors) := fun s h => by
  unfold serveBuildingSet
  split
  · exact h
  · split
    · exact h
    · next quiet =>
      split
      · exact h
      · exact h.of_alike rfl (Engine.setFloors_claimsAlike quiet _) (.refl _)

/-! #### Zones and sessions -/

theorem keepsResolved_zoneWrite (zone : Byte) (raw : RawZone) : KeepsResolved (serveZoneWrite zone raw) :=
  fun s h => by
  unfold serveZoneWrite
  split
  · split_ifs
    · exact h
    · exact h
    · exact h
    · exact State.writeZone_recordsResolved _ _ _
  · exact h

theorem keepsResolved_zoneRead (zone : Byte) : KeepsResolved (serveZoneRead zone) := fun s h => by
  unfold serveZoneRead
  split <;> exact h

theorem keepsResolved_zoneStatus (zone : Byte) : KeepsResolved (serveZoneStatus zone) := fun s h => by
  unfold serveZoneStatus
  split <;> exact h

theorem keepsResolved_zoneTestStart (program : Byte) (zones : ZoneList) :
    KeepsResolved (serveZoneTestStart program zones) := fun s h => by
  unfold serveZoneTestStart
  split
  · split
    · exact h
    · exact accept_inputChange_recordsResolved _ _
  · exact h

theorem keepsResolved_zoneTestStop (zones : ZoneList) : KeepsResolved (serveZoneTestStop zones) := fun s h => by
  unfold serveZoneTestStop
  split
  · dsimp only
    split
    · exact h
    · exact accept_inputChange_recordsResolved _ _
  · exact h

theorem keepsResolved_micOpen (mic : Byte) (limit : BitVec 16) (zones : ZoneList) :
    KeepsResolved (serveMicOpen mic limit zones) := fun s h => by
  unfold serveMicOpen
  split
  · split
    · exact h
    · exact accept_inputChange_recordsResolved _ _
  · exact h

/-- A session whose talk timer is loaded again speaks in the zones it spoke in. -/
theorem Sessions.put_load_heardAlike {x : Sessions} {m : Mic} {y : Session} (opened : x.of m = some y) :
    x.HeardAlike (x.put m (some y.load)) := fun m' => by
  by_cases same : m' = m
  · rw [same, opened]
    cases m <;> rfl
  · cases m with
    | fireService =>
      cases m' with
      | fireService => exact absurd rfl same
      | management => rfl
    | management =>
      cases m' with
      | fireService => rfl
      | management => exact absurd rfl same

theorem keepsResolved_micRefresh (mic : Byte) : KeepsResolved (serveMicRefresh mic) := fun s h => by
  unfold serveMicRefresh
  split
  · exact h
  · split
    · exact h
    · next opened => exact h.of_alike rfl (.refl _) (Sessions.put_load_heardAlike opened)

theorem keepsResolved_micClose (mic : Byte) : KeepsResolved (serveMicClose mic) := fun s h => by
  unfold serveMicClose
  split
  · exact h
  · split
    · exact h
    · exact accept_inputChange_recordsResolved _ _

theorem keepsResolved_micStatus (mic : Byte) : KeepsResolved (serveMicStatus mic) := fun s h => by
  unfold serveMicStatus
  split <;> exact h

/-! #### The audio side and lines -/

theorem keepsResolved_ampRestore (amp : Byte) : KeepsResolved (serveAmpRestore amp) := fun s h => by
  unfold serveAmpRestore
  split
  · exact h
  · split
    · exact h
    · split
      · dsimp only
        rw [accept_state]
        exact h.onDesk _
      · exact h

theorem keepsResolved_segmentWrite (index : Byte) (raw : RawSegment) :
    KeepsResolved (serveSegmentWrite index raw) := fun s h => by
  unfold serveSegmentWrite
  split
  · split
    · exact h.onAudio _
    · exact h
  · exact h

theorem keepsResolved_segmentRead (index : Byte) : KeepsResolved (serveSegmentRead index) := fun s h => by
  unfold serveSegmentRead
  split <;> exact h

theorem keepsResolved_programSet (program head : Byte) : KeepsResolved (serveProgramSet program head) :=
  fun s h => by
  unfold serveProgramSet
  split
  · exact h.onDesk _
  · exact h

theorem keepsResolved_programRead (program : Byte) : KeepsResolved (serveProgramRead program) := fun s h => by
  unfold serveProgramRead
  split <;> exact h

theorem keepsResolved_storeSet (size : BitVec 24) : KeepsResolved (serveStoreSet size) := fun s h => by
  unfold serveStoreSet
  split
  · exact h.onAudio _
  · exact h

theorem keepsResolved_lineReconnect (line : Byte) : KeepsResolved (serveLineReconnect line) := fun s h => by
  unfold serveLineReconnect
  split
  · exact h
  · dsimp only
    split
    · exact (h.setScanner _).lineChanged _ _
    · exact h

theorem keepsResolved_lineStatus (line : Byte) : KeepsResolved (serveLineStatus line) := fun s h => by
  unfold serveLineStatus
  split <;> exact h

/-! #### Every request -/

theorem keepsResolved_serveRequest (c : Instr) : KeepsResolved (serveRequest c) := by
  cases c with
  | noticeRead => exact fun _ h => h.emptyNotices
  | restart => exact keepsResolved_restart
  | loopConfig => exact keepsResolved_loopConfig _ _ _
  | loopStatus => exact keepsResolved_loopStatus _ _
  | mapWrite index entry => exact keepsResolved_writeEntry entry false fun _ => index? 96 index.toNat
  | mapPlace entry => exact keepsResolved_writeEntry entry true fun s => some s.map.cursor
  | mapRead => exact keepsResolved_mapRead _
  | mapProbe => exact keepsResolved_mapProbe _ _
  | mapRemove => exact keepsResolved_mapRemove _
  | mapSetWired => exact keepsResolved_mapSetWired _
  | mapSetDefault => exact keepsResolved_mapSetDefault _ _ _
  | missDefault => exact keepsResolved_missDefault _ _
  | incidentRead => exact keepsResolved_incidentRead _
  | incidentAck => exact keepsResolved_incidentAck _
  | incidentSilence => exact keepsResolved_incidentSilence _
  | incidentResound => exact keepsResolved_incidentResound _
  | incidentGeneral => exact keepsResolved_incidentGeneral _
  | incidentReset => exact keepsResolved_incidentReset _ _
  | saturationClear => exact keepsResolved_saturationClear
  | profileWrite => exact keepsResolved_profileWrite _ _
  | profileRead => exact keepsResolved_profileRead _
  | buildingSet => exact keepsResolved_buildingSet _
  | zoneWrite => exact keepsResolved_zoneWrite _ _
  | zoneRead => exact keepsResolved_zoneRead _
  | zoneStatus => exact keepsResolved_zoneStatus _
  | zoneTestStart => exact keepsResolved_zoneTestStart _ _
  | zoneTestStop => exact keepsResolved_zoneTestStop _
  | micOpen => exact keepsResolved_micOpen _ _ _
  | micRefresh => exact keepsResolved_micRefresh _
  | micClose => exact keepsResolved_micClose _
  | micStatus => exact keepsResolved_micStatus _
  | ampRestore => exact keepsResolved_ampRestore _
  | segmentWrite => exact keepsResolved_segmentWrite _ _
  | segmentRead => exact keepsResolved_segmentRead _
  | programSet => exact keepsResolved_programSet _ _
  | programRead => exact keepsResolved_programRead _
  | storeSet => exact keepsResolved_storeSet _
  | lineReconnect => exact keepsResolved_lineReconnect _
  | lineStatus => exact keepsResolved_lineStatus _
  | _ => exact fun _ h => h

/-- The taking of a request that keeps the records resolved. -/
theorem KeepsResolved.takeRequest {serve : State → Served} (keeps : KeepsResolved serve) {s : State}
    (h : s.RecordsResolved) (code : Byte) : (s.takeRequest code serve).RecordsResolved := by
  have linked : s.linkValid.RecordsResolved :=
    h.of_inputs (State.linkValid_resolver s) (State.linkValid_engine s) (State.linkValid_sessions s)
  exact (keeps _ linked).setLink _

/-- A command that bytes spell is the taking of its request. -/
theorem exec_of_requestBytes {c : Instr} {code : Byte} {payload : List Byte}
    (spelt : requestBytes c = some (code, payload)) (s : State) :
    exec c s = .next (s.takeRequest code (serveRequest c)) := by
  cases c <;> cases spelt <;> rfl

theorem State.RecordsResolved.judgeFrame {s : State} (h : s.RecordsResolved) (f : Frame) :
    (s.judgeFrame f).RecordsResolved := by
  cases f with
  | poll => exact h
  | failed code => exact h.setLink _
  | valid code payload =>
    refine KeepsResolved.takeRequest ?_ h code
    unfold serveFrame
    split
    · exact fun _ h => h
    · exact fun _ h => h
    · exact keepsResolved_serveRequest _

/-! ### Events -/

/-- The outcome leaves the records resolved. -/
def LeavesResolved (o : Host.Outcome State Fault Refusal) : Prop :=
  ∀ t, o = .next t → t.RecordsResolved

theorem State.RecordsResolved.next {s : State} (h : s.RecordsResolved) : LeavesResolved (.next s) := by
  rintro _ ⟨⟩
  exact h

theorem leavesResolved_powerOnReset (s : State) : LeavesResolved (execPowerOnReset s) :=
  State.RecordsResolved.next (State.reset_recordsResolved.of_inputs rfl rfl rfl)

section Events
variable {s : State} (h : s.RecordsResolved)
include h

theorem leavesResolved_loopCharacter (l : Fin 4) (c : LineChar) : LeavesResolved (execLoopCharacter l c s) := by
  unfold execLoopCharacter
  split
  · exact h.next
  · exact (h.endCharacter _ _).next

theorem leavesResolved_loopLineReads1 (l : Fin 4) : LeavesResolved (execLoopLineReads1 l s) := by
  unfold execLoopLineReads1
  split
  · exact h.next
  · exact (h.setLoop _ _).next

theorem leavesResolved_silenceTimerExpiry (l : Fin 4) : LeavesResolved (execSilenceTimerExpiry l s) := by
  unfold execSilenceTimerExpiry
  dsimp only
  split
  · exact ((h.setLoop _ _).setNotices _).next
  · exact h.next

theorem leavesResolved_reportTake (moment : Nat) : LeavesResolved (execReportTake moment s) := by
  unfold execReportTake
  split
  · exact (h.takeFrom _ _).next
  · exact h.next

theorem leavesResolved_investigationTimerExpiry (k : Fin 32) :
    LeavesResolved (execInvestigationTimerExpiry k s) := by
  unfold execInvestigationTimerExpiry
  split
  · next live =>
    split
    · split
      · exact h.next
      · exact (h.changeIncident live (Incident.enterPhased_place ..)).next
    · exact h.next
  · exact h.next

theorem leavesResolved_stepTimerExpiry (k : Fin 32) : LeavesResolved (execStepTimerExpiry k s) := by
  unfold execStepTimerExpiry
  split
  · next live =>
    split
    · exact (h.changeIncident live (Incident.takeStep_place ..)).next
    · exact h.next
  · exact h.next

theorem leavesResolved_repetitionEnd (k : Fin 6) : LeavesResolved (execRepetitionEnd k s) := by
  unfold execRepetitionEnd
  split
  · split
    · exact (h.repetitionOver _ _).next
    · exact h.next
  · exact h.next

theorem leavesResolved_switchingLoad : LeavesResolved (execSwitchingLoad s) := by
  unfold execSwitchingLoad
  split
  · exact (h.onAudio _).next
  · exact h.next

theorem leavesResolved_visitStart : LeavesResolved (execVisitStart s) := by
  unfold execVisitStart
  split
  · exact ((h.setScanner _).onAudio _).next
  · exact h.next

theorem leavesResolved_visitEnd (cls1 cls0 : Bool) : LeavesResolved (execVisitEnd cls1 cls0 s) := by
  unfold execVisitEnd
  split
  · exact h.next
  · refine State.RecordsResolved.next (State.RecordsResolved.afterVisit ?_)
    split
    · exact h.setScanner _
    · exact (h.setScanner _).takeReading _ _

theorem leavesResolved_talkTimerExpiry (m : Mic) : LeavesResolved (execTalkTimerExpiry m s) := by
  unfold execTalkTimerExpiry
  split
  · split
    · exact (State.inputChange_recordsResolved _).next
    · exact h.next
  · exact h.next

theorem leavesResolved_supervisionTimerExpiry : LeavesResolved (execSupervisionTimerExpiry s) := by
  unfold execSupervisionTimerExpiry
  split
  · exact h.enterAutonomous.next
  · exact h.next

theorem leavesResolved_transactionStart (moment : Nat) : LeavesResolved (execTransactionStart moment s) := by
  unfold execTransactionStart
  split
  · exact (h.setLink _).next
  · exact h.next

theorem leavesResolved_transactionEnd (moment : Nat) (bits : List Bool) :
    LeavesResolved (execTransactionEnd moment bits s) := by
  have released : (s.release moment).RecordsResolved := h.setLink _
  unfold execTransactionEnd
  split
  · exact h.next
  · dsimp only
    split
    · exact (released.judgeFrame _).next
    · exact released.next

/-! ### Every command and every step (R96) -/

theorem leavesResolved_exec (c : Instr) : LeavesResolved (exec c s) := by
  cases spelling : requestBytes c with
  | some spelt =>
    rw [exec_of_requestBytes spelling]
    exact ((keepsResolved_serveRequest c).takeRequest h _).next
  | none =>
    cases c with
    | powerOnReset => exact leavesResolved_powerOnReset s
    | loopCharacter => exact leavesResolved_loopCharacter h _ _
    | loopLineReads1 => exact leavesResolved_loopLineReads1 h _
    | silenceTimerExpiry => exact leavesResolved_silenceTimerExpiry h _
    | reportTake => exact leavesResolved_reportTake h _
    | deadlineExpiry => exact (h.resolveMisses _ _).next
    | investigationTimerExpiry => exact leavesResolved_investigationTimerExpiry h _
    | stepTimerExpiry => exact leavesResolved_stepTimerExpiry h _
    | repetitionEnd => exact leavesResolved_repetitionEnd h _
    | arbiterGrant => exact (h.onAudio _).next
    | fetchComplete => exact (h.onAudio _).next
    | pageEnd => exact (h.onAudio _).next
    | debouncedFaultChange => exact (h.onDesk _).next
    | switchingLoad => exact leavesResolved_switchingLoad h
    | visitStart => exact leavesResolved_visitStart h
    | visitEnd => exact leavesResolved_visitEnd h _ _
    | talkTimerExpiry => exact leavesResolved_talkTimerExpiry h _
    | supervisionTimerExpiry => exact leavesResolved_supervisionTimerExpiry h
    | transactionStart => exact leavesResolved_transactionStart h _
    | transactionEnd => exact leavesResolved_transactionEnd h _ _
    | _ => cases spelling

theorem leavesResolved_step : LeavesResolved (step s) := by
  unfold step
  split
  · exact leavesResolved_exec (h.setPending _) _
  · exact h.tick.next

end Events

/-- Settles O57: an event that changes what resolution reads ends in an input change, and any other leaves every zone's
resolution and record as they were. -/
theorem recordsStayResolved : Obligations.RecordsStayResolved := by
  unfold Obligations.RecordsStayResolved
  exact fun _ t resolved stepped => leavesResolved_step resolved t stepped

end Sys2Proof.Machine
end

section
/-! SUPPORT. PROGRAM_SET on a part whose standby stands in for a group that no amplifier serves: the pass that clearing
BROKEN causes ends with a return that gives the group a feed anew (R125, R130, R134, R145). -/

namespace Sys2Proof.Machine

open Sys2Proof

/-! ### A return that demands a program (R125, R130) -/

/-- A zone of amplifier 2 under test of program 0, which is BROKEN with an EMPTY head. Amplifier 2 is RECOVERED and
standby 10 stands in for it, but group 2 has no server: at the end of any event the standby's return moves the group
from no server to amplifier 2, which chooses its target afresh and so demands program 0. The state stands outside
`Audio.AmpsAgree`, by which a standby that stands in serves its group. -/
def State.strandedReturn : State :=
  let r := State.reset.resolver
  let s := State.reset.setResolver { r with
    configs := r.configs.set 0 { kind := .floor, low := 0, high := 0, duty := 2, load := 1 }
    records := r.records.set 0 { rank := .test, source := .test, program := some 0, governing := none }
    tests := r.tests.set 0 (some 0) }
  s.onAudio fun a =>
    { ((a.setAmpState 2 .recovered).setServer 2 none).setAmpState 10 (.standingIn 2) with
      programs := a.programs.set 0 { head := none, broken := true } }

/-- The demand that the return makes is not there before it. -/
theorem State.strandedReturn_wanted (i : Fin 12) :
    (strandedReturn.audio.amps[i].pending.getD strandedReturn.audio.amps[i].feed).program? ≠ some 0 := by
  revert i
  decide +kernel

/-- After the write the return has given amplifier 2 the zone's test program, and the allocation pass for that new demand
has found the head EMPTY and set BROKEN again (R148, R151). -/
theorem State.strandedReturn_programSet :
    (strandedReturn.takeRequest 0x62 (serveProgramSet 0 0xFF)).audio.amps[2].feed = .program .test 0 none ∧
      (strandedReturn.takeRequest 0x62 (serveProgramSet 0 0xFF)).audio.programs[(0 : Fin 16)].broken = true := by
  decide +kernel

/-- Refutes O50: BROKEN need not stay clear where nothing demands the program when PROGRAM_SET comes, because a return
within the pass can make a demand for it, and the EMPTY head then written fails the check. -/
theorem not_segmentAndProgramCommands : ¬ Obligations.SegmentAndProgramCommands := by
  unfold Obligations.SegmentAndProgramCommands
  intro holds
  obtain ⟨-, programs, -⟩ := holds State.strandedReturn
  obtain ⟨-, -, entry⟩ := programs 0 0xFF
  obtain ⟨-, written⟩ := entry 0 rfl
  obtain ⟨-, wasBroken⟩ := written none rfl
  obtain ⟨t, taken, -, -, -, -, -, undemanded⟩ := wasBroken (by decide +kernel)
  have clear : t.audio.programs[(0 : Fin 16)].broken = false :=
    undemanded (by decide +kernel) State.strandedReturn_wanted
  have same : State.strandedReturn.takeRequest 0x62 (serveProgramSet 0 0xFF) = t := Host.Outcome.next.inj taken
  obtain ⟨-, broken⟩ := State.strandedReturn_programSet
  rw [same, clear] at broken
  cases broken

end Sys2Proof.Machine
end

section
/-! SUPPORT. What a step can do, said once: the states that requests and events can leave, and the shape of a step. Every
invariant is proved over these cases. -/

namespace Sys2Proof.Machine

open Sys2Proof

/-! ### What requests leave -/

/-- The states that a request other than NOTICE_READ and RESTART, taken from `s`, can leave, case by case; a request that
is refused or that only reads leaves `s` as it was (R177). -/
inductive State.Commanded (s : State) : State → Prop
  | unchanged : Commanded s s
  | loopConfig (l : Fin 4) (enable : Bool) (timeout : Nat) (range : 10 ≤ timeout ∧ timeout ≤ 100) :
      Commanded s (s.setLoop l (s.loops[l].configure enable timeout))
  | loopCleared (l : Fin 4) : Commanded s (s.setLoop l s.loops[l].clearCounts)
  | mapWrite (i : Fin 96) (raw : RawEntry) (e : MapEntry) (place : Bool) (fields : entry? s.engine.floors raw = some e)
      (apart : s.map.overlaps i e = false) (agree : s.map.conflicts i e = false) :
      Commanded s (s.storeEntry i e place).2
  | mapRemove (i : Fin 96) :
      Commanded s (s.onMap fun m => { m with entries := m.entries.set i { m.entries[i] with valid := false } })
  | mapSetWired (n : Fin 96) : Commanded s (s.onMap fun m => { m with wired := n, cursor := 95 })
  | mapSetDefault (c : Cls) (r : Confirm) (d : Nat) (range : 5 ≤ d ∧ d ≤ 100) :
      Commanded s (s.onMap fun m => { m with defaultCls := c, defaultRule := r, deadline := d })
  | missDefault (p : Miss → Bool) : Commanded s (s.resolveMisses p s.map.defaultBinding)
  | acknowledge (k : Fin 32) (i : Incident) (live : s.engine.slots[k].incident = some i) :
      Commanded s (s.changeIncident k i (i.acknowledge s.engine.floors s.engine.profiles[i.profile]))
  | stage (k : Fin 32) (i : Incident) (stage : Stage) (live : s.engine.slots[k].incident = some i) :
      Commanded s (s.changeIncident k i { i with stage := stage })
  | retire (k : Fin 32) (i : Incident) (live : s.engine.slots[k].incident = some i) :
      Commanded s (s.engineEvent (s.engine.retire k))
  | saturationClear : Commanded s (s.engineEvent { s.engine with saturated := false })
  | profileWrite (n : Fin 16) (p : Profile) (unused : s.engine.profileUsed n = false)
      (flag : n = 15 → s.engine.saturated = false) :
      Commanded s (s.setEngine { s.engine with profiles := s.engine.profiles.set n p })
  | buildingSet (floors : Nat) (range : 1 ≤ floors ∧ floors ≤ 80) (quiet : s.engine.live = false)
      (inside : s.reachesFloor floors = false) : Commanded s (s.setEngine { s.engine with floors := floors })
  | zoneWrite (z : Fin 48) (c : ZoneConfig) (floors : c.floorsOk s.engine.floors = true)
      (idle : s.audio.connections[z] = .disconnected) : Commanded s (s.writeZone z c)
  | testsPlaced (tests : Vector (Option (Fin 16)) 48) : Commanded s (s.setTests tests).inputChange
  | micOpen (m : Mic) (x : Session) (limit : 10 ≤ x.limit ∧ x.limit ≤ 600) (timer : x.timer = x.limit * 10)
      (zones : x.zones ≠ []) : Commanded s (s.setSession m (some x)).inputChange
  | micRefresh (m : Mic) (x : Session) (opened : s.sessions.of m = some x) :
      Commanded s (s.setSession m (some x.load))
  | micClose (m : Mic) : Commanded s (s.setSession m none).inputChange
  | ampRestore (k : Fin 10) (i : Fin 12) (recovered : s.audio.amps[dutyAmp k].state = .recovered)
      (standby : s.audio.standbyOf k = some i) :
      Commanded s (s.onDesk fun v d => (d.mapAudio (Audio.giveBack v k i)).finish v)
  | segmentWrite (i : Fin 128) (x : Segment) (free : s.audio.playersIn i = []) :
      Commanded s (s.onAudio fun a => a.setSegment i x)
  | programSet (p : Fin 16) (h : Option (Fin 128)) :
      Commanded s (s.onDesk fun v d =>
        let set := d.mapAudio fun a => a.setProgram p h
        if s.audio.programs[p].broken then set.settle v settleFuel d.audio.holding true else set)
  | storeSet (n : Nat) (range : 1 ≤ n ∧ n ≤ 65536) :
      Commanded s (s.onAudio fun a => { a with store := { a.store with size := n } })
  | lineReconnect (n : Fin 48) (locked : s.scanner.lines[n].state = .lockedOut) :
      Commanded s ((s.setLine n { s.scanner.lines[n] with
        state := if s.used n then .normal else .notScanned, allowance := 3 }).lineChanged n s.scanner.lines[n].state)

/-- The states that a request taken from `s` can leave: NOTICE_READ and an accepted RESTART empty the notice set (R183,
R187). -/
inductive State.Requested (s : State) : State → Prop
  | noticeRead : Requested s s.emptyNotices
  | restart (quiet : s.engine.alarmActive = false) : Requested s s.restart
  | commanded (t : State) (left : s.Commanded t) : Requested s t

/-- What comes of such a request: a refusal, which changes nothing and answers no payload, or an answer with a state that
it can leave (R177). -/
inductive Served.From (s : State) : Served → Prop
  | refused (r : Result) (bad : r ≠ .ok) : Served.From s (refuse r s)
  | accepted (p : List Byte) (t : State) (left : s.Commanded t) : Served.From s (accept p t)

theorem Served.From.read (s : State) (p : List Byte) : Served.From s (accept p s) :=
  .accepted p s .unchanged

theorem Served.From.outOfRange (s : State) : Served.From s (refuse .outOfRange s) :=
  .refused _ (by decide)

theorem Served.From.refusedState (s : State) : Served.From s (refuse .refusedState s) :=
  .refused _ (by decide)

theorem Served.From.commanded {s : State} {out : Served} (h : Served.From s out) : s.Commanded out.state := by
  cases h with
  | refused r bad => exact .unchanged
  | accepted p t left => exact left

section Serve
variable (s : State)

theorem serveLoopConfig_from (loop enable timeout : Byte) : Served.From s (serveLoopConfig loop enable timeout s) := by
  unfold serveLoopConfig
  split
  · next l e t _ _ read =>
    obtain ⟨low, high, rfl⟩ := inRange?_some_iff.1 read
    exact .accepted _ _ (.loopConfig l e _ ⟨low, high⟩)
  · exact .outOfRange s

theorem serveLoopStatus_from (loop clear : Byte) : Served.From s (serveLoopStatus loop clear s) := by
  unfold serveLoopStatus
  split
  · next l c _ _ =>
    cases c with
    | false => exact .read s _
    | true => exact .accepted _ _ (.loopCleared l)
  · exact .outOfRange s

theorem State.writeEntry_from (index : Option (Fin 96)) (raw : RawEntry) (place : Bool) :
    Served.From s (s.writeEntry index raw place) := by
  unfold State.writeEntry
  split
  · next i e fields =>
    split
    · exact .refused _ (by decide)
    · next apart =>
      split
      · exact .refused _ (by decide)
      · next agree =>
        exact .accepted _ _ (.mapWrite i raw e place fields (Bool.eq_false_iff.2 apart) (Bool.eq_false_iff.2 agree))
  · exact .outOfRange s

theorem serveMapRead_from (index : Byte) : Served.From s (serveMapRead index s) := by
  unfold serveMapRead
  split
  · exact .read s _
  · exact .outOfRange s

theorem serveMapProbe_from (loop address : Byte) : Served.From s (serveMapProbe loop address s) := by
  unfold serveMapProbe
  split
  · exact .read s _
  · exact .outOfRange s

theorem serveMapRemove_from (index : Byte) : Served.From s (serveMapRemove index s) := by
  unfold serveMapRemove
  split
  · exact .accepted _ _ (.mapRemove _)
  · exact .outOfRange s

theorem serveMapSetWired_from (count : Byte) : Served.From s (serveMapSetWired count s) := by
  unfold serveMapSetWired
  split
  · exact .accepted _ _ (.mapSetWired _)
  · exact .outOfRange s

theorem serveMapSetDefault_from (cls rule deadline : Byte) :
    Served.From s (serveMapSetDefault cls rule deadline s) := by
  unfold serveMapSetDefault
  split
  · next c r d _ _ read =>
    obtain ⟨low, high, rfl⟩ := inRange?_some_iff.1 read
    exact .accepted _ _ (.mapSetDefault c r _ ⟨low, high⟩)
  · exact .outOfRange s

theorem serveMissDefault_from (loop address : Byte) : Served.From s (serveMissDefault loop address s) := by
  unfold serveMissDefault
  split
  · split
    · exact .accepted _ _ (.missDefault _)
    · exact .refused _ (by decide)
  · exact .outOfRange s

/-- A command under the handle check is refused by it, or carried out on the live incident named. -/
theorem State.withHandle_from (handle : BitVec 16) {f : Fin 32 → Incident → Served}
    (named : ∀ k i, s.engine.slots[k].incident = some i → Served.From s (f k i)) :
    Served.From s (s.withHandle handle f) := by
  unfold State.withHandle
  split
  · exact .outOfRange s
  · dsimp only
    split
    · next live =>
      split
      · exact named _ _ live
      · exact .refused _ (by decide)
    · exact .refused _ (by decide)

theorem serveIncidentRead_from (handle : BitVec 16) : Served.From s (serveIncidentRead handle s) :=
  s.withHandle_from handle fun _ _ _ => .read s _

theorem serveIncidentAck_from (handle : BitVec 16) : Served.From s (serveIncidentAck handle s) :=
  s.withHandle_from handle fun k i live => .accepted _ _ (.acknowledge k i live)

theorem serveIncidentSilence_from (handle : BitVec 16) : Served.From s (serveIncidentSilence handle s) :=
  s.withHandle_from handle fun k i live => by
    cases i.stage with
    | phased t => exact .accepted _ _ (.stage k i _ live)
    | general => exact .accepted _ _ (.stage k i _ live)
    | _ => exact .refusedState s

theorem serveIncidentResound_from (handle : BitVec 16) : Served.From s (serveIncidentResound handle s) :=
  s.withHandle_from handle fun k i live => by
    cases i.stage with
    | silencedPhased t => exact .accepted _ _ (.stage k i _ live)
    | silencedGeneral => exact .accepted _ _ (.stage k i _ live)
    | _ => exact .refusedState s

theorem serveIncidentGeneral_from (handle : BitVec 16) : Served.From s (serveIncidentGeneral handle s) :=
  s.withHandle_from handle fun k i live => by
    cases i.stage with
    | general => exact .refusedState s
    | _ => exact .accepted _ _ (.stage k i _ live)

theorem serveIncidentReset_from (handle : BitVec 16) (force : Byte) :
    Served.From s (serveIncidentReset handle force s) :=
  s.withHandle_from handle fun k i live => by
    split
    · exact .outOfRange s
    · split
      · exact .accepted _ _ (.retire k i live)
      · exact .refused _ (by decide)

theorem serveProfileWrite_from (number : Byte) (raw : RawProfile) :
    Served.From s (serveProfileWrite number raw s) := by
  unfold serveProfileWrite
  split
  · next n p _ _ =>
    split
    · exact .refused _ (by decide)
    · next free =>
      rw [Bool.or_eq_true, not_or, Bool.and_eq_true, not_and, decide_eq_true_eq] at free
      obtain ⟨unused, flag⟩ := free
      exact .accepted _ _ (.profileWrite n p (Bool.eq_false_iff.2 unused) fun last => Bool.eq_false_iff.2 (flag last))
  · exact .outOfRange s

theorem serveProfileRead_from (number : Byte) : Served.From s (serveProfileRead number s) := by
  unfold serveProfileRead
  split
  · exact .read s _
  · exact .outOfRange s

theorem serveBuildingSet_from (floors : Byte) : Served.From s (serveBuildingSet floors s) := by
  unfold serveBuildingSet
  split
  · exact .outOfRange s
  · next range =>
    rw [Bool.or_eq_true, not_or, decide_eq_true_eq, decide_eq_true_eq, not_lt, not_lt] at range
    split
    · exact .refused _ (by decide)
    · next quiet =>
      split
      · exact .outOfRange s
      · next inside =>
        exact .accepted _ _ (.buildingSet _ range (Bool.eq_false_iff.2 quiet) (Bool.eq_false_iff.2 inside))

theorem serveZoneWrite_from (zone : Byte) (raw : RawZone) : Served.From s (serveZoneWrite zone raw s) := by
  unfold serveZoneWrite
  split
  · next z c _ _ =>
    split
    · exact .outOfRange s
    · next floors =>
      rw [Bool.not_eq_true', Bool.not_eq_false] at floors
      split
      · exact .refused _ (by decide)
      · next idle =>
        split
        · exact .refused _ (by decide)
        · exact .accepted _ _ (.zoneWrite z c floors (not_not.1 idle))
  · exact .outOfRange s

theorem serveZoneRead_from (zone : Byte) : Served.From s (serveZoneRead zone s) := by
  unfold serveZoneRead
  split
  · exact .read s _
  · exact .outOfRange s

theorem serveZoneStatus_from (zone : Byte) : Served.From s (serveZoneStatus zone s) := by
  unfold serveZoneStatus
  split
  · exact .read s _
  · exact .outOfRange s

theorem serveZoneTestStart_from (program : Byte) (zones : ZoneList) :
    Served.From s (serveZoneTestStart program zones s) := by
  unfold serveZoneTestStart
  split
  · split
    · exact .refused _ (by decide)
    · exact .accepted _ _ (.testsPlaced _)
  · exact .outOfRange s

theorem serveZoneTestStop_from (zones : ZoneList) : Served.From s (serveZoneTestStop zones s) := by
  unfold serveZoneTestStop
  split
  · dsimp only
    split
    · exact .read s _
    · exact .accepted _ _ (.testsPlaced _)
  · exact .outOfRange s

theorem serveMicOpen_from (mic : Byte) (limit : BitVec 16) (zones : ZoneList) :
    Served.From s (serveMicOpen mic limit zones s) := by
  unfold serveMicOpen
  split
  · next m zs l _ set read =>
    obtain ⟨low, high, rfl⟩ := inRange?_some_iff.1 read
    split
    · exact .refused _ (by decide)
    · exact .accepted _ _ (.micOpen m _ ⟨low, high⟩ rfl (zoneSet?_ne_nil set))
  · exact .outOfRange s

theorem serveMicRefresh_from (mic : Byte) : Served.From s (serveMicRefresh mic s) := by
  unfold serveMicRefresh
  split
  · exact .outOfRange s
  · split
    · exact .refused _ (by decide)
    · next opened => exact .accepted _ _ (.micRefresh _ _ opened)

theorem serveMicClose_from (mic : Byte) : Served.From s (serveMicClose mic s) := by
  unfold serveMicClose
  split
  · exact .outOfRange s
  · split
    · exact .refused _ (by decide)
    · exact .accepted _ _ (.micClose _)

theorem serveMicStatus_from (mic : Byte) : Served.From s (serveMicStatus mic s) := by
  unfold serveMicStatus
  split
  · exact .outOfRange s
  · exact .read s _

theorem serveAmpRestore_from (amp : Byte) : Served.From s (serveAmpRestore amp s) := by
  unfold serveAmpRestore
  split
  · exact .outOfRange s
  · split
    · exact .refusedState s
    · split
      · next recovered standby => exact .accepted _ _ (.ampRestore _ _ recovered standby)
      · exact .refusedState s

theorem serveSegmentWrite_from (index : Byte) (raw : RawSegment) :
    Served.From s (serveSegmentWrite index raw s) := by
  unfold serveSegmentWrite
  split
  · split
    · next free => exact .accepted _ _ (.segmentWrite _ _ (List.isEmpty_iff.1 free))
    · exact .refused _ (by decide)
  · exact .outOfRange s

theorem serveSegmentRead_from (index : Byte) : Served.From s (serveSegmentRead index s) := by
  unfold serveSegmentRead
  split
  · exact .read s _
  · exact .outOfRange s

theorem serveProgramSet_from (program head : Byte) : Served.From s (serveProgramSet program head s) := by
  unfold serveProgramSet
  split
  · exact .accepted _ _ (.programSet _ _)
  · exact .outOfRange s

theorem serveProgramRead_from (program : Byte) : Served.From s (serveProgramRead program s) := by
  unfold serveProgramRead
  split
  · exact .read s _
  · exact .outOfRange s

theorem serveStoreSet_from (size : BitVec 24) : Served.From s (serveStoreSet size s) := by
  unfold serveStoreSet
  split
  · next n read =>
    obtain ⟨low, high, rfl⟩ := inRange?_some_iff.1 read
    exact .accepted _ _ (.storeSet _ ⟨low, high⟩)
  · exact .outOfRange s

theorem serveLineReconnect_from (line : Byte) : Served.From s (serveLineReconnect line s) := by
  unfold serveLineReconnect
  split
  · exact .outOfRange s
  · dsimp only
    split
    · next locked => exact .accepted _ _ (.lineReconnect _ locked)
    · exact .refusedState s

theorem serveLineStatus_from (line : Byte) : Served.From s (serveLineStatus line s) := by
  unfold serveLineStatus
  split
  · exact .outOfRange s
  · exact .read s _

/-- Every other request is refused with nothing changed, or answered with one of the states that requests leave. -/
theorem serveRequest_from {c : Instr} (noticeRead : c ≠ .noticeRead) (restart : c ≠ .restart) :
    Served.From s (serveRequest c s) := by
  cases c with
  | identify => exact .read s _
  | noticeRead => exact absurd rfl noticeRead
  | restart => exact absurd rfl restart
  | loopConfig => exact serveLoopConfig_from s _ _ _
  | loopStatus => exact serveLoopStatus_from s _ _
  | mapWrite => exact s.writeEntry_from _ _ _
  | mapPlace => exact s.writeEntry_from _ _ _
  | mapRead => exact serveMapRead_from s _
  | mapProbe => exact serveMapProbe_from s _ _
  | mapRemove => exact serveMapRemove_from s _
  | mapSetWired => exact serveMapSetWired_from s _
  | mapSetDefault => exact serveMapSetDefault_from s _ _ _
  | mapStatus => exact .read s _
  | missList => exact .read s _
  | missDefault => exact serveMissDefault_from s _ _
  | incidentList => exact .read s _
  | incidentRead => exact serveIncidentRead_from s _
  | incidentAck => exact serveIncidentAck_from s _
  | incidentSilence => exact serveIncidentSilence_from s _
  | incidentResound => exact serveIncidentResound_from s _
  | incidentGeneral => exact serveIncidentGeneral_from s _
  | incidentReset => exact serveIncidentReset_from s _ _
  | saturationClear => exact .accepted _ _ .saturationClear
  | profileWrite => exact serveProfileWrite_from s _ _
  | profileRead => exact serveProfileRead_from s _
  | buildingSet => exact serveBuildingSet_from s _
  | zoneWrite => exact serveZoneWrite_from s _ _
  | zoneRead => exact serveZoneRead_from s _
  | zoneStatus => exact serveZoneStatus_from s _
  | zoneTestStart => exact serveZoneTestStart_from s _ _
  | zoneTestStop => exact serveZoneTestStop_from s _
  | micOpen => exact serveMicOpen_from s _ _ _
  | micRefresh => exact serveMicRefresh_from s _
  | micClose => exact serveMicClose_from s _
  | micStatus => exact serveMicStatus_from s _
  | ampRestore => exact serveAmpRestore_from s _
  | ampStatus => exact .read s _
  | playerStatus => exact .read s _
  | segmentWrite => exact serveSegmentWrite_from s _ _
  | segmentRead => exact serveSegmentRead_from s _
  | programSet => exact serveProgramSet_from s _ _
  | programRead => exact serveProgramRead_from s _
  | storeSet => exact serveStoreSet_from s _
  | lineReconnect => exact serveLineReconnect_from s _
  | lineStatus => exact serveLineStatus_from s _
  | _ => exact .refused _ (by decide)

theorem serveRestart_quiet (quiet : s.engine.alarmActive = false) : serveRestart s = accept [] s.restart :=
  if_neg (Bool.eq_false_iff.1 quiet)

theorem serveRestart_alarm (alarm : s.engine.alarmActive = true) : serveRestart s = refuse .alarmActive s :=
  if_pos alarm

theorem serveRestart_requested : s.Requested (serveRestart s).state := by
  cases alarm : s.engine.alarmActive with
  | true =>
    rw [serveRestart_alarm s alarm]
    exact .commanded _ .unchanged
  | false =>
    rw [serveRestart_quiet s alarm]
    exact .restart alarm

theorem serveRequest_requested (c : Instr) : s.Requested (serveRequest c s).state := by
  by_cases noticeRead : c = .noticeRead
  · rw [noticeRead]
    exact .noticeRead
  · by_cases restart : c = .restart
    · rw [restart]
      exact serveRestart_requested s
    · exact .commanded _ (serveRequest_from s noticeRead restart).commanded

theorem serveFrame_requested (code : Byte) (payload : List Byte) : s.Requested (serveFrame code payload s).state := by
  unfold serveFrame
  cases requestOf code payload with
  | unknown => exact .commanded _ .unchanged
  | badLength => exact .commanded _ .unchanged
  | request c => exact serveRequest_requested s c

end Serve

/-- Settles O8: what comes of a request that is not accepted is a refusal. -/
theorem refusalChangesNothing : Obligations.RefusalChangesNothing := by
  unfold Obligations.RefusalChangesNothing
  intro c s
  by_cases noticeRead : c = .noticeRead
  · subst noticeRead
    exact fun refused => absurd rfl refused
  · by_cases restart : c = .restart
    · subst restart
      change (serveRestart s).result ≠ .ok → _
      cases alarm : s.engine.alarmActive with
      | true => exact fun _ => by rw [serveRequest, serveRestart_alarm s alarm]; exact ⟨rfl, rfl⟩
      | false => exact fun refused => absurd (by rw [serveRestart_quiet s alarm]; rfl) refused
    · have out := serveRequest_from s noticeRead restart
      generalize serveRequest c s = served at out
      intro refused
      cases out with
      | refused r bad => exact ⟨rfl, rfl⟩
      | accepted p t left => exact absurd rfl refused

/-! ### What events leave -/

/-- The states that an event, a command that is no request, can leave. -/
inductive State.Happened (s : State) : State → Prop
  | nothing : Happened s s
  | powerOnReset : Happened s
      { State.reset with
        link := { Link.reset with transaction := s.link.abandoned }
        pins := s.pins
        pending := s.pending }
  | character (l : Fin 4) (c : LineChar) (enabled : s.loops[l].state ≠ .disabled) :
      Happened s (s.endCharacter l (charOutcome c))
  | lineReads1 (l : Fin 4) : Happened s (s.setLoop l { s.loops[l] with line := .seeking })
  | silence (l : Fin 4) : Happened s
      ((s.setLoop l { s.loops[l] with state := .silent, timer := none }).setNotices (s.notices.raiseLoopFault l))
  | take (moment : Nat) (l : Fin 4) : Happened s (s.takeFrom moment l)
  | deadline (p : Miss → Bool) : Happened s (s.resolveMisses p s.map.defaultBinding)
  | investigation (k : Fin 32) (i : Incident) (live : s.engine.slots[k].incident = some i) :
      Happened s (s.changeIncident k i (i.enterPhased s.engine.floors s.engine.profiles[i.profile]))
  | step (k : Fin 32) (i : Incident) (live : s.engine.slots[k].incident = some i) :
      Happened s (s.changeIncident k i (i.takeStep s.engine.floors s.engine.profiles[i.profile]))
  | repetition (k : Fin 6) (w : Walk) (walk : s.audio.players[k].walk = some w) : Happened s (s.repetitionOver k w)
  | grant : Happened s (s.onAudio Audio.grant)
  | fetched (page : Vector Byte 256) : Happened s (s.onAudio fun a => a.fetchDone page)
  | pageEnd (k : Fin 6) : Happened s (s.onAudio fun a => a.pageEnd k)
  | faultChange (i : Fin 12) : Happened s (s.onDesk fun v d => (d.faultChange v i).finish v)
  | load : Happened s (s.onAudio Audio.load)
  | visitStart (n : Fin 48) : Happened s (s.beginVisit n)
  | visitEnd (v : Visit) (c : LineClass) (visit : s.scanner.visit = some v) : Happened s
      (if v.discard then s.setScanner { s.scanner with visit := none }
        else (s.setScanner { s.scanner with visit := none }).takeReading v.line c).afterVisit
  | talk (m : Mic) : Happened s ((s.setSession m none).setNotices (s.notices.raiseMicTimeout m)).inputChange
  | supervision : Happened s s.enterAutonomous
  | transactionStart (moment : Nat) : Happened s (s.setLink (s.link.start moment))
  | release (moment : Nat) : Happened s (s.release moment)
  | checkFail (moment : Nat) (code : Byte) : Happened s ((s.release moment).respond code .checkFail [])

/-- What one command leaves: what an event does, or a request taken, by itself or at a release, with its response. -/
inductive State.Carried (s : State) : State → Prop
  | event (t : State) (happened : s.Happened t) : Carried s t
  | request (t : State) (code : Byte) (r : Result) (p : List Byte) (requested : s.linkValid.Requested t) :
      Carried s (t.respond code r p)
  | framed (moment : Nat) (t : State) (code : Byte) (r : Result) (p : List Byte)
      (requested : (s.release moment).linkValid.Requested t) : Carried s (t.respond code r p)

section Exec
variable (s : State)

theorem exec_loopCharacter_happened (l : Fin 4) (c : LineChar) :
    ∃ t, execLoopCharacter l c s = .next t ∧ s.Happened t := by
  unfold execLoopCharacter
  split
  · exact ⟨_, rfl, .nothing⟩
  · next heard =>
    rw [Bool.or_eq_true, not_or, decide_eq_true_eq] at heard
    exact ⟨_, rfl, .character l c heard.1⟩

theorem exec_loopLineReads1_happened (l : Fin 4) : ∃ t, execLoopLineReads1 l s = .next t ∧ s.Happened t := by
  unfold execLoopLineReads1
  split
  · exact ⟨_, rfl, .nothing⟩
  · exact ⟨_, rfl, .lineReads1 l⟩

theorem exec_silenceTimerExpiry_happened (l : Fin 4) : ∃ t, execSilenceTimerExpiry l s = .next t ∧ s.Happened t := by
  unfold execSilenceTimerExpiry
  dsimp only
  split
  · exact ⟨_, rfl, .silence l⟩
  · exact ⟨_, rfl, .nothing⟩

theorem exec_reportTake_happened (moment : Nat) : ∃ t, execReportTake moment s = .next t ∧ s.Happened t := by
  unfold execReportTake
  split
  · exact ⟨_, rfl, .take moment _⟩
  · exact ⟨_, rfl, .nothing⟩

theorem exec_investigationTimerExpiry_happened (k : Fin 32) :
    ∃ t, execInvestigationTimerExpiry k s = .next t ∧ s.Happened t := by
  unfold execInvestigationTimerExpiry
  split
  · next i live =>
    split
    · split
      · exact ⟨_, rfl, .nothing⟩
      · exact ⟨_, rfl, .investigation k i live⟩
    · exact ⟨_, rfl, .nothing⟩
  · exact ⟨_, rfl, .nothing⟩

theorem exec_stepTimerExpiry_happened (k : Fin 32) : ∃ t, execStepTimerExpiry k s = .next t ∧ s.Happened t := by
  unfold execStepTimerExpiry
  split
  · next i live =>
    split
    · exact ⟨_, rfl, .step k i live⟩
    · exact ⟨_, rfl, .nothing⟩
  · exact ⟨_, rfl, .nothing⟩

theorem exec_repetitionEnd_happened (k : Fin 6) : ∃ t, execRepetitionEnd k s = .next t ∧ s.Happened t := by
  unfold execRepetitionEnd
  split
  · next w walk =>
    split
    · exact ⟨_, rfl, .repetition k w walk⟩
    · exact ⟨_, rfl, .nothing⟩
  · exact ⟨_, rfl, .nothing⟩

theorem exec_switchingLoad_happened : ∃ t, execSwitchingLoad s = .next t ∧ s.Happened t := by
  unfold execSwitchingLoad
  split
  · exact ⟨_, rfl, .load⟩
  · exact ⟨_, rfl, .nothing⟩

theorem exec_visitStart_happened : ∃ t, execVisitStart s = .next t ∧ s.Happened t := by
  unfold execVisitStart
  split
  · exact ⟨_, rfl, .visitStart _⟩
  · exact ⟨_, rfl, .nothing⟩

theorem exec_visitEnd_happened (cls1 cls0 : Bool) : ∃ t, execVisitEnd cls1 cls0 s = .next t ∧ s.Happened t := by
  unfold execVisitEnd
  split
  · exact ⟨_, rfl, .nothing⟩
  · next v visit => exact ⟨_, rfl, .visitEnd v _ visit⟩

theorem exec_talkTimerExpiry_happened (m : Mic) : ∃ t, execTalkTimerExpiry m s = .next t ∧ s.Happened t := by
  unfold execTalkTimerExpiry
  split
  · split
    · exact ⟨_, rfl, .talk m⟩
    · exact ⟨_, rfl, .nothing⟩
  · exact ⟨_, rfl, .nothing⟩

theorem exec_supervisionTimerExpiry_happened :
    ∃ t, execSupervisionTimerExpiry s = .next t ∧ s.Happened t := by
  unfold execSupervisionTimerExpiry
  split
  · exact ⟨_, rfl, .supervision⟩
  · exact ⟨_, rfl, .nothing⟩

theorem exec_transactionStart_happened (moment : Nat) :
    ∃ t, execTransactionStart moment s = .next t ∧ s.Happened t := by
  unfold execTransactionStart
  split
  · exact ⟨_, rfl, .transactionStart moment⟩
  · exact ⟨_, rfl, .nothing⟩

theorem exec_transactionEnd_carried (moment : Nat) (bits : List Bool) :
    ∃ t, execTransactionEnd moment bits s = .next t ∧ s.Carried t := by
  unfold execTransactionEnd
  split
  · exact ⟨_, rfl, .event _ .nothing⟩
  · dsimp only
    split
    · refine ⟨_, rfl, ?_⟩
      cases frameOf (wholeBytes bits) with
      | poll => exact .event _ (.release moment)
      | failed code => exact .event _ (.checkFail moment code)
      | valid code payload => exact .framed moment _ code _ _ (serveFrame_requested _ _ _)
    · exact ⟨_, rfl, .event _ (.release moment)⟩

/-- Every command completes, with what an event or a request leaves. -/
theorem exec_carried (c : Instr) : ∃ t, exec c s = .next t ∧ s.Carried t := by
  have event {o : Host.Outcome State Fault Refusal} (h : ∃ t, o = .next t ∧ s.Happened t) :
      ∃ t, o = .next t ∧ s.Carried t := h.imp fun t ⟨next, happened⟩ => ⟨next, .event t happened⟩
  cases spelling : requestBytes c with
  | some spelt =>
    rw [exec_of_requestBytes spelling]
    exact ⟨_, rfl, .request _ _ _ _ (serveRequest_requested _ c)⟩
  | none =>
    cases c with
    | powerOnReset => exact event ⟨_, rfl, .powerOnReset⟩
    | loopCharacter => exact event (exec_loopCharacter_happened s _ _)
    | loopLineReads1 => exact event (exec_loopLineReads1_happened s _)
    | silenceTimerExpiry => exact event (exec_silenceTimerExpiry_happened s _)
    | reportTake => exact event (exec_reportTake_happened s _)
    | deadlineExpiry => exact event ⟨_, rfl, .deadline _⟩
    | investigationTimerExpiry => exact event (exec_investigationTimerExpiry_happened s _)
    | stepTimerExpiry => exact event (exec_stepTimerExpiry_happened s _)
    | repetitionEnd => exact event (exec_repetitionEnd_happened s _)
    | arbiterGrant => exact event ⟨_, rfl, .grant⟩
    | fetchComplete => exact event ⟨_, rfl, .fetched _⟩
    | pageEnd => exact event ⟨_, rfl, .pageEnd _⟩
    | debouncedFaultChange => exact event ⟨_, rfl, .faultChange _⟩
    | switchingLoad => exact event (exec_switchingLoad_happened s)
    | visitStart => exact event (exec_visitStart_happened s)
    | visitEnd => exact event (exec_visitEnd_happened s _ _)
    | talkTimerExpiry => exact event (exec_talkTimerExpiry_happened s _)
    | supervisionTimerExpiry => exact event (exec_supervisionTimerExpiry_happened s)
    | transactionStart => exact event (exec_transactionStart_happened s _)
    | transactionEnd => exact exec_transactionEnd_carried s _ _
    | _ => cases spelling

end Exec

/-- Settles O4: every command leaves what an event or a request does. -/
theorem everyCommandCompletes : Obligations.EveryCommandCompletes := by
  unfold Obligations.EveryCommandCompletes
  exact fun c s => (exec_carried s c).imp fun _ carried => carried.1

/-- Settles O1: the step on a queue with a front is that command on the rest. -/
theorem stepRunsTheFrontCommand : Obligations.StepRunsTheFrontCommand := by
  unfold Obligations.StepRunsTheFrontCommand
  intro s c rest front
  rw [step, front]
  rfl

/-! ### Invariants of a step -/

/-- A property that the link, the queue, every request, every event and the tick keep. -/
structure StepInvariant (P : State → Prop) : Prop where
  setPending : ∀ (s : State) (x : List Instr), P s → P (s.setPending x)
  linkValid : ∀ s : State, P s → P s.linkValid
  respond : ∀ (s : State) (code : Byte) (r : Result) (p : List Byte), P s → P (s.respond code r p)
  release : ∀ (s : State) (moment : Nat), P s → P (s.release moment)
  requested : ∀ s t : State, P s → s.Requested t → P t
  happened : ∀ s t : State, P s → s.Happened t → P t
  tick : ∀ s : State, P s → P s.tick

theorem StepInvariant.carried {P : State → Prop} (inv : StepInvariant P) {s t : State} (h : P s) (c : s.Carried t) :
    P t := by
  cases c with
  | event _ happened => exact inv.happened s t h happened
  | request t code r p requested => exact inv.respond t code r p (inv.requested _ t (inv.linkValid s h) requested)
  | framed moment t code r p requested =>
    exact inv.respond t code r p (inv.requested _ t (inv.linkValid _ (inv.release s moment h)) requested)

/-- Every step keeps such a property. -/
theorem StepInvariant.step {P : State → Prop} (inv : StepInvariant P) {s t : State} (h : P s)
    (stepped : Machine.step s = .next t) : P t := by
  unfold Machine.step at stepped
  split at stepped
  · next c rest _ =>
    obtain ⟨t', next, carried⟩ := exec_carried (s.setPending rest) c
    obtain rfl := Host.Outcome.next.inj (next.symm.trans stepped)
    exact inv.carried (inv.setPending s rest h) carried
  · obtain rfl := Host.Outcome.next.inj stepped
    exact inv.tick s h

end Sys2Proof.Machine
end

section
/-! SUPPORT. What events of the sound side leave of the notice set. -/

namespace Sys2Proof.Machine

open Sys2Proof

/-- The notice set has changed at most in AMP_FAULT and PROGRAM_BROKEN, the kinds that the sound side raises. -/
structure Notices.SoundChange (n n' : Notices) : Prop where
  eq : n' = { n with ampFault := n'.ampFault, programBroken := n'.programBroken }

section Fields
variable {n n' n'' : Notices}

theorem Notices.SoundChange.refl (n : Notices) : n.SoundChange n := ⟨rfl⟩

theorem Notices.SoundChange.trans (h : n.SoundChange n') (k : n'.SoundChange n'') : n.SoundChange n'' := by
  refine ⟨?_⟩
  rw [k.eq, h.eq]

theorem Notices.SoundChange.startAt (h : n.SoundChange n') (same : n'' = n) : n''.SoundChange n' := same ▸ h

variable (h : n.SoundChange n')
include h

theorem Notices.SoundChange.bindingMiss : n'.bindingMiss = n.bindingMiss := by rw [h.eq]
theorem Notices.SoundChange.deviceFault : n'.deviceFault = n.deviceFault := by rw [h.eq]
theorem Notices.SoundChange.loopFault : n'.loopFault = n.loopFault := by rw [h.eq]
theorem Notices.SoundChange.lineFault : n'.lineFault = n.lineFault := by rw [h.eq]
theorem Notices.SoundChange.testDone : n'.testDone = n.testDone := by rw [h.eq]
theorem Notices.SoundChange.micTimeoutFire : n'.micTimeoutFire = n.micTimeoutFire := by rw [h.eq]
theorem Notices.SoundChange.micTimeoutManagement : n'.micTimeoutManagement = n.micTimeoutManagement := by rw [h.eq]
theorem Notices.SoundChange.saturation : n'.saturation = n.saturation := by rw [h.eq]
theorem Notices.SoundChange.linkRestored : n'.linkRestored = n.linkRestored := by rw [h.eq]

end Fields

theorem Desk.Keeps.soundChange {d d' : Desk} (h : d.Keeps d') : d.notices.SoundChange d'.notices :=
  ⟨h.notices⟩

section FaultChange
variable (v : View) (d : Desk)

theorem Desk.ampFault_soundChange (l : List (Fin 12)) : d.notices.SoundChange (d.ampFault l).notices :=
  (d.ampFault_keeps l).soundChange

theorem Desk.dutyFault_soundChange (k : Fin 10) : d.notices.SoundChange (d.dutyFault v k).notices := by
  unfold Desk.dutyFault
  split
  · dsimp only
    split
    · exact Desk.ampFault_soundChange { d with audio := _ } _
    · exact Desk.ampFault_soundChange { d with audio := _ } _
  · exact Desk.ampFault_soundChange (d.mapAudio _) _
  · exact .refl _

theorem Desk.dutyClear_soundChange (k : Fin 10) : d.notices.SoundChange (d.dutyClear v k).notices := by
  unfold Desk.dutyClear
  split
  · exact Desk.ampFault_soundChange (d.mapAudio _) _
  · exact Desk.ampFault_soundChange (d.mapAudio _) _
  · exact .refl _

theorem Desk.standbyFault_soundChange (i : Fin 12) : d.notices.SoundChange (d.standbyFault v i).notices := by
  unfold Desk.standbyFault
  dsimp only
  split
  · exact Desk.ampFault_soundChange { d with audio := _ } _
  · split_ifs
    · exact Desk.ampFault_soundChange { d with audio := _ } _
    · exact Desk.ampFault_soundChange { d with audio := _ } _
    · exact Desk.ampFault_soundChange { d with audio := _ } _
  · exact .refl _

theorem Desk.standbyClear_soundChange (i : Fin 12) : d.notices.SoundChange (d.standbyClear v i).notices := by
  unfold Desk.standbyClear
  split
  · exact Desk.ampFault_soundChange (d.mapAudio _) _
  · exact .refl _

theorem Desk.faultChange_soundChange (i : Fin 12) : d.notices.SoundChange (d.faultChange v i).notices := by
  unfold Desk.faultChange
  dsimp only
  split
  · exact Desk.dutyFault_soundChange v (d.mapAudio _) _
  · exact Desk.dutyClear_soundChange v (d.mapAudio _) _
  · exact Desk.standbyFault_soundChange v (d.mapAudio _) _
  · exact Desk.standbyClear_soundChange v (d.mapAudio _) _

end FaultChange

theorem Desk.faultChange_finish_soundChange (v : View) (d : Desk) (i : Fin 12) :
    d.notices.SoundChange ((d.faultChange v i).finish v).notices :=
  (d.faultChange_soundChange v i).trans (Desk.finish_keeps _ _).soundChange

theorem State.onDesk_soundChange (s : State) {f : View → Desk → Desk}
    (sound : ∀ d : Desk, d.notices.SoundChange (f s.view d).notices) : s.notices.SoundChange (s.onDesk f).notices :=
  sound { audio := s.audio, notices := s.notices }

theorem State.inputChange_soundChange (s : State) : s.notices.SoundChange s.inputChange.notices := by
  unfold State.inputChange
  dsimp only
  split
  · rw [State.setRecords_notices]
    exact .refl _
  · refine Notices.SoundChange.startAt (State.onDesk_soundChange _ fun d => ?_) (s.setRecords_notices _).symm
    exact ((Desk.Keeps.mapAudio (d.audio.takeBatch_keeps _ _)).trans (Desk.finish_keeps _ _)).soundChange

theorem State.withdrawTests_soundChange (s : State) : s.notices.SoundChange s.withdrawTests.notices := by
  unfold State.withdrawTests
  split
  · exact (State.inputChange_soundChange (s.setTests _)).startAt (State.setTests_notices s _).symm
  · exact .refl _

theorem State.engineEvent_soundChange (s : State) (e : Engine) : s.notices.SoundChange (s.engineEvent e).notices := by
  have changed := State.inputChange_soundChange (s.setEngine e)
  unfold State.engineEvent
  dsimp only
  split
  · split
    · exact changed.trans (State.withdrawTests_soundChange _)
    · exact changed
  · rw [State.setEngine_notices]
    exact .refl _

theorem State.lineChanged_soundChange (s : State) (n : Fin 48) (old : LineState) :
    s.notices.SoundChange (s.lineChanged n old).notices := by
  unfold State.lineChanged
  split
  · exact .refl _
  · exact State.onDesk_soundChange s fun d =>
      ((Desk.Keeps.mapAudio (d.audio.retarget_keeps _ _)).trans (Desk.finish_keeps _ _)).soundChange

theorem State.zoneWritten_soundChange (s : State) (n : Fin 48) (was : Bool) :
    s.notices.SoundChange (s.zoneWritten n was).notices := by
  unfold State.zoneWritten
  dsimp only
  split
  · exact (State.lineChanged_soundChange (s.setLine n _) n _).startAt (State.setLine_notices _ _ _).symm
  · refine (State.lineChanged_soundChange ((s.setScanner _).setLine n _) n _).startAt ?_
    rw [State.setLine_notices, State.setScanner_notices]
  · exact .refl _

theorem State.writeZone_soundChange (s : State) (z : Fin 48) (c : ZoneConfig) :
    s.notices.SoundChange (s.writeZone z c).notices := by
  unfold State.writeZone
  have stored := State.inputChange_soundChange (s.setResolver { s.resolver with configs := s.resolver.configs.set z c })
  exact stored.trans (State.zoneWritten_soundChange _ _ _)

theorem Audio.clearPages_keeps (a : Audio) (k : Fin 6) : a.Keeps (a.clearPages k) :=
  a.setPlayer_keeps k _

theorem Audio.nextRepetition_keeps (a : Audio) (k : Fin 6) : a.Keeps (a.nextRepetition k) := by
  unfold Audio.nextRepetition
  dsimp only
  split
  · exact a.clearPages_keeps k
  · exact ((a.clearPages_keeps k).trans (Audio.setWalk_keeps _ _ _)).trans (Audio.beginRepetition_keeps _ _)

theorem State.walkOn_soundChange (s : State) (k : Fin 6) {walk : Desk → Desk} (keeps : ∀ d : Desk, d.Keeps (walk d)) :
    s.notices.SoundChange (s.walkOn k walk).notices :=
  State.onDesk_soundChange s fun d =>
    (((Desk.Keeps.mapAudio (d.audio.boundary_keeps k)).trans (Desk.close_keeps _ _)).trans
      ((keeps _).trans (Desk.settle_keeps _ _ _ _ _))).soundChange

/-- The walk at the end of a repetition raises at most AMP_FAULT and PROGRAM_BROKEN beside TEST_DONE. -/
theorem State.endTaken_notices (s : State) (p : Fin 16) :
    { s.notices with testDone := (s.endTaken p).notices.testDone }.SoundChange (s.endTaken p).notices := by
  unfold State.endTaken
  dsimp only
  split
  · generalize Vector.ofFn _ = tests
    have changed := State.inputChange_soundChange ((s.setTests tests).setNotices (s.notices.raiseTestDone p))
    refine changed.startAt ?_
    rw [State.setTests_notices, changed.testDone]
    rfl
  · exact .refl _

theorem State.testEnd_notices (s : State) (k : Fin 6) (p : Fin 16) :
    { s.notices with testDone := (s.testEnd k p).notices.testDone }.SoundChange (s.testEnd k p).notices := by
  have ended := State.endTaken_notices (s.onAudio fun a => a.endHold k) p
  unfold State.testEnd
  dsimp only
  split
  · have walked := State.walkOn_soundChange ((s.onAudio fun a => a.endHold k).endTaken p) k
      fun d => Desk.passEnd_keeps d k
    rw [walked.testDone]
    exact ended.trans walked
  · exact ended

theorem State.repetitionOver_notices (s : State) (k : Fin 6) (w : Walk) :
    { s.notices with testDone := (s.repetitionOver k w).notices.testDone }.SoundChange
      (s.repetitionOver k w).notices := by
  have walked {walk : Desk → Desk} (keeps : ∀ d : Desk, d.Keeps (walk d)) :
      { s.notices with testDone := (s.walkOn k walk).notices.testDone }.SoundChange (s.walkOn k walk).notices := by
    have changed := s.walkOn_soundChange k keeps
    rw [changed.testDone]
    exact changed
  unfold State.repetitionOver
  split
  · exact walked fun d => Desk.Keeps.mapAudio (d.audio.nextRepetition_keeps k)
  · split
    · exact walked fun d => d.enterSegment_keeps k _
    · exact walked fun d => d.passEnd_keeps k
    · split
      · exact s.testEnd_notices k _
      · exact walked fun d => d.passEnd_keeps k

end Sys2Proof.Machine
end

section
/-! SUPPORT. The receivers, the cause map and the incident engine keep their bounds through each of their operations. -/

namespace Sys2Proof.Machine

open Sys2Proof

/-! ### Receivers (R1 to R16) -/

/-- The buffer holds one report fewer where one that is no ALARM was given up (R11). -/
theorem length_dropOldestQuiet {l : List Report} (quiet : ∃ y ∈ l, y.kind ≠ .alarm) :
    (dropOldestQuiet l).length + 1 = l.length := by
  induction l with
  | nil => obtain ⟨y, mem, _⟩ := quiet; cases mem
  | cons x xs ih =>
    unfold dropOldestQuiet
    split
    · next alarm =>
      obtain ⟨y, mem, notAlarm⟩ := quiet
      have rest : y ∈ xs := (List.mem_cons.1 mem).resolve_left (by rintro rfl; exact notAlarm alarm)
      rw [List.length_cons, List.length_cons, ih ⟨y, rest, notAlarm⟩]
    · rfl

section Receiver
variable {r : Receiver} (h : r.Bounded)
include h

theorem Receiver.Bounded.countFraming : ({ r with framing := satSucc 255 r.framing } : Receiver).Bounded :=
  { h with counts := ⟨satSucc_le _ _, h.counts.2⟩ }

theorem Receiver.Bounded.countNoise : ({ r with noise := satSucc 255 r.noise } : Receiver).Bounded :=
  { h with counts := ⟨h.counts.1, satSucc_le _ _, h.counts.2.2⟩ }

theorem Receiver.Bounded.countCheck : ({ r with check := satSucc 255 r.check } : Receiver).Bounded :=
  { h with counts := ⟨h.counts.1, h.counts.2.1, satSucc_le _ _, h.counts.2.2.2⟩ }

theorem Receiver.Bounded.countProtocol : r.countProtocol.Bounded :=
  { h with counts := ⟨h.counts.1, h.counts.2.1, h.counts.2.2.1, satSucc_le _ _, h.counts.2.2.2.2⟩ }

theorem Receiver.Bounded.countOverrun : ({ r with overrun := satSucc 255 r.overrun } : Receiver).Bounded :=
  { h with counts := ⟨h.counts.1, h.counts.2.1, h.counts.2.2.1, h.counts.2.2.2.1, satSucc_le _ _⟩ }

theorem Receiver.Bounded.clearCounts : r.clearCounts.Bounded :=
  { h with counts := by simp [Receiver.clearCounts] }

theorem Receiver.Bounded.setLine (line : LineLayer) : ({ r with line := line } : Receiver).Bounded :=
  { h with }

theorem Receiver.Bounded.setPartial {chars : List Byte} (short : chars.length ≤ 3) :
    ({ r with partialReport := chars } : Receiver).Bounded :=
  { h with partialReport := short }

theorem Receiver.Bounded.setBuffer {reports : List Report} (short : reports.length ≤ 4) :
    ({ r with buffer := reports } : Receiver).Bounded :=
  { h with buffer := short }

theorem Receiver.Bounded.setLastCycle (value : Byte) : ({ r with lastCycle := value.toNat } : Receiver).Bounded :=
  { h with lastCycle := by have := value.isLt; simp; omega }

theorem Receiver.Bounded.heard : r.heard.Bounded :=
  { h with
    running := by simp [Receiver.heard]
    timer := by rintro t ⟨⟩; exact le_refl _ }

theorem Receiver.Bounded.silenced : ({ r with state := .silent, timer := none } : Receiver).Bounded :=
  { h with
    running := by simp
    timer := by rintro t ⟨⟩ }

theorem Receiver.Bounded.restart : r.restart.Bounded :=
  { h with buffer := Nat.zero_le _, partialReport := Nat.zero_le _ }

theorem Receiver.Bounded.tick : r.tick.Bounded :=
  { h with
    running := by
      rw [Receiver.tick, Option.isSome_map]
      exact h.running
    timer := by
      intro t ticked
      obtain ⟨u, was, rfl⟩ := Option.map_eq_some_iff.1 ticked
      exact (Nat.sub_le _ _).trans (h.timer u was) }

theorem Receiver.Bounded.offer (x : Report) : (r.offer x).Bounded := by
  unfold Receiver.offer
  split
  · next room =>
    rw [Config.bufferDepth] at room
    exact h.setBuffer (by rw [List.length_append, List.length_singleton]; omega)
  · dsimp only
    split
    · next makes =>
      rw [Bool.and_eq_true, List.any_eq_true] at makes
      have shorter := length_dropOldestQuiet (l := r.buffer) (makes.2.imp fun y hy => ⟨hy.1, of_decide_eq_true hy.2⟩)
      have full := h.buffer
      exact h.countOverrun.setBuffer (by rw [List.length_append, List.length_singleton]; omega)
    · exact h.countOverrun

theorem Receiver.Bounded.configure (enable : Bool) {timeout : Nat} (range : 10 ≤ timeout ∧ timeout ≤ 100) :
    (r.configure enable timeout).Bounded := by
  have running := h.running
  unfold Receiver.configure
  split
  case h_1 state =>
    exact { h with timeout := range, timer := fun t timed => by simp_all }
  case h_2 =>
    exact { h with
      buffer := Nat.zero_le _, partialReport := Nat.zero_le _, timeout := range, running := by simp
      timer := by rintro t ⟨⟩; exact le_refl _ }
  case h_3 state | h_4 state =>
    exact { h with timeout := range, running := by simp [state], timer := by rintro t ⟨⟩; exact le_refl _ }
  case h_5 state =>
    exact { h with timeout := range, timer := fun t timed => by simp_all }
  case h_6 | h_7 | h_8 =>
    exact { h with
      buffer := Nat.zero_le _, partialReport := Nat.zero_le _, timeout := range, running := by simp
      timer := by rintro t ⟨⟩ }

end Receiver

theorem Receiver.reset_bounded : Receiver.reset.Bounded := by
  constructor <;> simp [Receiver.reset]

/-! ### The cause map (R17 to R34) -/

section CauseMap
variable {m : CauseMap} (h : m.Bounded)
include h

theorem CauseMap.Bounded.setEntries (entries : Vector MapEntry 96) :
    ({ m with entries := entries } : CauseMap).Bounded :=
  { h with }

theorem CauseMap.Bounded.setWired (n : Fin 96) : ({ m with wired := n, cursor := 95 } : CauseMap).Bounded :=
  { h with cursor := Nat.le_of_lt_succ n.isLt }

theorem CauseMap.Bounded.setDefault (c : Cls) (r : Confirm) {d : Nat} (range : 5 ≤ d ∧ d ≤ 100) :
    ({ m with defaultCls := c, defaultRule := r, deadline := d } : CauseMap).Bounded :=
  { h with deadline := range }

theorem CauseMap.Bounded.moveCursor : m.moveCursor.Bounded :=
  { h with
    cursor := by
      unfold CauseMap.moveCursor
      dsimp only
      split
      · exact Nat.le_of_lt_succ m.wired.isLt
      · have := h.cursor
        dsimp only
        omega }

theorem CauseMap.Bounded.setTake (l : Fin 4) (moment : Nat) :
    ({ m with lastLoop := l, lastTake := some moment } : CauseMap).Bounded :=
  { h with }

theorem CauseMap.Bounded.filterMisses (p : Miss → Bool) :
    ({ m with misses := m.misses.filter p } : CauseMap).Bounded :=
  { h with
    misses := (List.length_filter_le _ _).trans h.misses
    devices := h.devices.filter _
    deadlines := fun x mem => h.deadlines x (List.mem_of_mem_filter mem) }

/-- The misses with fields changed that name no device and raise no deadline. -/
theorem CauseMap.Bounded.mapMisses {f : Miss → Miss} (loop : ∀ x, (f x).loop = x.loop)
    (address : ∀ x, (f x).address = x.address) (deadline : ∀ x, (f x).deadline ≤ x.deadline) :
    ({ m with misses := m.misses.map f } : CauseMap).Bounded :=
  { h with
    misses := by rw [List.length_map]; exact h.misses
    devices := by
      refine List.pairwise_map.2 (h.devices.imp fun {x y} apart => ?_)
      rwa [loop, loop, address, address]
    deadlines := by
      intro x mem
      obtain ⟨y, memY, rfl⟩ := List.mem_map.1 mem
      exact (deadline y).trans (h.deadlines y memY) }

theorem CauseMap.Bounded.merge (r : Report) : (m.merge r).Bounded := by
  refine h.mapMisses (fun x => ?_) (fun x => ?_) fun x => ?_
  · split <;> rfl
  · split <;> rfl
  · split <;> exact Nat.le_refl x.deadline

theorem CauseMap.Bounded.tick : m.tick.Bounded :=
  h.mapMisses (fun _ => rfl) (fun _ => rfl) fun _ => Nat.sub_le _ _

/-- A device that is not pending joins a list with room (R28). -/
theorem CauseMap.Bounded.addMiss {x : Miss} (room : m.misses.length < 4) (deadline : x.deadline ≤ 100)
    (fresh : ∀ y ∈ m.misses, ¬ (y.loop = x.loop ∧ y.address = x.address)) :
    ({ m with misses := m.misses ++ [x] } : CauseMap).Bounded :=
  { h with
    misses := by rw [List.length_append, List.length_singleton]; exact room
    devices := List.pairwise_append.2 ⟨h.devices, List.pairwise_singleton _ _, by simpa using fresh⟩
    deadlines := by
      intro y mem
      rcases List.mem_append.1 mem with old | new
      · exact h.deadlines y old
      · rw [List.mem_singleton.1 new]
        exact deadline }

end CauseMap

theorem CauseMap.reset_bounded : CauseMap.reset.Bounded := by
  constructor <;> simp [CauseMap.reset]

/-! ### Incidents (R39, R44, R45, R60 to R72) -/

/-- What the stage machine keeps of an incident: its detection zone, its detectors, its unlisted count, and a step count
within 80. -/
structure Incident.Staged (i j : Incident) : Prop where
  zone : j.zone = i.zone
  detectors : j.detectors = i.detectors
  unlisted : j.unlisted = i.unlisted
  step : i.step ≤ 80 → j.step ≤ 80

section Staged
variable {i j : Incident}

theorem Incident.Staged.refl (i : Incident) : i.Staged i := ⟨rfl, rfl, rfl, id⟩

theorem Incident.Staged.bounded (h : i.Staged j) (bounded : i.Bounded) : j.Bounded where
  listed := by rw [h.detectors]; exact bounded.listed
  devices := by rw [h.detectors]; exact bounded.devices
  step := h.step bounded.step
  unlisted := by rw [h.unlisted]; exact bounded.unlisted

variable (i) (floors : Nat) (p : Profile) (r : BoundReport)

theorem Incident.setStage_staged (stage : Stage) : i.Staged { i with stage := stage } :=
  ⟨rfl, rfl, rfl, id⟩

theorem Incident.enterPhased_staged : i.Staged (i.enterPhased floors p) :=
  ⟨rfl, rfl, rfl, fun _ => Nat.zero_le _⟩

theorem Incident.takeStep_staged : i.Staged (i.takeStep floors p) :=
  ⟨rfl, rfl, rfl, fun _ => satSucc_le _ _⟩

theorem Incident.acknowledge_staged : i.Staged (i.acknowledge floors p) := by
  unfold Incident.acknowledge
  dsimp only
  split
  · split
    · exact ⟨rfl, rfl, rfl, fun _ => Nat.zero_le _⟩
    · exact ⟨rfl, rfl, rfl, id⟩
  · exact ⟨rfl, rfl, rfl, id⟩

theorem Incident.entryTest_staged (a : Bool) : i.Staged (i.entryTest floors p a r) := by
  have phased := i.enterPhased_staged floors p
  unfold Incident.entryTest
  split
  · exact phased
  · cases i.rule with
    | single => exact phased
    | coincident =>
      dsimp only
      split
      · exact phased
      · exact ⟨rfl, rfl, rfl, id⟩
    | delayed =>
      dsimp only
      split_ifs
      · exact phased
      · exact phased
      · exact ⟨rfl, rfl, rfl, id⟩

theorem Incident.investigationReport_staged (wasClear : Bool) (timer : Nat) :
    i.Staged (i.investigationReport floors p r wasClear timer) := by
  unfold Incident.investigationReport
  split_ifs
  · exact i.enterPhased_staged floors p
  · exact i.enterPhased_staged floors p
  · exact .refl i

theorem Incident.stageReport_staged (a wasClear : Bool) : i.Staged (i.stageReport floors p a r wasClear) := by
  unfold Incident.stageReport
  split
  · exact i.entryTest_staged floors p r a
  · split
    · exact i.enterPhased_staged floors p
    · exact .refl i
  · exact i.investigationReport_staged floors p r wasClear _
  · exact i.setStage_staged _
  · exact i.setStage_staged _
  · exact .refl i

theorem Incident.tick_staged : i.Staged i.tick := by
  unfold Incident.tick
  split
  · split
    · exact .refl i
    · exact i.setStage_staged _
  · exact i.setStage_staged _
  · exact .refl i

end Staged

section Account
variable {i : Incident} (now : Tick) (r : BoundReport)

theorem Incident.account_zone : (i.account now r).zone = i.zone := by
  unfold Incident.account
  split
  · rfl
  · split <;> rfl

theorem unlistedAfter_le {n : Nat} (h : n ≤ 255) (kind : AlarmKind) : unlistedAfter n kind ≤ 255 := by
  cases kind with
  | clear => exact (Nat.sub_le _ _).trans h
  | alarm => exact satSucc_le _ _
  | prealarm => exact satSucc_le _ _

theorem Incident.Bounded.account (h : i.Bounded) : (i.account now r).Bounded := by
  obtain ⟨some_, most⟩ := h.listed
  by_cases listed : ∃ d ∈ i.detectors, d.loop = r.loop ∧ d.address = r.address
  · unfold Incident.account
    rw [if_pos (List.any_eq_true.2 (listed.imp fun d hd => ⟨hd.1, Detector.sends_iff.2 hd.2⟩))]
    refine { h with listed := ?_, devices := List.pairwise_map.2 (h.devices.imp fun {x y} apart => ?_) }
    · simpa using ⟨some_, most⟩
    · split <;> split <;> exact apart
  · have fresh : ∀ d ∈ i.detectors, ¬ (d.loop = r.loop ∧ d.address = r.address) := by simpa using listed
    unfold Incident.account
    rw [if_neg fun found => by
      obtain ⟨d, mem, sends⟩ := List.any_eq_true.1 found
      exact fresh d mem (Detector.sends_iff.1 sends)]
    split
    · next room =>
      rw [Config.detectorDepth] at room
      refine { h with listed := ?_, devices := ?_ }
      · simp only [List.length_append, List.length_singleton]
        omega
      · refine List.pairwise_append.2 ⟨h.devices, List.pairwise_singleton _ _, fun d mem e new => ?_⟩
        rw [List.mem_singleton.1 new]
        exact fresh d mem
    · exact { h with unlisted := unlistedAfter_le h.unlisted _ }

theorem newIncident_bounded : (newIncident now r).Bounded where
  listed := by simp [newIncident]
  devices := List.pairwise_singleton _ _
  step := Nat.zero_le _
  unlisted := Nat.zero_le _

end Account

/-! ### The incident table (R36 to R43, R48, R57) -/

/-- The engine with each live incident replaced by one of the same detection zone within its bounds. -/
theorem Engine.Bounded.replace {e e' : Engine} (h : e.Bounded) (ages : e'.ages = e.ages) (floors : e'.floors = e.floors)
    (each : ∀ k : Fin 32, (e'.slots[k].incident = none ∧ e.slots[k].incident = none) ∨
      ∃ i j, e.slots[k].incident = some i ∧ e'.slots[k].incident = some j ∧ j.zone = i.zone ∧ j.Bounded) :
    e'.Bounded where
  ages := by rw [ages]; exact h.ages
  floors := by rw [floors]; exact h.floors
  live k := by
    rw [ages, h.live]
    rcases each k with ⟨new, old⟩ | ⟨i, j, old, new, -, -⟩
    · rw [old, new]
    · rw [old, new]
      exact Iff.rfl
  incidents k j live := by
    rcases each k with ⟨new, -⟩ | ⟨i, j', -, new, -, bounded⟩
    · rw [new] at live
      cases live
    · rw [new] at live
      cases live
      exact bounded
  zones k l a b liveA liveB same := by
    rcases each k with ⟨new, -⟩ | ⟨i, j, old, new, zone, -⟩
    · rw [new] at liveA
      cases liveA
    · rcases each l with ⟨new', -⟩ | ⟨i', j', old', new', zone', -⟩
      · rw [new'] at liveB
        cases liveB
      · rw [new] at liveA
        rw [new'] at liveB
        cases liveA
        cases liveB
        exact h.zones k l i i' old old' (zone.symm.trans (same.trans zone'))

theorem Engine.zone_ne_of_findZone_none {e : Engine} {zone : Nat} (absent : e.findZone zone = none) {k : Fin 32}
    {i : Incident} (live : e.slots[k].incident = some i) : i.zone ≠ zone := by
  have other := List.find?_eq_none.1 absent k (List.mem_finRange k)
  rw [live, Option.any_some] at other
  exact of_decide_eq_false (Bool.eq_false_iff.2 other)

section Engine
variable {e : Engine} (h : e.Bounded)
include h

/-- The engine with no slot, no age and no floor count changed. -/
theorem Engine.Bounded.of_slots {e' : Engine} (slots : e'.slots = e.slots) (ages : e'.ages = e.ages)
    (floors : 1 ≤ e'.floors ∧ e'.floors ≤ 80) : e'.Bounded where
  ages := by rw [ages]; exact h.ages
  floors := floors
  live := by rw [ages, slots]; exact h.live
  incidents := by rw [slots]; exact h.incidents
  zones := by rw [slots]; exact h.zones

theorem Engine.Bounded.setChanged (changed : List (Fin 32)) : ({ e with changed := changed } : Engine).Bounded :=
  { h with }

theorem Engine.Bounded.put (now : Tick) {k : Fin 32} {old new : Incident} (live : e.slots[k].incident = some old)
    (zone : new.zone = old.zone) (bounded : new.Bounded) : (e.put now k old new).Bounded := by
  unfold Engine.put
  split
  · exact h
  · refine h.replace (e' := (e.setSlot k _).join k) rfl rfl fun j => ?_
    simp only [Engine.join, Engine.setSlot_slots]
    split
    · next same => exact .inr ⟨old, { new with changedAt := now }, by rw [same, live], rfl, zone, { bounded with }⟩
    · cases slot : e.slots[j].incident with
      | none => exact .inl ⟨rfl, rfl⟩
      | some i => exact .inr ⟨i, i, rfl, rfl, rfl, h.incidents j i slot⟩

theorem Engine.Bounded.putStaged (now : Tick) {k : Fin 32} {old new : Incident}
    (live : e.slots[k].incident = some old) (staged : old.Staged new) : (e.put now k old new).Bounded :=
  h.put now live staged.zone (staged.bounded (h.incidents k old live))

theorem Engine.Bounded.tick : e.tick.Bounded := by
  refine h.replace e.tick_follows.ages e.tick_follows.floors fun k => ?_
  rw [Engine.tick_incident]
  cases slot : e.slots[k].incident with
  | none => exact .inl ⟨rfl, rfl⟩
  | some i =>
    exact .inr ⟨i, i.tick, rfl, rfl, i.tick_staged.zone, i.tick_staged.bounded (h.incidents k i slot)⟩

theorem Engine.Bounded.retire (k : Fin 32) : (e.retire k).Bounded := by
  have slot (j : Fin 32) :
      (e.retire k).slots[j].incident = if j = k then none else e.slots[j].incident := by
    simp only [Engine.retire, Engine.join, Engine.setSlot_slots]
    split <;> rfl
  have kept {j : Fin 32} {i : Incident} (live : (e.retire k).slots[j].incident = some i) :
      e.slots[j].incident = some i := by
    rw [slot] at live
    split at live
    · cases live
    · exact live
  exact
    { ages := h.ages.filter _
      floors := h.floors
      live := fun j => by
        rw [slot]
        split
        · next same => simp [Engine.retire, Engine.join, same]
        · next other => simpa [Engine.retire, Engine.join, Engine.setSlot, other] using h.live j
      incidents := fun j i live => h.incidents j i (kept live)
      zones := fun j l a b liveA liveB => h.zones j l a b (kept liveA) (kept liveB) }

theorem Engine.Bounded.restart : e.restart.Bounded := by
  have ages : e.restart.ages = [] := by rw [Engine.restart]
  have floors : e.restart.floors = e.floors := by rw [Engine.restart]
  have free (k : Fin 32) : e.restart.slots[k].incident = none := by simp [Engine.restart]
  exact
    { ages := by rw [ages]; exact List.nodup_nil
      floors := by rw [floors]; exact h.floors
      live := fun k => by rw [free, ages]; simp
      incidents := fun k i live => by rw [free] at live; cases live
      zones := fun j k a b live => by rw [free] at live; cases live }

theorem Engine.Bounded.create (now : Tick) (a : Bool) {r : BoundReport} {k : Fin 32}
    (absent : e.findZone r.binding.zone = none) (free : e.slots[k].incident = none) : (e.create now a r k).Bounded := by
  obtain ⟨new, made⟩ : ∃ new, new = if r.kind = .alarm then
      (newIncident now r).entryTest e.floors e.profiles[(newIncident now r).profile] a r else newIncident now r := ⟨_, rfl⟩
  have staged : (newIncident now r).Staged new := by
    rw [made]
    split
    · exact Incident.entryTest_staged _ _ _ _ _
    · exact .refl _
  have slot (j : Fin 32) :
      (e.create now a r k).slots[j].incident = if j = k then some new else e.slots[j].incident := by
    rw [made]
    simp only [Engine.create, Engine.join, Engine.setSlot_slots]
    split <;> rfl
  have cases_ {j : Fin 32} {i : Incident} (live : (e.create now a r k).slots[j].incident = some i) :
      (j = k ∧ i = new) ∨ e.slots[j].incident = some i := by
    rw [slot] at live
    split at live
    · next same => exact .inl ⟨same, (Option.some.inj live).symm⟩
    · exact .inr live
  have apart {j : Fin 32} {i : Incident} (live : e.slots[j].incident = some i) : i.zone ≠ new.zone := by
    rw [staged.zone]
    exact Engine.zone_ne_of_findZone_none absent live
  exact
    { floors := h.floors
      ages := by
        refine List.nodup_append.2 ⟨h.ages, List.nodup_singleton _, fun j mem l new => ?_⟩
        rw [List.mem_singleton.1 new]
        rintro rfl
        have live := (h.live j).1 mem
        rw [free] at live
        cases live
      live := fun j => by
        rw [slot]
        split
        · next same => simp [Engine.create, Engine.join, same]
        · next other => simpa [Engine.create, Engine.join, Engine.setSlot, other] using h.live j
      incidents := fun j i live => by
        rcases cases_ live with ⟨-, rfl⟩ | old
        · exact staged.bounded (newIncident_bounded now r)
        · exact h.incidents j i old
      zones := fun j l x y liveX liveY same => by
        rcases cases_ liveX with ⟨rfl, rfl⟩ | oldX
        · rcases cases_ liveY with ⟨rfl, rfl⟩ | oldY
          · rfl
          · exact absurd same.symm (apart oldY)
        · rcases cases_ liveY with ⟨rfl, rfl⟩ | oldY
          · exact absurd same (apart oldX)
          · exact h.zones j l x y oldX oldY same }

theorem Engine.Bounded.applyReport (now : Tick) (a : Bool) (r : BoundReport) {k : Fin 32} {i : Incident}
    (live : e.slots[k].incident = some i) : (e.applyReport now a r k i).Bounded := by
  unfold Engine.applyReport
  dsimp only
  split
  · exact h.retire k
  · have staged := Incident.stageReport_staged (i.account now r) e.floors e.profiles[i.profile] r a i.allClear
    exact h.put now live (staged.zone.trans (Incident.account_zone now r))
      (staged.bounded ((h.incidents k i live).account now r))

theorem Engine.Bounded.takeReport (now : Tick) (a : Bool) (r : BoundReport) : (e.takeReport now a r).Bounded := by
  unfold Engine.takeReport
  split
  · split
    · next live => exact h.applyReport now a r live
    · exact h
  · next absent =>
    split
    · exact h
    · next found _ => exact h.create now a absent (Engine.incident_of_freeSlot found)
    · exact h.of_slots rfl rfl h.floors
    · exact h

theorem Engine.Bounded.autonomousEntry (now : Tick) : (e.autonomousEntry now).Bounded := by
  unfold Engine.autonomousEntry
  refine List.foldlRecOn e.ages _ h fun e' bounded k _ => ?_
  split
  · next i live =>
    split
    · exact bounded.putStaged now live (i.enterPhased_staged _ _)
    · exact bounded
  · exact bounded

end Engine

end Sys2Proof.Machine
end

section
/-! SUPPORT. The bounds of the blocks through each operation of the state. -/

namespace Sys2Proof.Machine

open Sys2Proof

theorem Sessions.of_put (x : Sessions) (m m' : Mic) (y : Option Session) :
    (x.put m y).of m' = if m' = m then y else x.of m' := by
  cases m <;> cases m' <;> rfl

theorem Sessions.of_tick (x : Sessions) (m : Mic) : x.tick.of m = (x.of m).map Session.tick := by
  cases m <;> rfl

theorem State.linkValid_supervision (s : State) : s.linkValid.link.supervision = some 100 := by
  unfold State.linkValid
  split <;> rfl

theorem State.linkValid_deviceFault (s : State) : s.linkValid.notices.deviceFault = s.notices.deviceFault := by
  rw [State.linkValid_notices]
  split <;> rfl

theorem Link.start_mode (l : Link) (moment : Nat) : (l.start moment).mode = l.mode := by
  unfold Link.start
  split <;> rfl

theorem Link.start_supervision (l : Link) (moment : Nat) : (l.start moment).supervision = l.supervision := by
  unfold Link.start
  split <;> rfl

theorem State.repetitionOver_deviceFault (s : State) (k : Fin 6) (w : Walk) :
    (s.repetitionOver k w).notices.deviceFault = s.notices.deviceFault :=
  (s.repetitionOver_notices k w).deviceFault

theorem State.takeReading_deviceFault (s : State) (n : Fin 48) (c : LineClass) :
    (s.takeReading n c).notices.deviceFault = s.notices.deviceFault := by
  unfold State.takeReading
  dsimp only
  split
  · rfl
  · exact (State.lineChanged_soundChange _ _ _).deviceFault

/-- DEVICE_FAULT counts from 1 and stops at 255 (R8). -/
def Notices.Counted (n : Notices) : Prop :=
  ∀ d, n.deviceFault = some d → 1 ≤ d.count ∧ d.count ≤ 255

theorem Notices.raiseDeviceFault_counted {n : Notices} (l : Fin 4) (a : Byte) (kind : TroubleKind) :
    (n.raiseDeviceFault l a kind).Counted := by
  rintro d ⟨⟩
  dsimp only
  split
  · exact ⟨satSucc_pos (by decide) _, satSucc_le _ _⟩
  · decide

section Restart
variable (s : State)

theorem State.restart_engine : s.restart.engine = { s.engine.restart with changed := [] } := by
  simp [State.restart, State.emptyNotices]

theorem State.restart_sessions : s.restart.sessions = { fireService := none, management := none } := by
  simp [State.restart]

theorem State.restart_link : s.restart.link = s.link := by simp [State.restart]

theorem State.restart_notices : s.restart.notices = Notices.empty := by
  simp [State.restart, State.emptyNotices]

end Restart

/-! ### One block changed -/

section Blocks
variable {s : State} (h : s.Bounded)
include h

/-- A state whose bounded blocks are those of a bounded one. -/
theorem State.Bounded.of_blocks {t : State} (loops : t.loops = s.loops) (map : t.map = s.map)
    (engine : t.engine = s.engine) (sessions : t.sessions = s.sessions) (mode : t.link.mode = s.link.mode)
    (supervision : t.link.supervision = s.link.supervision)
    (deviceFault : t.notices.deviceFault = s.notices.deviceFault) : t.Bounded where
  loops := by rw [loops]; exact h.loops
  map := by rw [map]; exact h.map
  engine := by rw [engine]; exact h.engine
  sessions := by rw [sessions]; exact h.sessions
  link := { running := by rw [supervision, mode]; exact h.link.running
            timer := by rw [supervision]; exact h.link.timer }
  autonomous := by rw [mode, map]; exact h.autonomous
  deviceFault := by rw [deviceFault]; exact h.deviceFault

theorem State.Bounded.setLoop (l : Fin 4) {r : Receiver} (bounded : r.Bounded) : (s.setLoop l r).Bounded :=
  { h with
    loops := fun j => by
      simp only [State.setLoop, State.setLoops_loops, Fin.getElem_fin, Vector.getElem_set]
      split
      · exact bounded
      · exact h.loops j }

theorem State.Bounded.setNotices {n : Notices} (counted : n.Counted) : (s.setNotices n).Bounded :=
  { h with deviceFault := counted }

theorem State.Bounded.setMap {m : CauseMap} (bounded : m.Bounded) (flushed : s.map.misses = [] → m.misses = []) :
    (s.setMap m).Bounded :=
  { h with map := bounded, autonomous := fun mode => flushed (h.autonomous mode) }

theorem State.Bounded.setEngine {e : Engine} (bounded : e.Bounded) : (s.setEngine e).Bounded :=
  { h with engine := bounded }

theorem State.Bounded.setSession (m : Mic) {x : Option Session} (bounded : ∀ y, x = some y → y.Bounded) :
    (s.setSession m x).Bounded :=
  { h with
    sessions := fun m' y opened => by
      rw [State.setSession, State.setSessions_sessions, Sessions.of_put] at opened
      split at opened
      · exact bounded y opened
      · exact h.sessions m' y opened }

theorem State.Bounded.closeSession (m : Mic) : (s.setSession m none).Bounded :=
  h.setSession m fun y opened => by cases opened

theorem State.Bounded.setPending (x : List Instr) : (s.setPending x).Bounded :=
  { h with }

theorem State.Bounded.setScanner (x : Scanner) : (s.setScanner x).Bounded :=
  { h with }

theorem State.Bounded.onAudio (f : Audio → Audio) : (s.onAudio f).Bounded :=
  { h with }

theorem State.Bounded.onDesk {f : View → Desk → Desk} (sound : ∀ d : Desk, d.notices.SoundChange (f s.view d).notices) :
    (s.onDesk f).Bounded :=
  h.of_blocks rfl rfl rfl rfl rfl rfl (s.onDesk_soundChange sound).deviceFault

theorem State.Bounded.emptyNotices : s.emptyNotices.Bounded :=
  (h.setNotices (n := Notices.empty) (by rintro d ⟨⟩)).setEngine (h.engine.setChanged [])

theorem State.Bounded.inputChange : s.inputChange.Bounded :=
  h.of_blocks (by simp) (by simp) (by simp) (by simp) (by simp) (by simp) s.inputChange_soundChange.deviceFault

theorem State.Bounded.setTests (tests : Vector (Option (Fin 16)) 48) : (s.setTests tests).Bounded :=
  h.of_blocks rfl rfl rfl rfl rfl rfl rfl

theorem State.Bounded.lineChanged (n : Fin 48) (old : LineState) : (s.lineChanged n old).Bounded :=
  h.of_blocks (by simp) (by simp) (by simp) (by simp) (by simp) (by simp) (s.lineChanged_soundChange n old).deviceFault

theorem State.Bounded.writeZone (z : Fin 48) (c : ZoneConfig) : (s.writeZone z c).Bounded :=
  h.of_blocks (by simp [State.writeZone]) (by simp [State.writeZone]) (by simp [State.writeZone])
    (by simp [State.writeZone]) (by simp [State.writeZone]) (by simp [State.writeZone])
    (s.writeZone_soundChange z c).deviceFault

theorem State.Bounded.repetitionOver (k : Fin 6) (w : Walk) : (s.repetitionOver k w).Bounded :=
  h.of_blocks (by simp) (by simp) (by simp) (by simp) (by simp) (by simp) (s.repetitionOver_deviceFault k w)

theorem State.Bounded.takeReading (n : Fin 48) (c : LineClass) : (s.takeReading n c).Bounded :=
  h.of_blocks (by simp) (by simp) (by simp) (by simp) (by simp) (by simp) (s.takeReading_deviceFault n c)

theorem State.Bounded.afterVisit : s.afterVisit.Bounded :=
  h.of_blocks (by simp) (by simp) (by simp) (by simp) (by simp) (by simp) (by simp)

/-! ### Bound reports and misses -/

theorem State.Bounded.engineEvent {e : Engine} (bounded : e.Bounded) : (s.engineEvent e).Bounded :=
  (h.setEngine bounded).of_blocks (by simp) (by simp) (by simp) (by simp) (by simp) (by simp)
    (s.engineEvent_soundChange e).deviceFault

theorem State.Bounded.changeIncident {k : Fin 32} {i j : Incident} (live : s.engine.slots[k].incident = some i)
    (staged : i.Staged j) : (s.changeIncident k i j).Bounded :=
  h.engineEvent (h.engine.putStaged s.now live staged)

theorem State.Bounded.boundReport (r : BoundReport) : (s.boundReport r).Bounded := by
  have taken := h.engine.takeReport s.now s.autonomous r
  unfold State.boundReport
  dsimp only
  split
  · exact (h.setNotices (n := s.notices.raiseSaturation) h.deviceFault).engineEvent taken
  · exact h.engineEvent taken

theorem State.Bounded.boundReports (rs : List BoundReport) : (s.boundReports rs).Bounded :=
  List.foldlRecOn rs _ h fun _ bounded r _ => bounded.boundReport r

theorem State.Bounded.resolveMisses (p : Miss → Bool) (b : Binding) : (s.resolveMisses p b).Bounded := by
  refine State.Bounded.boundReports (h.setMap (h.map.filterMisses fun x => !p x) fun none => ?_) _
  rw [none]
  rfl

theorem State.Bounded.storeEntry (i : Fin 96) (e : MapEntry) (place : Bool) : (s.storeEntry i e place).2.Bounded := by
  refine State.Bounded.resolveMisses (h.setMap ?_ ?_) _ _
  · dsimp only
    split
    · exact (h.map.setEntries _).moveCursor
    · exact h.map.setEntries _
  · dsimp only
    split <;> exact id

/-! ### A character and a take -/

theorem State.Bounded.validReport (l : Fin 4) (a : Byte) (kind : ReportKind) (value : Byte) :
    (s.validReport l a kind value).Bounded := by
  have heard := h.setLoop l (h.loops l).heard
  unfold State.validReport
  dsimp only
  obtain ⟨t, bounded, same⟩ : ∃ t : State, t.Bounded ∧ (if s.loops[l].state = .silent then
      (s.setLoop l s.loops[l].heard).setNotices ((s.setLoop l s.loops[l].heard).notices.raiseLoopFault l)
      else s.setLoop l s.loops[l].heard) = t := by
    refine ⟨_, ?_, rfl⟩
    split
    · exact heard.setNotices h.deviceFault
    · exact heard
  rw [same]
  cases kind with
  | buffered k => exact bounded.setLoop l ((bounded.loops l).offer _)
  | trouble k => exact bounded.setNotices (Notices.raiseDeviceFault_counted l a k)
  | cycleEnd => exact bounded.setLoop l ((bounded.loops l).setLastCycle value)

theorem State.Bounded.completeReport (l : Fin 4) (a kind value check : Byte) :
    (s.completeReport l a kind value check).Bounded := by
  unfold State.completeReport
  split
  · exact h.setLoop l (h.loops l).countCheck
  · exact h.setLoop l (h.loops l).countProtocol
  · exact h.validReport l _ _ _

theorem State.Bounded.placeCharacter (l : Fin 4) (data : Byte) (mark : Bool) :
    (s.placeCharacter l data mark).Bounded := by
  have loop := h.loops l
  unfold State.placeCharacter
  dsimp only
  split
  · exact h.setLoop l (loop.setPartial (Nat.le_of_ble_eq_true rfl))
  · exact h.setLoop l (loop.countProtocol.setPartial (Nat.le_of_ble_eq_true rfl))
  · exact h.setLoop l loop.countProtocol
  · exact (h.setLoop l (loop.setPartial (Nat.zero_le _))).completeReport l _ _ _ _
  · next notThree =>
    refine h.setLoop l (loop.setPartial ?_)
    have short := loop.partialReport
    rw [List.length_append, List.length_singleton]
    by_contra long
    obtain ⟨a, b, c, three⟩ := List.length_eq_three.1 (show s.loops[l].partialReport.length = 3 by omega)
    exact notThree a b c three

theorem State.Bounded.endCharacter (l : Fin 4) (outcome : CharOutcome) : (s.endCharacter l outcome).Bounded := by
  cases outcome with
  | glitch => exact h
  | framingError =>
    exact h.setLoop l (((h.loops l).countFraming.setPartial (Nat.zero_le _)).setLine .waitingForOne)
  | character data mark noisy =>
    unfold State.endCharacter
    dsimp only
    split
    · exact (h.setLoop l (h.loops l).countNoise).placeCharacter l data mark
    · exact h.placeCharacter l data mark

/-- A new miss joins the list only in LINKED mode, for a device that is not pending (R27, R28). -/
theorem State.Bounded.newMiss {r : Report} (fresh : ¬ s.map.misses.any (fun x => x.isFor r.loop r.address) = true)
    (linked : ¬ s.autonomous = true) : (s.newMiss r).Bounded := by
  have raised := h.setNotices (n := s.notices.raiseBindingMiss) h.deviceFault
  unfold State.newMiss
  dsimp only
  split
  · next room =>
    refine { raised with
      map := h.map.addMiss room h.map.deadline.2 fun y mem same => fresh (List.any_eq_true.2 ⟨y, mem, ?_⟩)
      autonomous := fun mode => absurd (decide_eq_true mode) linked }
    simpa [Miss.isFor] using same
  · exact raised.boundReport _

theorem State.Bounded.lookupReport (r : Report) : (s.lookupReport r).Bounded := by
  unfold State.lookupReport
  split
  · refine h.setMap (h.map.merge r) fun none => ?_
    show s.map.misses.map _ = []
    rw [none]
    rfl
  · next fresh =>
    split
    · exact h.boundReport _
    · split
      · exact h.boundReport _
      · next linked => exact h.newMiss fresh linked

theorem State.Bounded.takeFrom (moment : Nat) (l : Fin 4) : (s.takeFrom moment l).Bounded := by
  have loop := h.loops l
  unfold State.takeFrom
  split
  · exact h
  · next r rest held =>
    have full := loop.buffer
    rw [held, List.length_cons] at full
    have taken := h.setLoop l (loop.setBuffer (reports := rest) (by omega))
    exact State.Bounded.lookupReport (taken.setMap (h.map.moveCursor.setTake l moment) id) r

/-! ### Mode change, RESTART, tick -/

theorem State.Bounded.enterAutonomous : s.enterAutonomous.Bounded := by
  have flushed : (((s.setLink { s.link with mode := .autonomous, supervision := none }).onMap
      fun m => { m with misses := m.misses.filter fun _ => !true })).Bounded :=
    { h with
      map := h.map.filterMisses _
      link := ⟨by simp, by rintro t ⟨⟩⟩
      autonomous := fun _ => List.filter_false _ }
  have ended := flushed.boundReports ((s.map.misses.filter fun _ => true).flatMap
    fun x => x.reports s.map.defaultBinding)
  exact ended.engineEvent (ended.engine.autonomousEntry _)

theorem State.Bounded.restart : s.restart.Bounded where
  loops l := by simpa [State.restart] using (h.loops l).restart
  map := by simpa [State.restart] using h.map.filterMisses fun _ => false
  engine := by rw [State.restart_engine]; exact h.engine.restart.setChanged []
  sessions m x opened := by
    rw [State.restart_sessions] at opened
    cases m <;> cases opened
  link := by rw [State.restart_link]; exact h.link
  autonomous _ := by simp [State.restart]
  deviceFault d latest := by
    rw [State.restart_notices] at latest
    cases latest

theorem State.Bounded.tick : s.tick.Bounded where
  loops l := by simpa [State.tick, State.advance] using (h.loops l).tick
  map := h.map.tick
  engine := h.engine.tick
  sessions m y opened := by
    have ticked : s.sessions.tick.of m = some y := opened
    rw [Sessions.of_tick] at ticked
    obtain ⟨x, was, rfl⟩ := Option.map_eq_some_iff.1 ticked
    have bounded := h.sessions m x was
    exact { bounded with timer := (Nat.sub_le _ _).trans bounded.timer }
  link :=
    { running := by simpa [State.tick, State.advance, Link.tick] using h.link.running
      timer := by
        intro t ticked
        obtain ⟨u, was, rfl⟩ := Option.map_eq_some_iff.1 ticked
        exact (Nat.sub_le _ _).trans (h.link.timer u was) }
  autonomous mode := by
    have none : s.map.misses = [] := h.autonomous mode
    simp [State.tick, State.advance, CauseMap.tick, none]
  deviceFault := h.deviceFault

end Blocks

theorem Engine.reset_bounded : Engine.reset.Bounded := by
  have free (k : Fin 32) : Engine.reset.slots[k].incident = none := by simp [Engine.reset]
  exact
    { ages := List.nodup_nil
      floors := by decide
      live := fun k => by rw [free]; simp [Engine.reset]
      incidents := fun k i live => by rw [free] at live; cases live
      zones := fun j k a b live => by rw [free] at live; cases live }

theorem State.reset_bounded : State.reset.Bounded where
  loops l := by simpa [State.reset] using Receiver.reset_bounded
  map := CauseMap.reset_bounded
  engine := Engine.reset_bounded
  sessions := by rintro (_ | _) x ⟨⟩
  link := ⟨by decide, by rintro t ⟨⟩; decide⟩
  autonomous := by rintro ⟨⟩
  deviceFault := by rintro d ⟨⟩

end Sys2Proof.Machine
end

section
/-! PROOF of O56: every request, event and tick keeps the bounds. -/

namespace Sys2Proof.Machine

open Sys2Proof

theorem Session.Bounded.load {x : Session} (h : x.Bounded) : x.load.Bounded :=
  { h with timer := le_refl _ }

theorem State.Bounded.commanded {s t : State} (h : s.Bounded) (left : s.Commanded t) : t.Bounded := by
  cases left with
  | unchanged => exact h
  | loopConfig l enable timeout range => exact h.setLoop l ((h.loops l).configure enable range)
  | loopCleared l => exact h.setLoop l (h.loops l).clearCounts
  | mapWrite i raw e place fields apart agree => exact h.storeEntry i e place
  | mapRemove i => exact h.setMap (h.map.setEntries _) id
  | mapSetWired n => exact h.setMap (h.map.setWired n) id
  | mapSetDefault c r d range => exact h.setMap (h.map.setDefault c r range) id
  | missDefault p => exact h.resolveMisses p _
  | acknowledge k i live => exact h.changeIncident live (i.acknowledge_staged _ _)
  | stage k i stage live => exact h.changeIncident live (i.setStage_staged stage)
  | retire k i live => exact h.engineEvent (h.engine.retire k)
  | saturationClear => exact h.engineEvent { h.engine with }
  | profileWrite n p unused flag => exact h.setEngine { h.engine with }
  | buildingSet floors range quiet inside => exact h.setEngine { h.engine with floors := range }
  | zoneWrite z c floors idle => exact h.writeZone z c
  | testsPlaced tests => exact (h.setTests tests).inputChange
  | micOpen m x limit timer zones =>
    refine (h.setSession m fun y new => ?_).inputChange
    cases new
    exact { limit := limit, timer := timer.le, zones := zones }
  | micRefresh m x opened =>
    refine h.setSession m fun y new => ?_
    cases new
    exact (h.sessions m x opened).load
  | micClose m => exact (h.closeSession m).inputChange
  | ampRestore k i recovered standby =>
    exact h.onDesk fun d =>
      ((Desk.Keeps.mapAudio (d.audio.giveBack_keeps _ k i)).trans (Desk.finish_keeps _ _)).soundChange
  | segmentWrite i x free => exact h.onAudio _
  | programSet p head =>
    refine h.of_blocks rfl rfl rfl rfl rfl rfl ?_
    rw [State.onDesk_notices]
    dsimp only
    split
    · exact (Desk.settle_keeps _ _ _ _ _).soundChange.deviceFault
    · rfl
  | storeSet n range => exact h.onAudio _
  | lineReconnect n locked => exact State.Bounded.lineChanged (h.setScanner _) n _

theorem State.Bounded.requested {s t : State} (h : s.Bounded) (requested : s.Requested t) : t.Bounded := by
  cases requested with
  | noticeRead => exact h.emptyNotices
  | restart quiet => exact h.restart
  | commanded t left => exact h.commanded left

theorem State.Bounded.happened {s t : State} (h : s.Bounded) (happened : s.Happened t) : t.Bounded := by
  cases happened with
  | nothing => exact h
  | powerOnReset => exact State.reset_bounded.of_blocks rfl rfl rfl rfl rfl rfl rfl
  | character l c enabled => exact h.endCharacter l _
  | lineReads1 l => exact h.setLoop l ((h.loops l).setLine .seeking)
  | silence l => exact (h.setLoop l (h.loops l).silenced).setNotices h.deviceFault
  | take moment l => exact h.takeFrom moment l
  | deadline p => exact h.resolveMisses p _
  | investigation k i live => exact h.changeIncident live (i.enterPhased_staged _ _)
  | step k i live => exact h.changeIncident live (i.takeStep_staged _ _)
  | repetition k w walk => exact h.repetitionOver k w
  | grant => exact h.onAudio _
  | fetched page => exact h.onAudio _
  | pageEnd k => exact h.onAudio _
  | faultChange i => exact h.onDesk fun d => d.faultChange_finish_soundChange _ i
  | load => exact h.onAudio _
  | visitStart n => exact h.of_blocks rfl rfl rfl rfl rfl rfl rfl
  | visitEnd v c visit =>
    refine State.Bounded.afterVisit ?_
    split
    · exact h.setScanner _
    · exact (h.setScanner _).takeReading v.line c
  | talk m =>
    refine ((h.closeSession m).setNotices ?_).inputChange
    cases m <;> exact h.deviceFault
  | supervision => exact h.enterAutonomous
  | transactionStart moment =>
    exact h.of_blocks rfl rfl rfl rfl (Link.start_mode _ _) (Link.start_supervision _ _) rfl
  | release moment => exact h.of_blocks rfl rfl rfl rfl rfl rfl rfl
  | checkFail moment code => exact h.of_blocks rfl rfl rfl rfl rfl rfl rfl

theorem State.Bounded.linkValid {s : State} (h : s.Bounded) : s.linkValid.Bounded where
  loops := by rw [State.linkValid_loops]; exact h.loops
  map := by rw [State.linkValid_map]; exact h.map
  engine := by rw [State.linkValid_engine]; exact h.engine
  sessions := by rw [State.linkValid_sessions]; exact h.sessions
  link := by
    refine ⟨?_, fun t timed => ?_⟩
    · rw [State.linkValid_supervision, State.linkValid_mode]
      decide
    · rw [State.linkValid_supervision] at timed
      exact (Option.some.inj timed).ge
  autonomous := by rw [State.linkValid_mode]; rintro ⟨⟩
  deviceFault := by rw [State.linkValid_deviceFault]; exact h.deviceFault

theorem State.bounded_invariant : StepInvariant State.Bounded where
  setPending _ x h := h.setPending x
  linkValid _ h := h.linkValid
  respond _ _ _ _ h := h.of_blocks rfl rfl rfl rfl rfl rfl rfl
  release _ _ h := h.of_blocks rfl rfl rfl rfl rfl rfl rfl
  requested _ _ h := h.requested
  happened _ _ h := h.happened
  tick _ h := h.tick

/-- Settles O56: the bounds are an invariant of every part of a step. -/
theorem boundsAreKept : Obligations.BoundsAreKept := by
  unfold Obligations.BoundsAreKept
  exact fun s t h => State.bounded_invariant.step h

end Sys2Proof.Machine
end

section
/-! SUPPORT. A written map entry field by field, and the laws of the plan through each operation of the state. -/

namespace Sys2Proof.Machine

open Sys2Proof

/-- A map entry is accepted exactly when each of its fields is, and a written entry is valid (R17). -/
theorem entry?_some_iff {floors : Nat} {raw : RawEntry} {e : MapEntry} :
    entry? floors raw = some e ↔
      e.valid = true ∧ selector? raw.loop = some e.selector ∧ inRange? 1 250 raw.base.toNat = some e.base ∧
      (raw.span.toNat ∈ spans ∧ e.base % raw.span.toNat = 0 ∧ e.span = raw.span.toNat) ∧
      inRange? 1 255 raw.zone.toNat = some e.zone ∧ (raw.floor.toNat < floors ∧ e.floor = raw.floor.toNat) ∧
      cls? raw.cls = some e.cls ∧ rule? raw.rule = some e.rule ∧ index? 16 raw.profile.toNat = some e.profile := by
  unfold entry?
  simp only [Option.bind_eq_bind, Option.bind_some, Option.bind_none, Option.bind_eq_some_iff,
    Option.ite_none_right_eq_some, Option.some.injEq]
  constructor
  · rintro ⟨selector, hs, base, hb, ⟨hspan, aligned⟩, zone, hz, hf, c, hc, rule, hr, p, hp, rfl⟩
    exact ⟨rfl, hs, hb, ⟨hspan, aligned, rfl⟩, hz, ⟨hf, rfl⟩, hc, hr, hp⟩
  · rintro ⟨valid, hs, hb, ⟨hspan, aligned, span⟩, hz, ⟨hf, floor⟩, hc, hr, hp⟩
    refine ⟨_, hs, _, hb, ⟨hspan, aligned⟩, _, hz, hf, _, hc, _, hr, _, hp, ?_⟩
    rw [← valid, ← span, ← floor]

/-! ### The map (R18 to R20) -/

/-- Two entries that match one device collide (R19). -/
theorem MapEntry.collides_of_matches {e x : MapEntry} {loop : Fin 4} {address : Nat} (he : e.Matches loop address)
    (hx : x.Matches loop address) : e.collides x = true := by
  obtain ⟨-, selE, lowE, highE⟩ := he
  obtain ⟨-, selX, lowX, highX⟩ := hx
  have share : e.selector = x.selector ∨ e.selector = none ∨ x.selector = none := by
    rcases selE with named | any
    · rcases selX with named' | any'
      · exact .inl (named.trans named'.symm)
      · exact .inr (.inr any')
    · exact .inr (.inl any)
  simp only [MapEntry.collides, Bool.and_eq_true, Bool.or_eq_true, decide_eq_true_eq]
  exact ⟨⟨by tauto, lowE.trans highX⟩, lowX.trans highE⟩

theorem CauseMap.not_collides {m : CauseMap} {index i : Fin 96} {e : MapEntry} (apart : m.overlaps index e = false)
    (other : i ≠ index) (valid : m.entries[i].valid = true) : m.entries[i].collides e = false := by
  by_contra collides
  refine Bool.eq_false_iff.1 apart (List.any_eq_true.2 ⟨i, List.mem_finRange i, ?_⟩)
  simp only [Bool.and_eq_true, decide_eq_true_eq]
  exact ⟨⟨other, valid⟩, Bool.of_not_eq_false collides⟩

theorem CauseMap.agrees {m : CauseMap} {index i : Fin 96} {e : MapEntry} (agree : m.conflicts index e = false)
    (other : i ≠ index) (valid : m.entries[i].valid = true) (zone : m.entries[i].zone = e.zone) :
    m.entries[i].floor = e.floor ∧ m.entries[i].profile = e.profile := by
  by_contra differ
  refine Bool.eq_false_iff.1 agree (List.any_eq_true.2 ⟨i, List.mem_finRange i, ?_⟩)
  simp only [Bool.and_eq_true, Bool.or_eq_true, decide_eq_true_eq]
  exact ⟨⟨⟨other, valid⟩, zone⟩, by tauto⟩

theorem CauseMap.Consistent.of_entries {m m' : CauseMap} (h : m.Consistent) (entries : m'.entries = m.entries) :
    m'.Consistent :=
  ⟨by rw [entries]; exact h.apart, by rw [entries]; exact h.agree⟩

/-- The tests on a write keep the entries apart and in agreement (R19, R20). -/
theorem CauseMap.Consistent.write {m : CauseMap} (h : m.Consistent) {index : Fin 96} {e : MapEntry}
    (apart : m.overlaps index e = false) (agree : m.conflicts index e = false) {m' : CauseMap}
    (entries : m'.entries = m.entries.set index e) : m'.Consistent := by
  have at_ (i : Fin 96) : m'.entries[i] = if i = index then e else m.entries[i] := by
    simp only [entries, Fin.getElem_fin, Vector.getElem_set, Fin.ext_iff, eq_comm]
  have away {i : Fin 96} {loop : Fin 4} {address : Nat} (other : i ≠ index) (hi : m.entries[i].Matches loop address) :
      ¬ e.Matches loop address := fun he => by
    have collides := MapEntry.collides_of_matches hi he
    rw [CauseMap.not_collides apart other hi.1] at collides
    cases collides
  refine ⟨fun i j loop address hi hj => ?_, fun i j hi hj zone => ?_⟩
  · rw [at_] at hi hj
    split_ifs at hi hj with same same' same'
    · exact same.trans same'.symm
    · exact absurd hi (away same' hj)
    · exact absurd hj (away same hi)
    · exact h.apart i j loop address hi hj
  · rw [at_] at hi zone ⊢
    rw [at_] at hj zone ⊢
    split_ifs at hi hj zone ⊢ with same same' same'
    · exact ⟨rfl, rfl⟩
    · obtain ⟨floor, profile⟩ := CauseMap.agrees agree same' hj zone.symm
      exact ⟨floor.symm, profile.symm⟩
    · exact CauseMap.agrees agree same hi zone
    · exact h.agree i j hi hj zone

/-- An entry that is no longer valid matches nothing (R25). -/
theorem CauseMap.Consistent.remove {m : CauseMap} (h : m.Consistent) {index : Fin 96} {e : MapEntry}
    (invalid : e.valid = false) {m' : CauseMap} (entries : m'.entries = m.entries.set index e) : m'.Consistent := by
  have kept {i : Fin 96} (valid : m'.entries[i].valid = true) : m'.entries[i] = m.entries[i] := by
    have at_ : m'.entries[i] = if i = index then e else m.entries[i] := by
      simp only [entries, Fin.getElem_fin, Vector.getElem_set, Fin.ext_iff, eq_comm]
    rw [at_] at valid ⊢
    split_ifs at valid ⊢ with same
    · rw [invalid] at valid
      cases valid
    · rfl
  refine ⟨fun i j loop address hi hj => ?_, fun i j hi hj zone => ?_⟩
  · rw [kept hi.1] at hi
    rw [kept hj.1] at hj
    exact h.apart i j loop address hi hj
  · have sameI := kept hi
    have sameJ := kept hj
    rw [sameI] at hi zone ⊢
    rw [sameJ] at hj zone ⊢
    exact h.agree i j hi hj zone

/-! ### The building floor count (R56) -/

theorem Engine.put_floors (e : Engine) (now : Tick) (k : Fin 32) (i j : Incident) : (e.put now k i j).floors = e.floors := by
  unfold Engine.put
  split <;> rfl

theorem Engine.takeReport_floors (e : Engine) (now : Tick) (a : Bool) (r : BoundReport) :
    (e.takeReport now a r).floors = e.floors := by
  unfold Engine.takeReport
  split
  · split
    · unfold Engine.applyReport
      dsimp only
      split
      · rfl
      · exact Engine.put_floors ..
    · rfl
  · split <;> rfl

theorem State.boundReport_floors (s : State) (r : BoundReport) : (s.boundReport r).engine.floors = s.engine.floors := by
  unfold State.boundReport
  dsimp only
  rw [State.engineEvent_engine]
  exact Engine.takeReport_floors ..

theorem State.boundReports_floors (s : State) (rs : List BoundReport) :
    (s.boundReports rs).engine.floors = s.engine.floors := by
  refine List.foldlRecOn (motive := fun t : State => t.engine.floors = s.engine.floors) rs _ rfl fun t same r _ => ?_
  rw [State.boundReport_floors, same]

theorem State.resolveMisses_floors (s : State) (p : Miss → Bool) (b : Binding) :
    (s.resolveMisses p b).engine.floors = s.engine.floors :=
  State.boundReports_floors _ _

/-! ### Lines (R160 to R167, R170) -/

section Line
variable {x : Line} (h : x.Bounded)
include h

theorem Line.Bounded.enter (c : LineClass) : (x.enter c).Bounded := by
  unfold Line.enter
  split
  · next same =>
    refine { h with run := satSucc_le _ _, reading := ?_ }
    have := satSucc_pos (cap := 3) (by decide) x.run
    dsimp only
    constructor
    · intro none
      rw [none] at same
      cases same
    · omega
  · exact { h with run := Nat.le_of_ble_eq_true rfl, reading := by simp }

theorem Line.Bounded.setState (st : LineState) : ({ x with state := st } : Line).Bounded :=
  { h with }

theorem Line.Bounded.declare (connected : Bool) (c : LineClass) : (x.declare connected c).Bounded := by
  cases c with
  | normal => exact h.setState _
  | opened => exact h.setState _
  | earth => exact h.setState _
  | short =>
    unfold Line.declare Line.shorted
    dsimp only
    split_ifs
    · exact h.setState _
    · exact { h with allowance := (Nat.sub_le _ _).trans h.allowance }
    · exact h.setState _

theorem Line.Bounded.intoUse : x.intoUse.Bounded :=
  { h with run := Nat.zero_le _, reading := by simp [Line.intoUse] }

theorem Line.Bounded.outOfUse : x.outOfUse.Bounded := by
  unfold Line.outOfUse
  split
  · exact h
  · exact { h with run := Nat.zero_le _, reading := by simp }

end Line

section LineStates
variable (x : Line)

theorem Line.enter_state (c : LineClass) : (x.enter c).state = x.state := by
  unfold Line.enter
  split <;> rfl

/-- Only a line with a declared class declares another, so a NOT_SCANNED or LOCKED_OUT line keeps its state (R160, R163). -/
theorem Line.declared_of_declares {c : LineClass} (declares : x.declares = some c) : x.state.declared.isSome := by
  unfold Line.declares at declares
  split at declares
  · next declared _ => rw [declared]; rfl
  · cases declares

theorem LineState.declared_isSome_iff {st : LineState} :
    st.declared.isSome = true ↔ st ≠ .notScanned ∧ st ≠ .lockedOut := by
  cases st <;> simp [LineState.declared]

theorem Line.declare_state_ne (connected : Bool) (c : LineClass) : (x.declare connected c).state ≠ .notScanned := by
  cases c with
  | normal => exact nofun
  | opened => exact nofun
  | earth => exact nofun
  | short =>
    unfold Line.declare Line.shorted
    dsimp only
    split_ifs
    all_goals exact nofun

theorem Line.intoUse_state_ne : x.intoUse.state ≠ .notScanned := by
  unfold Line.intoUse
  dsimp only
  split
  all_goals exact nofun

theorem Line.outOfUse_state : x.outOfUse.state = .notScanned ∨ x.outOfUse.state = .lockedOut := by
  unfold Line.outOfUse
  split
  · next locked => exact .inr locked
  · exact .inl rfl

end LineStates

/-! ### The laws of the plan together -/

/-- The laws of the written tables together: the map consistent, the plan inside the building, the lines following it. -/
structure State.Planned (s : State) : Prop where
  consistent : s.map.Consistent
  inside : s.InBuilding
  lines : s.LinesFollowPlan

section Planned
variable {s : State} (h : s.Planned)
include h

theorem State.Planned.of_plan {t : State} (entries : t.map.entries = s.map.entries)
    (floors : t.engine.floors = s.engine.floors) (configs : t.resolver.configs = s.resolver.configs)
    (lines : t.scanner.lines = s.scanner.lines) : t.Planned where
  consistent := h.consistent.of_entries entries
  inside := ⟨by rw [configs, floors]; exact h.inside.zones, by rw [entries, floors]; exact h.inside.entries⟩
  lines := ⟨by rw [lines]; exact h.lines.bounded, by rw [configs, lines]; exact h.lines.used,
    by rw [configs, lines]; exact h.lines.unused⟩

/-- One line record replaced by one that follows its zone. -/
theorem State.Planned.setLine {t : State} (n : Fin 48) {x : Line} (bounded : x.Bounded)
    (used : s.resolver.configs[n].kind ≠ .unused → x.state ≠ .notScanned)
    (unused : s.resolver.configs[n].kind = .unused → x.state = .notScanned ∨ x.state = .lockedOut)
    (entries : t.map.entries = s.map.entries) (floors : t.engine.floors = s.engine.floors)
    (configs : t.resolver.configs = s.resolver.configs) (lines : t.scanner.lines = s.scanner.lines.set n x) :
    t.Planned := by
  have at_ (j : Fin 48) : t.scanner.lines[j] = if j = n then x else s.scanner.lines[j] := by
    simp only [lines, Fin.getElem_fin, Vector.getElem_set, Fin.ext_iff, eq_comm]
  refine ⟨h.consistent.of_entries entries,
    ⟨by rw [configs, floors]; exact h.inside.zones, by rw [entries, floors]; exact h.inside.entries⟩,
    fun j => ?_, fun j => ?_, fun j => ?_⟩
  all_goals
    rw [at_]
    split
  · exact bounded
  · exact h.lines.bounded j
  · next same => rw [configs, same]; exact used
  · rw [configs]; exact h.lines.used j
  · next same => rw [configs, same]; exact unused
  · rw [configs]; exact h.lines.unused j

end Planned

end Sys2Proof.Machine
end

section
/-! PROOF of O58: every request, event and tick keeps the laws of the written tables. -/

namespace Sys2Proof.Machine

open Sys2Proof

/-! ### What leaves the zone configurations -/

section Configs
variable (s : State)

@[simp] theorem State.setTests_configs (tests : Vector (Option (Fin 16)) 48) :
    (s.setTests tests).resolver.configs = s.resolver.configs := rfl

@[simp] theorem State.setRecords_configs (records : Vector ZoneRecord 48) :
    (s.setRecords records).resolver.configs = s.resolver.configs := rfl

theorem State.boundReports_configs (rs : List BoundReport) :
    (s.boundReports rs).resolver.configs = s.resolver.configs := by
  refine List.foldlRecOn (motive := fun t : State => t.resolver.configs = s.resolver.configs) rs _ rfl fun t same r _ => ?_
  rw [State.boundReport_configs, same]

theorem State.resolveMisses_configs (p : Miss → Bool) (b : Binding) :
    (s.resolveMisses p b).resolver.configs = s.resolver.configs :=
  State.boundReports_configs _ _

theorem State.restart_configs : s.restart.resolver.configs = s.resolver.configs := by
  simp [State.restart]

theorem State.endTaken_configs (p : Fin 16) : (s.endTaken p).resolver.configs = s.resolver.configs := by
  unfold State.endTaken
  dsimp only
  split
  · rw [State.inputChange_configs, State.setNotices_resolver, State.setTests_configs]
  · rfl

theorem State.testEnd_configs (k : Fin 6) (p : Fin 16) : (s.testEnd k p).resolver.configs = s.resolver.configs := by
  unfold State.testEnd
  dsimp only
  split
  · rw [State.walkOn_resolver, State.endTaken_configs, State.onAudio_resolver]
  · rw [State.endTaken_configs, State.onAudio_resolver]

theorem State.repetitionOver_configs (k : Fin 6) (w : Walk) :
    (s.repetitionOver k w).resolver.configs = s.resolver.configs := by
  unfold State.repetitionOver
  split
  · rw [State.walkOn_resolver]
  · split
    · rw [State.walkOn_resolver]
    · rw [State.walkOn_resolver]
    · split
      · exact s.testEnd_configs k _
      · rw [State.walkOn_resolver]

theorem State.afterVisit_lines : s.afterVisit.scanner.lines = s.scanner.lines := by
  unfold State.afterVisit
  split <;> rfl

end Configs

section Planned
variable {s : State} (h : s.Planned)
include h

theorem State.Planned.setEngine {e : Engine} (floors : e.floors = s.engine.floors) : (s.setEngine e).Planned :=
  h.of_plan rfl floors rfl rfl

theorem State.Planned.engineEvent {e : Engine} (floors : e.floors = s.engine.floors) : (s.engineEvent e).Planned :=
  h.of_plan (by simp) (by rw [State.engineEvent_engine, floors]) (by simp) (by simp)

theorem State.Planned.changeIncident (k : Fin 32) (i j : Incident) : (s.changeIncident k i j).Planned :=
  h.engineEvent (s.engine.put_floors s.now k i j)

theorem State.Planned.boundReport (r : BoundReport) : (s.boundReport r).Planned :=
  h.of_plan (by simp) (s.boundReport_floors r) (by simp) (by simp)

theorem State.Planned.onMap {f : CauseMap → CauseMap} (entries : (f s.map).entries = s.map.entries) :
    (s.onMap f).Planned :=
  h.of_plan entries rfl rfl rfl

theorem State.Planned.resolveMisses (p : Miss → Bool) (b : Binding) : (s.resolveMisses p b).Planned :=
  h.of_plan (by rw [State.resolveMisses_map]) (s.resolveMisses_floors p b) (s.resolveMisses_configs p b) (by simp)

theorem State.Planned.lookupReport (r : Report) : (s.lookupReport r).Planned := by
  unfold State.lookupReport
  split
  · exact h.onMap rfl
  · split
    · exact h.boundReport _
    · split
      · exact h.boundReport _
      · unfold State.newMiss
        dsimp only
        split
        · exact h.of_plan rfl rfl rfl rfl
        · exact (h.of_plan rfl rfl rfl rfl : (s.setNotices s.notices.raiseBindingMiss).Planned).boundReport _

theorem State.Planned.takeFrom (moment : Nat) (l : Fin 4) : (s.takeFrom moment l).Planned := by
  unfold State.takeFrom
  split
  · exact h
  · refine State.Planned.lookupReport (State.Planned.onMap ?_ rfl) _
    exact h.of_plan rfl rfl rfl rfl

/-- A map with another entry stored at an index. -/
theorem State.Planned.storeEntry (i : Fin 96) {e : MapEntry} (place : Bool) (floor : e.floor < s.engine.floors)
    (apart : s.map.overlaps i e = false) (agree : s.map.conflicts i e = false) : (s.storeEntry i e place).2.Planned := by
  unfold State.storeEntry
  dsimp only
  have stored {m : CauseMap} (entries : m.entries = s.map.entries.set i e) : (s.setMap m).Planned := by
    refine ⟨h.consistent.write apart agree entries, ⟨h.inside.zones, fun j valid => ?_⟩, ⟨h.lines.bounded, h.lines.used,
      h.lines.unused⟩⟩
    have at_ : m.entries[j] = if j = i then e else s.map.entries[j] := by
      simp only [entries, Fin.getElem_fin, Vector.getElem_set, Fin.ext_iff, eq_comm]
    rw [State.setMap_map, at_] at valid ⊢
    rw [State.setMap_engine]
    split_ifs at valid ⊢
    · exact floor
    · exact h.inside.entries j valid
  refine State.Planned.resolveMisses (stored ?_) _ _
  cases place <;> rfl

theorem State.Planned.removeEntry (i : Fin 96) :
    (s.onMap fun m => { m with entries := m.entries.set i { m.entries[i] with valid := false } }).Planned := by
  refine ⟨h.consistent.remove (e := { s.map.entries[i] with valid := false }) rfl rfl, ⟨h.inside.zones,
    fun j valid => ?_⟩, ⟨h.lines.bounded, h.lines.used, h.lines.unused⟩⟩
  have at_ : (s.map.entries.set i { s.map.entries[i] with valid := false })[j] =
      if j = i then { s.map.entries[i] with valid := false } else s.map.entries[j] := by
    simp only [Fin.getElem_fin, Vector.getElem_set, Fin.ext_iff, eq_comm]
  dsimp only [State.onMap, State.setMap] at valid ⊢
  rw [at_] at valid ⊢
  split_ifs at valid ⊢
  exact h.inside.entries j valid

/-- A building whose floors no valid entry and no used zone reaches beyond (R56). -/
theorem State.Planned.setFloors {floors : Nat} (inside : s.reachesFloor floors = false) :
    (s.setEngine { s.engine with floors := floors }).Planned := by
  have free := Bool.eq_false_iff.1 inside
  rw [ne_eq, State.reachesFloor_iff] at free
  refine ⟨h.consistent, ⟨fun z used => ⟨(h.inside.zones z used).1, ?_⟩, fun i valid => ?_⟩, ⟨h.lines.bounded,
    h.lines.used, h.lines.unused⟩⟩
  · by_contra reaches
    exact free (.inr ⟨z, used, Nat.le_of_not_lt reaches⟩)
  · by_contra reaches
    exact free (.inl ⟨i, valid, Nat.le_of_not_lt reaches⟩)

/-! ### The zone table and the lines -/

theorem State.Planned.writeZone (z : Fin 48) {c : ZoneConfig} (floors : c.floorsOk s.engine.floors = true) :
    (s.writeZone z c).Planned := by
  have config (y : Fin 48) : (s.writeZone z c).resolver.configs[y] = if y = z then c else s.resolver.configs[y] := by
    simp [State.writeZone, Vector.getElem_set, Fin.ext_iff, eq_comm]
  have map : (s.writeZone z c).map = s.map := by simp [State.writeZone]
  have engine : (s.writeZone z c).engine = s.engine := by simp [State.writeZone]
  -- The line of the written zone as the write leaves it, and every other as it was.
  have line : ∃ x : Line, x.Bounded ∧ (c.kind ≠ .unused → x.state ≠ .notScanned) ∧
      (c.kind = .unused → x.state = .notScanned ∨ x.state = .lockedOut) ∧
      ∀ y : Fin 48, (s.writeZone z c).scanner.lines[y] = if y = z then x else s.scanner.lines[y] := by
    have old := h.lines.bounded z
    by_cases was : s.resolver.configs[z].kind = .unused
    · by_cases unused : c.kind = .unused
      · refine ⟨s.scanner.lines[z], old, fun used => absurd unused used, fun _ => h.lines.unused z was, fun y => ?_⟩
        rw [State.writeZone_sameUse ⟨fun _ => unused, fun _ => was⟩]
        split
        · next same => rw [same]
        · rfl
      · refine ⟨s.scanner.lines[z].intoUse, old.intoUse, fun _ => Line.intoUse_state_ne _, fun gone => absurd gone unused,
          fun y => ?_⟩
        rw [State.writeZone_intoUse was unused]
        simp only [Fin.getElem_fin, Vector.getElem_set, Fin.ext_iff, eq_comm]
    · by_cases unused : c.kind = .unused
      · refine ⟨s.scanner.lines[z].outOfUse, old.outOfUse, fun used => absurd unused used,
          fun _ => Line.outOfUse_state _, fun y => ?_⟩
        rw [State.writeZone_outOfUse was unused]
        simp only [Fin.getElem_fin, Vector.getElem_set, Fin.ext_iff, eq_comm]
      · refine ⟨s.scanner.lines[z], old, fun _ => h.lines.used z was, fun gone => absurd gone unused, fun y => ?_⟩
        rw [State.writeZone_sameUse ⟨fun gone => absurd gone was, fun gone => absurd gone unused⟩]
        split
        · next same => rw [same]
        · rfl
  obtain ⟨x, bounded, scanned, unscanned, lines⟩ := line
  refine ⟨by rw [map]; exact h.consistent, ⟨fun y => ?_, ?_⟩, ⟨fun y => ?_, fun y => ?_, fun y => ?_⟩⟩
  · rw [config, engine]
    split
    · exact fun used => ZoneConfig.floorsOk_iff.1 floors |>.resolve_left used
    · exact h.inside.zones y
  · rw [map, engine]
    exact h.inside.entries
  · rw [lines]
    split
    · exact bounded
    · exact h.lines.bounded y
  · rw [config, lines]
    split
    · exact scanned
    · exact h.lines.used y
  · rw [config, lines]
    split
    · exact unscanned
    · exact h.lines.unused y

theorem State.Planned.takeReading (n : Fin 48) (c : LineClass) : (s.takeReading n c).Planned := by
  have entered := (h.lines.bounded n).enter c
  unfold State.takeReading
  dsimp only
  split
  · refine h.setLine n entered ?_ ?_ rfl rfl rfl rfl
    · rw [Line.enter_state]
      exact h.lines.used n
    · rw [Line.enter_state]
      exact h.lines.unused n
  · next d declares =>
    have declared := LineState.declared_isSome_iff.1 (Line.declared_of_declares _ declares)
    rw [Line.enter_state] at declared
    refine h.setLine n (entered.declare _ d) (fun _ => Line.declare_state_ne _ _ _) (fun unused => ?_) (by simp) (by simp)
      (by simp) (by rw [State.lineChanged_scanner]; rfl)
    exact absurd (h.lines.unused n unused) (not_or.2 declared)

theorem State.Planned.reconnect (n : Fin 48) :
    ((s.setLine n { s.scanner.lines[n] with
      state := if s.used n then .normal else .notScanned, allowance := 3 }).lineChanged n s.scanner.lines[n].state).Planned := by
  refine h.setLine n (x := { s.scanner.lines[n] with
      state := if s.used n then .normal else .notScanned, allowance := 3 }) { h.lines.bounded n with allowance := le_refl _ }
    (fun used => ?_) (fun unused => ?_) (by simp) (by simp) (by simp) (by rw [State.lineChanged_scanner]; rfl)
  · rw [if_pos (State.used_iff.2 used)]
    exact nofun
  · rw [if_neg (by rw [State.used_false_iff.2 unused]; exact Bool.false_ne_true)]
    exact .inl rfl

theorem State.Planned.restart : s.restart.Planned :=
  h.of_plan (by simp [State.restart]) (by rw [State.restart_engine, Engine.restart]) s.restart_configs
    (by simp [State.restart])

/-! ### Characters and the mode change -/

theorem State.Planned.validReport (l : Fin 4) (a : Byte) (kind : ReportKind) (value : Byte) :
    (s.validReport l a kind value).Planned := by
  unfold State.validReport
  dsimp only
  split
  all_goals
    split
  all_goals exact h.of_plan rfl rfl rfl rfl

theorem State.Planned.placeCharacter (l : Fin 4) (data : Byte) (mark : Bool) : (s.placeCharacter l data mark).Planned := by
  unfold State.placeCharacter
  dsimp only
  split
  · exact h.of_plan rfl rfl rfl rfl
  · exact h.of_plan rfl rfl rfl rfl
  · exact h.of_plan rfl rfl rfl rfl
  · have cleared : (s.setLoop l { s.loops[l] with partialReport := [] }).Planned := h.of_plan rfl rfl rfl rfl
    unfold State.completeReport
    split
    · exact h.of_plan rfl rfl rfl rfl
    · exact h.of_plan rfl rfl rfl rfl
    · exact cleared.validReport l _ _ _
  · exact h.of_plan rfl rfl rfl rfl

theorem State.Planned.endCharacter (l : Fin 4) (outcome : CharOutcome) : (s.endCharacter l outcome).Planned := by
  cases outcome with
  | glitch => exact h
  | framingError => exact h.of_plan rfl rfl rfl rfl
  | character data mark noisy =>
    unfold State.endCharacter
    dsimp only
    split
    · exact (h.of_plan rfl rfl rfl rfl : (s.setLoop l _).Planned).placeCharacter l data mark
    · exact h.placeCharacter l data mark

theorem State.Planned.enterAutonomous : s.enterAutonomous.Planned := by
  have entered : (s.setLink { s.link with mode := .autonomous, supervision := none }).Planned := h.of_plan rfl rfl rfl rfl
  have flushed : (s.setLink { s.link with mode := .autonomous, supervision := none }).flushMisses.Planned :=
    entered.resolveMisses _ _
  exact flushed.engineEvent (Engine.autonomousEntry_follows _ _).floors

/-! ### Requests and events -/

theorem State.Planned.commanded {t : State} (left : s.Commanded t) : t.Planned := by
  cases left with
  | unchanged => exact h
  | loopConfig l enable timeout range => exact h.of_plan rfl rfl rfl rfl
  | loopCleared l => exact h.of_plan rfl rfl rfl rfl
  | mapWrite i raw e place fields apart agree =>
    obtain ⟨-, -, -, -, -, ⟨inside, floor⟩, -⟩ := entry?_some_iff.1 fields
    exact h.storeEntry i place (by rw [floor]; exact inside) apart agree
  | mapRemove i => exact h.removeEntry i
  | mapSetWired n => exact h.onMap rfl
  | mapSetDefault c r d range => exact h.onMap rfl
  | missDefault p => exact h.resolveMisses p _
  | acknowledge k i live => exact h.changeIncident k i _
  | stage k i stage live => exact h.changeIncident k i _
  | retire k i live => exact h.engineEvent rfl
  | saturationClear => exact h.engineEvent rfl
  | profileWrite n p unused flag => exact h.setEngine rfl
  | buildingSet floors range quiet inside => exact h.setFloors inside
  | zoneWrite z c floors idle => exact h.writeZone z floors
  | testsPlaced tests => exact h.of_plan (by simp) (by simp) (State.inputChange_configs _) (by simp)
  | micOpen m x limit timer zones => exact h.of_plan (by simp) (by simp) (by simp) (by simp)
  | micRefresh m x opened => exact h.of_plan rfl rfl rfl rfl
  | micClose m => exact h.of_plan (by simp) (by simp) (by simp) (by simp)
  | ampRestore k i recovered standby => exact h.of_plan rfl rfl rfl rfl
  | segmentWrite i x free => exact h.of_plan rfl rfl rfl rfl
  | programSet p head => exact h.of_plan rfl rfl rfl rfl
  | storeSet n range => exact h.of_plan rfl rfl rfl rfl
  | lineReconnect n locked => exact h.reconnect n

theorem State.Planned.requested {t : State} (requested : s.Requested t) : t.Planned := by
  cases requested with
  | noticeRead => exact h.of_plan rfl rfl rfl rfl
  | restart quiet => exact h.restart
  | commanded t left => exact h.commanded left

end Planned

theorem State.reset_planned : State.reset.Planned where
  consistent :=
    { apart := fun i j loop address hi => by
        have valid : MapEntry.reset.valid = true := by simpa [State.reset, CauseMap.reset] using hi.1
        cases valid
      agree := fun i j hi => by
        have valid : MapEntry.reset.valid = true := by simpa [State.reset, CauseMap.reset] using hi
        cases valid }
  inside :=
    { zones := fun z used => absurd (by simp [State.reset, Resolver.reset, ZoneConfig.reset]) used
      entries := fun i valid => by
        have valid : MapEntry.reset.valid = true := by simpa [State.reset, CauseMap.reset] using valid
        cases valid }
  lines :=
    { bounded := fun n => by constructor <;> simp [State.reset, Scanner.reset]
      used := fun z used => absurd (by simp [State.reset, Resolver.reset, ZoneConfig.reset]) used
      unused := fun n _ => by simp [State.reset, Scanner.reset] }

theorem State.Planned.happened {s t : State} (h : s.Planned) (happened : s.Happened t) : t.Planned := by
  cases happened with
  | nothing => exact h
  | powerOnReset => exact State.reset_planned.of_plan rfl rfl rfl rfl
  | character l c enabled => exact h.endCharacter l _
  | lineReads1 l => exact h.of_plan rfl rfl rfl rfl
  | silence l => exact h.of_plan rfl rfl rfl rfl
  | take moment l => exact h.takeFrom moment l
  | deadline p => exact h.resolveMisses p _
  | investigation k i live => exact h.changeIncident k i _
  | step k i live => exact h.changeIncident k i _
  | repetition k w walk => exact h.of_plan (by simp) (by simp) (State.repetitionOver_configs s k w) (by simp)
  | grant => exact h.of_plan rfl rfl rfl rfl
  | fetched page => exact h.of_plan rfl rfl rfl rfl
  | pageEnd k => exact h.of_plan rfl rfl rfl rfl
  | faultChange i => exact h.of_plan rfl rfl rfl rfl
  | load => exact h.of_plan rfl rfl rfl rfl
  | visitStart n => exact h.of_plan rfl rfl rfl rfl
  | visitEnd v c visit =>
    have ended : (s.setScanner { s.scanner with visit := none }).Planned := h.of_plan rfl rfl rfl rfl
    have taken : (if v.discard then s.setScanner { s.scanner with visit := none }
        else (s.setScanner { s.scanner with visit := none }).takeReading v.line c).Planned := by
      split
      · exact ended
      · exact ended.takeReading v.line c
    exact taken.of_plan (by simp) (by simp) (by simp) (State.afterVisit_lines _)
  | talk m => exact h.of_plan (by simp) (by simp) (by simp) (by simp)
  | supervision => exact h.enterAutonomous
  | transactionStart moment => exact h.of_plan rfl rfl rfl rfl
  | release moment => exact h.of_plan rfl rfl rfl rfl
  | checkFail moment code => exact h.of_plan rfl rfl rfl rfl

theorem State.planned_invariant : StepInvariant State.Planned where
  setPending _ _ h := h.of_plan rfl rfl rfl rfl
  linkValid _ h := h.of_plan (by simp) (by simp) (by simp) (by simp)
  respond _ _ _ _ h := h.of_plan rfl rfl rfl rfl
  release _ _ h := h.of_plan rfl rfl rfl rfl
  requested _ _ h := h.requested
  happened _ _ h := h.happened
  tick s h := h.of_plan rfl s.engine.tick_follows.floors rfl rfl

/-- Settles O58: the laws together are an invariant of every part of a step. -/
theorem planIsKept : Obligations.PlanIsKept := by
  unfold Obligations.PlanIsKept
  intro s t consistent inside lines stepped
  have planned := State.planned_invariant.step ⟨consistent, inside, lines⟩ stepped
  exact ⟨planned.consistent, planned.inside, planned.lines⟩

end Sys2Proof.Machine
end

section
/-! SUPPORT. What an operation of the pool leaves of the switching unit and of the other players, and what an operation of the
switching unit leaves of the pool. -/

namespace Sys2Proof.Machine

open Sys2Proof

/-! ### Operations on one player -/

/-- The program a player holds (R134). -/
def Audio.held (a : Audio) (k : Fin 6) : Option (Fin 16) :=
  a.players[k].walk.map Walk.program

/-- The counts of a player and of its walk within their bounds (R146). -/
def Player.Bounded (p : Player) : Prop :=
  p.failed ≤ 255 ∧ p.underruns ≤ 255 ∧ ∀ w, p.walk = some w → w.passes ≤ 65535

/-- The switching unit's records, the image among them, are the same on both sides. -/
structure Audio.UnitSame (a b : Audio) : Prop where
  amps : b.amps = a.amps
  failOrder : b.failOrder = a.failOrder
  unserved : b.unserved = a.unserved
  connections : b.connections = a.connections
  image : b.image = a.image

theorem Audio.UnitSame.refl (a : Audio) : a.UnitSame a := ⟨rfl, rfl, rfl, rfl, rfl⟩

theorem Audio.UnitSame.trans {a b c : Audio} (h : a.UnitSame b) (k : b.UnitSame c) : a.UnitSame c where
  amps := k.amps.trans h.amps
  failOrder := k.failOrder.trans h.failOrder
  unserved := k.unserved.trans h.unserved
  connections := k.connections.trans h.connections
  image := k.image.trans h.image

/-- What an operation on player `k` does: the switching unit stays, every other player keeps its program, `k` keeps or gives
up its own, and counts stay in their bounds. -/
structure Audio.PlayerStep (k : Fin 6) (a b : Audio) : Prop where
  same : a.UnitSame b
  held : ∀ j, b.held j = a.held j ∨ (j = k ∧ b.held j = none)
  players : ∀ j : Fin 6, a.players[j].Bounded → b.players[j].Bounded
  size : b.store.size = a.store.size

section PlayerStep
variable {k : Fin 6}

theorem Audio.PlayerStep.refl (a : Audio) : a.PlayerStep k a :=
  ⟨.refl a, fun _ => .inl rfl, fun _ h => h, rfl⟩

theorem Audio.PlayerStep.trans {a b c : Audio} (h : a.PlayerStep k b) (g : b.PlayerStep k c) : a.PlayerStep k c where
  same := h.same.trans g.same
  held j := by
    rcases g.held j with kept | lost
    · rw [kept]
      exact h.held j
    · exact .inr lost
  players j bounded := g.players j (h.players j bounded)
  size := g.size.trans h.size

theorem Audio.held_of_players {a b : Audio} (players : b.players = a.players) (j : Fin 6) : b.held j = a.held j := by
  rw [Audio.held, Audio.held, players]

theorem Audio.PlayerStep.of_players {a b : Audio} (same : a.UnitSame b) (players : b.players = a.players)
    (size : b.store.size = a.store.size) : a.PlayerStep k b :=
  ⟨same, fun j => .inl (Audio.held_of_players players j), fun j => by rw [players]; exact id, size⟩

theorem Audio.setPlayer_step (a : Audio) (k : Fin 6) {p : Player}
    (held : p.walk.map Walk.program = a.held k ∨ p.walk = none) (bounded : a.players[k].Bounded → p.Bounded) :
    a.PlayerStep k (a.setPlayer k p) where
  same := ⟨rfl, rfl, rfl, rfl, rfl⟩
  held j := by
    rw [Audio.held, Audio.setPlayer_players]
    split
    · next same =>
      subst same
      rcases held with kept | idle
      · exact .inl kept
      · exact .inr ⟨rfl, by rw [idle]; rfl⟩
    · exact .inl rfl
  players j := by
    rw [Audio.setPlayer_players]
    split
    · next same => rw [← same]; exact bounded
    · exact id
  size := rfl

/-- A walk replaced by one of the same program and passes. -/
theorem Audio.setWalk_step {a : Audio} {k : Fin 6} {w w' : Walk} (walk : a.players[k].walk = some w)
    (program : w'.program = w.program) (passes : w.passes ≤ 65535 → w'.passes ≤ 65535) :
    a.PlayerStep k (a.setWalk k (some w')) := by
  refine a.setPlayer_step k (.inl ?_) fun bounded => ⟨bounded.1, bounded.2.1, fun x new => ?_⟩
  · rw [Audio.held, walk, Option.map_some, Option.map_some, program]
  · cases new
    exact passes (bounded.2.2 w walk)

theorem Audio.clearWalk_step (a : Audio) (k : Fin 6) : a.PlayerStep k (a.setWalk k none) :=
  a.setPlayer_step k (.inr rfl) fun bounded => ⟨bounded.1, bounded.2.1, fun _ new => by cases new⟩

theorem Audio.request_step (a : Audio) (k : Fin 6) (page : Nat) : a.PlayerStep k (a.request k page) :=
  .of_players ⟨rfl, rfl, rfl, rfl, rfl⟩ rfl rfl

/-- The page buffers of a player written. -/
theorem Audio.setPages_step (a : Audio) (k : Fin 6) (playing ready : Option (Vector Byte 254)) :
    a.PlayerStep k (a.setPlayer k { a.players[k] with playing := playing, ready := ready }) :=
  a.setPlayer_step k (.inl rfl) id

theorem Audio.clearPages_step (a : Audio) (k : Fin 6) : a.PlayerStep k (a.clearPages k) :=
  a.setPages_step k none none

theorem Audio.leaveEntry_step (a : Audio) (k : Fin 6) : a.PlayerStep k (a.leaveEntry k) := by
  unfold Audio.leaveEntry
  dsimp only
  generalize a.store.fetch.map _ = fetch
  have cleared : a.PlayerStep k { a with store := { a.store with requests := a.store.requests.set k none, fetch := fetch } } :=
    .of_players ⟨rfl, rfl, rfl, rfl, rfl⟩ rfl rfl
  exact cleared.trans (Audio.setPages_step _ k none none)

/-- A player that leaves its segment entry keeps its walk. -/
theorem Audio.leaveEntry_walk (a : Audio) (k : Fin 6) : (a.leaveEntry k).players[k].walk = a.players[k].walk := by
  unfold Audio.leaveEntry
  dsimp only
  rw [Audio.setPlayer_players, if_pos rfl]

theorem Audio.idlePlayer_step (a : Audio) (k : Fin 6) : a.PlayerStep k (a.idlePlayer k) :=
  (a.leaveEntry_step k).trans (Audio.clearWalk_step _ k)

theorem Audio.beginRepetition_step (a : Audio) (k : Fin 6) : a.PlayerStep k (a.beginRepetition k) := by
  unfold Audio.beginRepetition
  split
  · exact .refl a
  · next w walk =>
    split
    · refine Audio.PlayerStep.trans ?_ (Audio.request_step _ k _)
      exact Audio.setWalk_step (w := w) walk rfl id
    · exact Audio.setWalk_step (w := w) walk rfl id

theorem Audio.enter_step (a : Audio) (k : Fin 6) (i : Fin 128) : a.PlayerStep k (a.enter k i) := by
  have left := a.leaveEntry_step k
  unfold Audio.enter
  dsimp only
  split
  · exact left
  · next w walk =>
    refine (left.trans ?_).trans (Audio.beginRepetition_step _ k)
    exact Audio.setWalk_step (w := w) walk rfl id

theorem Audio.setPrograms_step (a : Audio) (k : Fin 6) (programs : Vector Program 16) :
    a.PlayerStep k { a with programs := programs } :=
  .of_players ⟨rfl, rfl, rfl, rfl, rfl⟩ rfl rfl

theorem Desk.breakProgram_step (d : Desk) (k : Fin 6) : d.audio.PlayerStep k (d.breakProgram k).audio := by
  unfold Desk.breakProgram
  split
  · exact .refl _
  · exact (Audio.setPrograms_step _ k _).trans (Audio.idlePlayer_step _ k)

theorem Desk.enterSegment_step (d : Desk) (k : Fin 6) (i : Fin 128) :
    d.audio.PlayerStep k (d.enterSegment k i).audio := by
  unfold Desk.enterSegment
  split
  · exact d.audio.enter_step k i
  · exact d.breakProgram_step k

theorem Desk.passStart_step (d : Desk) (k : Fin 6) : d.audio.PlayerStep k (d.passStart k).audio := by
  unfold Desk.passStart
  split
  · exact .refl _
  · split
    · exact d.enterSegment_step k _
    · exact d.breakProgram_step k

theorem Desk.passEnd_step (d : Desk) (k : Fin 6) : d.audio.PlayerStep k (d.passEnd k).audio := by
  unfold Desk.passEnd
  split
  · exact .refl _
  · next w walk =>
    have left := d.audio.leaveEntry_step k
    rw [← Audio.leaveEntry_walk] at walk
    refine (left.trans ?_).trans (Desk.passStart_step _ k)
    exact Audio.setWalk_step (w := w) walk rfl fun _ => satSucc_le _ _

theorem Audio.nextRepetition_step (a : Audio) (k : Fin 6) : a.PlayerStep k (a.nextRepetition k) := by
  have cleared := a.clearPages_step k
  unfold Audio.nextRepetition
  dsimp only
  split
  · exact cleared
  · next w walk =>
    refine (cleared.trans ?_).trans (Audio.beginRepetition_step _ k)
    exact Audio.setWalk_step (w := w) walk rfl id

theorem Audio.endHold_step (a : Audio) (k : Fin 6) : a.PlayerStep k (a.endHold k) := by
  have left := a.leaveEntry_step k
  unfold Audio.endHold
  dsimp only
  split
  · exact left
  · next w walk => exact left.trans (Audio.setWalk_step (w := w) walk rfl id)

theorem Audio.release_step (a : Audio) (k : Fin 6) : a.PlayerStep k (a.release k) := by
  unfold Audio.release
  split
  · exact .refl a
  · next w walk =>
    split
    · exact Audio.setWalk_step (w := w) walk rfl id
    · split
      · exact Audio.setWalk_step (w := w) walk rfl id
      · exact a.idlePlayer_step k

end PlayerStep

/-! ### Operations on players that keep every program -/

/-- What an operation on the pool does that takes no program from a player and gives it none. -/
structure Audio.PoolStep (a b : Audio) : Prop where
  same : a.UnitSame b
  held : ∀ j, b.held j = a.held j
  players : ∀ j : Fin 6, a.players[j].Bounded → b.players[j].Bounded
  size : b.store.size = a.store.size

theorem Audio.PoolStep.refl (a : Audio) : a.PoolStep a := ⟨.refl a, fun _ => rfl, fun _ h => h, rfl⟩

theorem Audio.PoolStep.trans {a b c : Audio} (h : a.PoolStep b) (g : b.PoolStep c) : a.PoolStep c where
  same := h.same.trans g.same
  held j := (g.held j).trans (h.held j)
  players j bounded := g.players j (h.players j bounded)
  size := g.size.trans h.size

/-- An operation on one player that leaves it its walk. -/
theorem Audio.PlayerStep.pool {k : Fin 6} {a b : Audio} (h : a.PlayerStep k b)
    (kept : a.held k ≠ none → b.held k ≠ none) : a.PoolStep b where
  same := h.same
  held j := by
    rcases h.held j with same | ⟨rfl, lost⟩
    · exact same
    · rw [lost]
      by_contra had
      exact kept (Ne.symm had) lost
  players := h.players
  size := h.size

theorem Audio.PoolStep.of_players {a b : Audio} (same : a.UnitSame b) (players : b.players = a.players)
    (size : b.store.size = a.store.size) : a.PoolStep b :=
  ⟨same, Audio.held_of_players players, fun j => by rw [players]; exact id, size⟩

theorem Audio.held_ne_none_iff {a : Audio} {k : Fin 6} : a.held k ≠ none ↔ a.players[k].walk ≠ none := by
  rw [Audio.held, ne_eq, ne_eq, Option.map_eq_none_iff]

theorem Audio.setWalk_pool {a : Audio} {k : Fin 6} {w w' : Walk} (walk : a.players[k].walk = some w)
    (program : w'.program = w.program) (passes : w'.passes = w.passes) : a.PoolStep (a.setWalk k (some w')) := by
  refine (Audio.setWalk_step walk program fun h => passes ▸ h).pool fun _ => ?_
  rw [Audio.held_ne_none_iff, Audio.setWalk_players, if_pos rfl]
  exact nofun

theorem Audio.setPages_pool (a : Audio) (k : Fin 6) (playing ready : Option (Vector Byte 254)) :
    a.PoolStep (a.setPlayer k { a.players[k] with playing := playing, ready := ready }) :=
  (a.setPages_step k playing ready).pool fun had => by
    rw [Audio.held_ne_none_iff] at had ⊢
    rw [Audio.setPlayer_players, if_pos rfl]
    exact had

theorem Audio.request_pool (a : Audio) (k : Fin 6) (page : Nat) : a.PoolStep (a.request k page) :=
  .of_players ⟨rfl, rfl, rfl, rfl, rfl⟩ rfl rfl

theorem Audio.grant_pool (a : Audio) : a.PoolStep a.grant := by
  unfold Audio.grant
  dsimp only
  split
  · exact .of_players ⟨rfl, rfl, rfl, rfl, rfl⟩ rfl rfl
  · exact .refl a

/-- A count of a player that rises by one and stops at 255. -/
theorem Audio.setCounts_pool (a : Audio) (k : Fin 6) {failed underruns : Nat}
    (hf : a.players[k].failed ≤ 255 → failed ≤ 255) (hu : a.players[k].underruns ≤ 255 → underruns ≤ 255) :
    a.PoolStep (a.setPlayer k { a.players[k] with failed := failed, underruns := underruns }) :=
  (a.setPlayer_step k (p := { a.players[k] with failed := failed, underruns := underruns }) (.inl rfl)
    fun bounded => ⟨hf bounded.1, hu bounded.2.1, bounded.2.2⟩).pool fun had => by
      rw [Audio.held_ne_none_iff] at had ⊢
      rw [Audio.setPlayer_players, if_pos rfl]
      exact had

theorem Audio.countFailed_pool (a : Audio) (k : Fin 6) : a.PoolStep (a.countFailed k) :=
  a.setCounts_pool k (fun _ => satSucc_le _ _) id

theorem Audio.countUnderrun_pool (a : Audio) (k : Fin 6) : a.PoolStep (a.countUnderrun k) :=
  a.setCounts_pool k id fun _ => satSucc_le _ _

section Pages
variable {a : Audio} {k : Fin 6} {w : Walk} (walk : a.players[k].walk = some w)
include walk

theorem Audio.playPage_pool (c : ClipWalk) (page : Vector Byte 254) : a.PoolStep (a.playPage k w c page) := by
  have playing := a.setPages_pool k (some page) none
  have walks : (a.setPlayer k { a.players[k] with playing := some page, ready := none }).players[k].walk = some w := by
    rw [Audio.setPlayer_players, if_pos rfl]
    exact walk
  have walked := playing.trans (Audio.setWalk_pool (w' := { w with output := .segment, clip := some c }) walks rfl rfl)
  unfold Audio.playPage
  dsimp only
  split
  · split
    · exact walked.trans (Audio.request_pool _ _ _)
    · exact walked
  · exact walked

theorem Audio.beginFallback_pool (c : ClipWalk) : a.PoolStep (a.beginFallback k w c) := by
  have walks : (a.clearPages k).players[k].walk = some w := by
    rw [Audio.clearPages, Audio.setPlayer_players, if_pos rfl]
    exact walk
  exact (a.setPages_pool k none none).trans (Audio.setWalk_pool walks rfl rfl)

theorem Audio.goodPage_pool (c : ClipWalk) (page : Vector Byte 254) : a.PoolStep (a.goodPage k w c page) := by
  unfold Audio.goodPage
  split
  · exact Audio.playPage_pool walk c page
  · exact Audio.playPage_pool walk c page
  · exact a.setPages_pool k _ _
  · exact .refl a
  · exact .refl a

theorem Audio.storeError_pool (c : ClipWalk) (page : Nat) : a.PoolStep (a.storeError k w c page) := by
  have counted : (a.countFailed k).players[k].walk = some w := by
    rw [Audio.countFailed, Audio.setPlayer_players, if_pos rfl]
    exact walk
  unfold Audio.storeError
  dsimp only
  split
  · refine Audio.PoolStep.trans ?_ (Audio.request_pool _ _ _)
    exact Audio.setWalk_pool walk rfl rfl
  · split
    · exact (a.countFailed_pool k).trans (Audio.beginFallback_pool counted c)
    · exact (a.countFailed_pool k).trans (Audio.beginFallback_pool counted c)
    · exact (a.countFailed_pool k).trans (Audio.setWalk_pool counted rfl rfl)

theorem Audio.pageOver_pool (c : ClipWalk) : a.PoolStep (a.pageOver k w c) := by
  unfold Audio.pageOver
  dsimp only
  split
  · exact Audio.beginFallback_pool walk _
  · split
    · exact Audio.playPage_pool walk _ _
    · have counted : ((a.clearPages k).countUnderrun k).players[k].walk = some w := by
        rw [Audio.countUnderrun, Audio.setPlayer_players, if_pos rfl, Audio.clearPages, Audio.setPlayer_players,
          if_pos rfl]
        exact walk
      exact ((a.setPages_pool k none none).trans (Audio.countUnderrun_pool _ k)).trans (Audio.setWalk_pool counted rfl rfl)

end Pages

theorem Audio.pageEnd_pool (a : Audio) (k : Fin 6) : a.PoolStep (a.pageEnd k) := by
  unfold Audio.pageEnd
  split
  · exact .refl a
  · next w walk =>
    split
    · split
      · exact Audio.pageOver_pool walk _
      · exact .refl a
    · exact .refl a

theorem Audio.fetchDone_pool (a : Audio) (page : Vector Byte 256) : a.PoolStep (a.fetchDone page) := by
  unfold Audio.fetchDone
  split
  · exact .refl a
  · next f _ =>
    have ended : a.PoolStep { a with store := { a.store with fetch := none } } :=
      .of_players ⟨rfl, rfl, rfl, rfl, rfl⟩ rfl rfl
    dsimp only
    split
    · refine ended.trans ?_
      unfold Audio.deliver
      split
      · exact .refl _
      · next w walk =>
        split
        · exact .refl _
        · split
          · exact Audio.goodPage_pool walk _ _
          · exact Audio.storeError_pool walk _ _
    · exact ended

theorem Audio.endHold_pool (a : Audio) (k : Fin 6) : a.PoolStep (a.endHold k) := by
  refine (a.endHold_step k).pool fun had => ?_
  rw [Audio.held_ne_none_iff] at had ⊢
  obtain ⟨w, walk⟩ := Option.ne_none_iff_exists'.1 had
  rw [← Audio.leaveEntry_walk] at walk
  unfold Audio.endHold
  dsimp only
  rw [walk]
  dsimp only
  rw [Audio.setWalk_players, if_pos rfl]
  exact nofun

end Sys2Proof.Machine
end

section
/-! SUPPORT. What operations of the switching unit leave of the pool, the rounds in which the pool settles, and the bounds of
the audio side through both. -/

namespace Sys2Proof.Machine

open Sys2Proof

/-! ### Operations of the switching unit -/

/-- An operation of the switching unit leaves the players, the demand list, the store, and the amplifiers' fault samples. -/
structure Audio.SwitchStep (a b : Audio) : Prop where
  players : b.players = a.players
  demand : b.demand = a.demand
  store : b.store = a.store
  runs : ∀ i : Fin 12, b.amps[i].run = a.amps[i].run
  faults : ∀ i : Fin 12, b.amps[i].fault = a.amps[i].fault

theorem Audio.SwitchStep.refl (a : Audio) : a.SwitchStep a := ⟨rfl, rfl, rfl, fun _ => rfl, fun _ => rfl⟩

theorem Audio.SwitchStep.trans {a b c : Audio} (h : a.SwitchStep b) (g : b.SwitchStep c) : a.SwitchStep c where
  players := g.players.trans h.players
  demand := g.demand.trans h.demand
  store := g.store.trans h.store
  runs i := (g.runs i).trans (h.runs i)
  faults i := (g.faults i).trans (h.faults i)

theorem Audio.SwitchStep.foldl {α : Type} {f : Audio → α → Audio} (h : ∀ (a : Audio) (x : α), a.SwitchStep (f a x))
    (l : List α) (a : Audio) : a.SwitchStep (l.foldl f a) :=
  List.foldlRecOn l f (.refl a) fun b step x _ => step.trans (h b x)

section SwitchStep
variable (v : View) (a : Audio)

theorem Audio.setAmp_switch (i : Fin 12) {x : Amp} (run : x.run = a.amps[i].run) (fault : x.fault = a.amps[i].fault) :
    a.SwitchStep (a.setAmp i x) := by
  have at_ {β : Type} (f : Amp → β) (kept : f x = f a.amps[i]) (j : Fin 12) :
      f (a.setAmp i x).amps[j] = f a.amps[j] := by
    rw [Audio.setAmp_amps]
    split
    · next same => rw [← same, kept]
    · rfl
  exact ⟨rfl, rfl, rfl, at_ Amp.run run, at_ Amp.fault fault⟩

theorem Audio.switchTo_switch (i : Fin 12) (t : Feed) : a.SwitchStep (a.switchTo i t) := a.setAmp_switch i rfl rfl

theorem Audio.setServer_switch (g : Fin 10) (i : Option (Fin 12)) : a.SwitchStep (a.setServer g i) := a.setAmp_switch _ rfl rfl

theorem Audio.setAmpState_switch (i : Fin 12) (st : AmpState) : a.SwitchStep (a.setAmpState i st) := a.setAmp_switch i rfl rfl

theorem Audio.applyTarget_switch (i : Fin 12) (t : Feed) : a.SwitchStep (a.applyTarget i t) := by
  unfold Audio.applyTarget
  dsimp only
  split_ifs
  · exact a.switchTo_switch i t
  · exact a.switchTo_switch i t
  · exact a.setAmp_switch i rfl rfl
  · exact a.switchTo_switch i t

theorem Audio.retarget_switch (g : Fin 10) : a.SwitchStep (a.retarget v g) := by
  unfold Audio.retarget
  split
  · exact a.applyTarget_switch _ _
  · exact .refl a

theorem Audio.setImage_switch (image : Image) : a.SwitchStep (a.setImage image) := by
  unfold Audio.setImage Audio.refresh
  split
  · exact .refl a
  · split
    · exact ⟨rfl, rfl, rfl, fun _ => rfl, fun _ => rfl⟩
    · exact ⟨rfl, rfl, rfl, fun _ => rfl, fun _ => rfl⟩

theorem Audio.decideAll_switch : a.SwitchStep (a.decideAll v) := by
  unfold Audio.decideAll
  exact ⟨rfl, rfl, rfl, fun _ => rfl, fun _ => rfl⟩

theorem Audio.unserved_switch (l : List (Fin 10)) : a.SwitchStep { a with unserved := l } := ⟨rfl, rfl, rfl, fun _ => rfl, fun _ => rfl⟩

theorem Audio.moveGroup_switch (g : Fin 10) (dst : Option (Fin 12)) : a.SwitchStep (a.moveGroup v g dst) := by
  unfold Audio.moveGroup
  dsimp only
  split
  · next i j _ =>
    refine Audio.SwitchStep.trans ((a.switchTo_switch i .none).trans ?_) (Audio.setServer_switch _ _ _)
    exact Audio.setAmp_switch _ _ rfl rfl
  · exact (a.switchTo_switch _ _).trans (Audio.setServer_switch _ _ _)
  · exact ((a.switchTo_switch _ _).trans (Audio.setServer_switch _ _ _)).trans (Audio.retarget_switch v _ _)
  · exact .refl a

theorem Audio.serveQueue_switch (i : Fin 12) : a.SwitchStep (a.serveQueue v i) := by
  unfold Audio.serveQueue
  split
  · exact ((a.unserved_switch _).trans (Audio.setAmpState_switch _ _ _)).trans (Audio.moveGroup_switch v _ _ _)
  · exact .refl a

theorem Audio.giveBack_switch (k : Fin 10) (i : Fin 12) : a.SwitchStep (a.giveBack v k i) :=
  (((a.moveGroup_switch v k _).trans (Audio.setAmpState_switch _ _ _)).trans (Audio.setAmpState_switch _ _ _)).trans
    (Audio.serveQueue_switch v _ _)

theorem Audio.markFailed_switch (k : Fin 10) : a.SwitchStep (a.markFailed v k) := by
  have failed : a.SwitchStep (a.setAmp (dutyAmp k) { a.amps[dutyAmp k] with state := .failed, failedAt := some v.now }) :=
    a.setAmp_switch _ rfl rfl
  exact failed.trans ⟨rfl, rfl, rfl, fun _ => rfl, fun _ => rfl⟩

theorem Audio.losses_switch (before : Vector (Option (Fin 16)) 6) : a.SwitchStep (Audio.losses before a) := by
  unfold Audio.losses
  refine Audio.SwitchStep.foldl (fun b i => ?_) _ a
  split
  · split
    · exact b.switchTo_switch _ _
    · exact .refl b
  · exact .refl b

theorem Audio.boundary_switch (k : Fin 6) : a.SwitchStep (a.boundary k) := by
  unfold Audio.boundary
  refine Audio.SwitchStep.foldl (fun b i => ?_) _ a
  split
  · split
    · exact b.switchTo_switch _ _
    · exact .refl b
  · exact .refl b

theorem Audio.takeBatch_switch (batch : List (Fin 48)) : a.SwitchStep (a.takeBatch v batch) := by
  unfold Audio.takeBatch
  refine Audio.SwitchStep.foldl (fun b i => ?_) _ a
  split
  · split
    · exact b.applyTarget_switch _ _
    · exact .refl b
  · exact .refl b

variable (d : Desk)

theorem Desk.returnOf_switch (i : Fin 12) : d.audio.SwitchStep (d.returnOf v i).audio := by
  unfold Desk.returnOf
  split
  · split
    · exact d.audio.giveBack_switch v _ i
    · exact .refl _
  · exact .refl _

theorem Desk.close_switch : d.audio.SwitchStep (d.close v).audio := by
  unfold Desk.close
  dsimp only [standbys, List.foldl_cons, List.foldl_nil, Desk.mapAudio]
  exact (((d.returnOf_switch v 10).trans (Desk.returnOf_switch v _ 11)).trans (Audio.decideAll_switch v _)).trans
    (Audio.setImage_switch _ _)

theorem Desk.dutyFault_switch (k : Fin 10) : d.audio.SwitchStep (d.dutyFault v k).audio := by
  have failed := d.audio.markFailed_switch v k
  unfold Desk.dutyFault
  split
  · dsimp only
    split
    · exact (failed.trans (Audio.setAmpState_switch _ _ _)).trans (Audio.moveGroup_switch v _ _ _)
    · exact (failed.trans (Audio.moveGroup_switch v _ _ _)).trans (Audio.unserved_switch _ _)
  · exact failed
  · exact .refl _

theorem Desk.dutyClear_switch (k : Fin 10) : d.audio.SwitchStep (d.dutyClear v k).audio := by
  unfold Desk.dutyClear
  split
  · exact d.audio.setAmpState_switch _ _
  · exact ((d.audio.setAmpState_switch _ _).trans (Audio.unserved_switch _ _)).trans (Audio.moveGroup_switch v _ _ _)
  · exact .refl _

theorem Desk.standbyFault_switch (i : Fin 12) : d.audio.SwitchStep (d.standbyFault v i).audio := by
  have failed := d.audio.setAmpState_switch i .failed
  unfold Desk.standbyFault
  dsimp only
  split
  · exact failed
  · split_ifs
    · exact (failed.trans (Audio.moveGroup_switch v _ _ _)).trans (Audio.setAmpState_switch _ _ _)
    · exact (failed.trans (Audio.setAmpState_switch _ _ _)).trans (Audio.moveGroup_switch v _ _ _)
    · exact (failed.trans (Audio.moveGroup_switch v _ _ _)).trans (Audio.unserved_switch _ _)
  · exact .refl _

theorem Desk.standbyClear_switch (i : Fin 12) : d.audio.SwitchStep (d.standbyClear v i).audio := by
  unfold Desk.standbyClear
  split
  · exact (d.audio.setAmpState_switch _ _).trans (Audio.serveQueue_switch v _ _)
  · exact .refl _

/-- A fault change's first part: the amplifier's debounced fault takes its new value, with run count 0 (R124). -/
def Desk.noteFault (i : Fin 12) (d : Desk) : Desk :=
  d.mapAudio fun a => a.setAmp i { a.amps[i] with fault := !a.amps[i].fault, run := 0 }

/-- A fault change is the new fault noted, and what it means for a duty amplifier or a standby (R126 to R128). -/
theorem Desk.faultChange_eq (i : Fin 12) :
    d.faultChange v i =
      match index? 10 i.val, !d.audio.amps[i].fault with
      | some k, true => (d.noteFault i).dutyFault v k
      | some k, false => (d.noteFault i).dutyClear v k
      | none, true => (d.noteFault i).standbyFault v i
      | none, false => (d.noteFault i).standbyClear v i := rfl

theorem Desk.faultChange_switch (i : Fin 12) : (d.noteFault i).audio.SwitchStep (d.faultChange v i).audio := by
  rw [Desk.faultChange_eq]
  split
  · exact Desk.dutyFault_switch v _ _
  · exact Desk.dutyClear_switch v _ _
  · exact Desk.standbyFault_switch v _ _
  · exact Desk.standbyClear_switch v _ _

end SwitchStep

/-! ### Rounds of settling -/

/-- A pass of the pool: the players are released, allocated and started (R134, R136). -/
def Desk.pass (v : View) (d : Desk) : Desk :=
  let demand := d.audio.demandOf v
  let passed := Audio.allocate v demand
    ((List.finRange 6).foldl (fun a k => a.release k) { d.audio with demand := demand }) []
  passed.2.foldl (fun d k => d.passStart k) { d with audio := passed.1 }

/-- A round of settling: a pass, the losses it makes at the servers, and the end of the event at the unit. -/
def Desk.round (v : View) (before : Vector (Option (Fin 16)) 6) (d : Desk) : Desk :=
  ((d.pass v).mapAudio (Audio.losses before)).close v

/-- Settling is rounds: none where nothing is due, and otherwise one with the settling that follows it. -/
theorem Desk.settle_eq_or_round (v : View) (fuel : Nat) (before : Vector (Option (Fin 16)) 6) (force : Bool) (d : Desk) :
    (force = false ∧ Desk.settle v (fuel + 1) before force d = d) ∨ ∃ held failed,
      Desk.settle v (fuel + 1) before force d = Desk.settle v fuel held failed (d.round v before) := by
  by_cases due : (force || d.audio.demandOf v ≠ d.audio.demand || d.audio.releaseDone) = true
  · exact .inr ⟨_, _, if_pos due⟩
  · rw [Bool.or_eq_true, Bool.or_eq_true, not_or, not_or] at due
    exact .inl ⟨Bool.eq_false_iff.2 due.1.1, if_neg (by simpa [not_or, and_assoc] using due)⟩

/-- What every round keeps, settling keeps. -/
theorem Desk.settle_induction {P : Desk → Prop} {v : View} (round : ∀ before d, P d → P (Desk.round v before d)) (fuel : Nat)
    (before : Vector (Option (Fin 16)) 6) (force : Bool) {d : Desk} (h : P d) : P (Desk.settle v fuel before force d) := by
  induction fuel generalizing before force d with
  | zero => exact h
  | succ fuel ih =>
    rcases Desk.settle_eq_or_round v fuel before force d with ⟨-, same⟩ | ⟨held, failed, next⟩
    · rwa [same]
    · rw [next]
      exact ih held failed (round before d h)

/-- Settling with a pass forced makes a round: what every round makes of `Q`, and every round keeps, holds after it. -/
theorem Desk.settle_forced {P Q : Desk → Prop} {v : View} (makes : ∀ before d, Q d → P (Desk.round v before d))
    (weaker : ∀ d, P d → Q d) (before : Vector (Option (Fin 16)) 6) {force : Bool} {d : Desk} (h : Q d)
    (closed : force = false → P d) : P (Desk.settle v settleFuel before force d) := by
  rcases Desk.settle_eq_or_round v 63 before force d with ⟨idle, same⟩ | ⟨held, failed, next⟩
  · rw [settleFuel, same]
    exact closed idle
  · rw [settleFuel, next]
    exact Desk.settle_induction (fun before d closed => makes before d (weaker d closed)) _ _ _ (makes before d h)

/-! ### What a pass leaves -/

theorem Audio.release_same (a : Audio) (l : List (Fin 6)) : a.UnitSame (l.foldl (fun a k => a.release k) a) :=
  List.foldlRecOn (motive := fun b => a.UnitSame b) l _ (.refl a) fun _ same k _ => same.trans (Audio.release_step _ k).same

theorem Audio.take_same (v : View) (a : Audio) (k : Fin 6) (p : Fin 16) : a.UnitSame (a.take v k p) :=
  (a.leaveEntry_step k).same.trans ⟨rfl, rfl, rfl, rfl, rfl⟩

theorem Audio.allocate_same (v : View) (l : List Demand) (a : Audio) (taken : List (Fin 6)) :
    a.UnitSame (Audio.allocate v l a taken).1 := by
  induction l generalizing a taken with
  | nil => exact .refl a
  | cons d lower ih =>
    unfold Audio.allocate
    split
    · exact ih a taken
    · split
      · exact (a.take_same v _ _).trans (ih _ _)
      · exact ih a taken

/-- A pass leaves the switching unit's records. -/
theorem Desk.pass_same (v : View) (d : Desk) : d.audio.UnitSame (d.pass v).audio := by
  unfold Desk.pass
  dsimp only
  have released : d.audio.UnitSame ((List.finRange 6).foldl (fun a k => a.release k)
      { d.audio with demand := d.audio.demandOf v }) :=
    Audio.UnitSame.trans (b := { d.audio with demand := d.audio.demandOf v }) ⟨rfl, rfl, rfl, rfl, rfl⟩
      (Audio.release_same _ _)
  have allocated := released.trans (Audio.allocate_same v (d.audio.demandOf v) _ [])
  exact List.foldlRecOn (motive := fun e : Desk => d.audio.UnitSame e.audio) _ _ allocated fun e same k _ =>
    same.trans (e.passStart_step k).same

/-! ### Bounds -/

section Bounded
variable {a b : Audio} (h : a.Bounded)
include h

theorem Audio.Bounded.player (k : Fin 6) : a.players[k].Bounded :=
  ⟨(h.counts k).1, (h.counts k).2, h.passes k⟩

omit h in
/-- The bounds by the programs held, the players, the run counts and the store. -/
theorem Audio.Bounded.of_held (held : ∀ j k, a.held j = a.held k → a.held j = none ∨ j = k)
    (players : ∀ k : Fin 6, a.players[k].Bounded) (runs : ∀ i : Fin 12, a.amps[i].run ≤ 4)
    (size : 1 ≤ a.store.size ∧ a.store.size ≤ 65536) : a.Bounded where
  players j k x y walkJ walkK same := by
    rcases held j k (by rw [Audio.held, Audio.held, walkJ, walkK, Option.map_some, Option.map_some, same]) with none | eq
    · rw [Audio.held, walkJ] at none
      cases none
    · exact eq
  runs := runs
  counts k := ⟨(players k).1, (players k).2.1⟩
  passes k := (players k).2.2
  size := size

theorem Audio.Bounded.held (j k : Fin 6) (same : a.held j = a.held k) : a.held j = none ∨ j = k := by
  cases walkJ : a.players[j].walk with
  | none => exact .inl (by rw [Audio.held, walkJ]; rfl)
  | some x =>
    rw [Audio.held, Audio.held, walkJ] at same
    obtain ⟨y, walkK, program⟩ := Option.map_eq_some_iff.1 same.symm
    exact .inr (h.players j k x y walkJ walkK program.symm)

theorem Audio.Bounded.switch (step : a.SwitchStep b) : b.Bounded where
  players := by rw [step.players]; exact h.players
  counts := by rw [step.players]; exact h.counts
  passes := by rw [step.players]; exact h.passes
  size := by rw [step.store]; exact h.size
  runs i := by rw [step.runs]; exact h.runs i

theorem Audio.Bounded.step {k : Fin 6} (step : a.PlayerStep k b) : b.Bounded := by
  refine .of_held (fun i j same => ?_) (fun j => step.players j (h.player j)) (by rw [step.same.amps]; exact h.runs)
    (by rw [step.size]; exact h.size)
  rcases step.held i with keptI | ⟨-, lost⟩
  · rcases step.held j with keptJ | ⟨-, lost⟩
    · rw [keptI, keptJ] at same
      rw [keptI]
      exact h.held i j same
    · exact .inl (same.trans lost)
  · exact .inl lost

theorem Audio.Bounded.pool (step : a.PoolStep b) : b.Bounded := by
  refine .of_held (fun i j same => ?_) (fun j => step.players j (h.player j)) (by rw [step.same.amps]; exact h.runs)
    (by rw [step.size]; exact h.size)
  rw [step.held, step.held] at same
  rw [step.held]
  exact h.held i j same

/-- A player is given only a program that none holds (R134). -/
theorem Audio.Bounded.take (v : View) (k : Fin 6) {p : Fin 16} (free : a.playerOf p = none) : (a.take v k p).Bounded := by
  have left := h.step (a.leaveEntry_step k)
  have unheld (j : Fin 6) : (a.leaveEntry k).held j ≠ some p := fun holds => by
    have holds' : a.held j = some p := by
      rcases (a.leaveEntry_step k).held j with kept | ⟨-, lost⟩
      · rw [← kept]
        exact holds
      · rw [lost] at holds
        cases holds
    obtain ⟨w, walk, program⟩ := Option.map_eq_some_iff.1 holds'
    have some_ := Audio.playerOf_isSome.2 ⟨j, w, walk, program⟩
    rw [free] at some_
    cases some_
  have at_ (j : Fin 6) : (a.take v k p).held j = if k = j then some p else (a.leaveEntry k).held j := by
    rw [Audio.held, Audio.take, Audio.setWalk_players]
    split <;> rfl
  refine .of_held (fun i j same => ?_) (fun j => ?_) left.runs left.size
  · rw [at_, at_] at same
    rw [at_]
    split_ifs at same ⊢ with one two three
    · exact .inr (one.symm.trans two)
    · exact absurd same.symm (unheld j)
    · exact absurd same (unheld i)
    · exact left.held i j same
  · rw [Audio.take, Audio.setWalk_players]
    split
    · refine ⟨(left.player k).1, (left.player k).2.1, fun w new => ?_⟩
      cases new
      exact Nat.zero_le _
    · exact left.player j

theorem Audio.Bounded.allocate (v : View) (l : List Demand) (taken : List (Fin 6)) :
    (Audio.allocate v l a taken).1.Bounded := by
  induction l generalizing a taken with
  | nil => exact h
  | cons d lower ih =>
    unfold Audio.allocate
    split
    · exact ih h taken
    · next free =>
      rw [Bool.or_eq_true, not_or, Option.not_isSome_iff_eq_none] at free
      split
      · exact ih (h.take v _ free.2) _
      · exact ih h taken

end Bounded

theorem Desk.pass_bounded (v : View) {d : Desk} (h : d.audio.Bounded) : (d.pass v).audio.Bounded := by
  have demanded : ({ d.audio with demand := d.audio.demandOf v } : Audio).Bounded := { h with }
  have released : ((List.finRange 6).foldl (fun (a : Audio) k => a.release k)
      { d.audio with demand := d.audio.demandOf v }).Bounded :=
    List.foldlRecOn (motive := Audio.Bounded) _ _ demanded fun _ bounded k _ => bounded.step (Audio.release_step _ k)
  exact List.foldlRecOn (motive := fun e : Desk => e.audio.Bounded) _ _ (released.allocate v _ []) fun e bounded k _ =>
    bounded.step (e.passStart_step k)

theorem Desk.close_bounded (v : View) {d : Desk} (h : d.audio.Bounded) : (d.close v).audio.Bounded :=
  h.switch (d.close_switch v)

theorem Desk.round_bounded (v : View) (before : Vector (Option (Fin 16)) 6) (d : Desk) (h : d.audio.Bounded) :
    (d.round v before).audio.Bounded :=
  Desk.close_bounded v ((Desk.pass_bounded v h).switch (Audio.losses_switch _ before))

theorem Desk.settle_bounded (v : View) (fuel : Nat) (before : Vector (Option (Fin 16)) 6) (force : Bool) {d : Desk}
    (h : d.audio.Bounded) : (Desk.settle v fuel before force d).audio.Bounded :=
  Desk.settle_induction (P := fun e => e.audio.Bounded) (Desk.round_bounded v) fuel before force h

theorem Desk.finish_bounded (v : View) {d : Desk} (h : d.audio.Bounded) : (d.finish v).audio.Bounded :=
  Desk.settle_bounded v _ _ _ (Desk.close_bounded v h)

end Sys2Proof.Machine
end

section
/-! SUPPORT. What every event does to the audio side and to what it reads of the other blocks, said once: a property that keeps
through each kind of event is an invariant of the step. -/

namespace Sys2Proof.Machine

open Sys2Proof

/-! ### What resolution can give -/

/-- What a runtime record of the resolver satisfies whatever the inputs: an UNUSED zone's rank is NONE, and a record of a
program rank names a program (R92 to R94). -/
structure View.Sound (v : View) : Prop where
  unused : ∀ z : Fin 48, v.configs[z].kind = .unused → v.records[z].rank = .none
  program : ∀ (z : Fin 48) (r : ProgramRank), v.records[z].rank = r.rank → v.records[z].program ≠ none

theorem mem_sessionClaim {x : Option Session} {m : Mic} {r : Rank} {z : Fin 48} {c : Claim} (mem : c ∈ sessionClaim x m r z) :
    c = { rank := r, origin := .mic m } := by
  unfold sessionClaim at mem
  split at mem
  · split at mem
    · exact List.mem_singleton.1 mem
    · cases mem
  · cases mem

/-- A live incident's slot stands behind a claim of an incident. -/
theorem Engine.live_of_mem_claims {e : Engine} {z : ZoneConfig} {c : Claim} (mem : c ∈ e.claims z) :
    ∃ (k : Fin 32) (i : Incident), c.origin = .incident k ∧ e.slots[k].incident = some i := by
  obtain ⟨k, -, made⟩ := List.mem_filterMap.1 mem
  split at made
  · next i live =>
    dsimp only at made
    split at made
    · cases made
    · cases made
      exact ⟨k, i, rfl, live⟩
  · cases made

/-- A claim at a program rank gives a record that names a program (R94). -/
theorem recordOf_program {e : Engine} {x : Sessions} {r : Resolver} {z : Fin 48} {c : Claim} (mem : c ∈ claims e x r z)
    {rank : ProgramRank} (at_ : (recordOf e c).rank = rank.rank) : (recordOf e c).program ≠ none := by
  have microphone {m : Mic} {high : Rank} (live : ∀ p : ProgramRank, high ≠ p.rank)
      (eq : c = { rank := high, origin := .mic m }) : (recordOf e c).program ≠ none := by
    rw [eq] at at_
    cases m <;> exact absurd at_ (live rank)
  unfold claims at mem
  split at mem
  · cases mem
  · rcases List.mem_append.1 mem with mem | test
    · rcases List.mem_append.1 mem with mem | management
      · rcases List.mem_append.1 mem with mem | fire
        · rcases List.mem_append.1 mem with incident | saturated
          · obtain ⟨k, i, origin, live⟩ := Engine.live_of_mem_claims incident
            simp only [recordOf, origin, live, Option.map_some]
            exact nofun
          · split at saturated
            · rw [List.mem_singleton.1 saturated]
              exact nofun
            · cases saturated
        · exact microphone (fun p => by cases p <;> exact nofun) (mem_sessionClaim fire)
      · exact microphone (fun p => by cases p <;> exact nofun) (mem_sessionClaim management)
    · split at test
      · rw [List.mem_singleton.1 test]
        exact nofun
      · cases test

theorem resolveZone_program {e : Engine} {x : Sessions} {r : Resolver} {z : Fin 48} {rank : ProgramRank}
    (at_ : (resolveZone e x r z).rank = rank.rank) : (resolveZone e x r z).program ≠ none := by
  unfold resolveZone at at_ ⊢
  dsimp only at at_ ⊢
  split at at_
  · next c found =>
    exact recordOf_program (List.mem_of_find?_eq_some found) at_
  · cases rank <;> cases at_

theorem State.resolved_at (s : State) (z : Fin 48) : s.resolved[z] = resolveZone s.engine s.sessions s.resolver z := by
  simp [State.resolved]

theorem State.setRecords_view (s : State) (records : Vector ZoneRecord 48) :
    (s.setRecords records).view = { s.view with records := records } := rfl

theorem State.inputChange_view (s : State) : s.inputChange.view = { s.view with records := s.resolved } := by
  simp [State.view, State.inputChange_resolver]

theorem State.inputChange_sound (s : State) : s.inputChange.view.Sound := by
  rw [State.inputChange_view]
  refine ⟨fun z unused => ?_, fun z rank at_ => ?_⟩
  · dsimp only at unused ⊢
    rw [State.resolved_at, resolveZone_unused unused]
    rfl
  · dsimp only at at_ ⊢
    rw [State.resolved_at] at at_ ⊢
    exact resolveZone_program at_

theorem State.RecordsResolved.sound {s : State} (h : s.RecordsResolved) : s.view.Sound := by
  refine ⟨fun z unused => ?_, fun z rank at_ => ?_⟩
  · have record := h z
    rw [resolveZone_unused unused] at record
    exact congrArg ZoneRecord.rank record
  · have record : s.view.records[z] = _ := h z
    rw [record] at at_ ⊢
    exact resolveZone_program at_

/-! ### Two views alike -/

/-- Two views that differ at most in what neither connections nor ranks read: the age list, the tick count, and the lines
but for their eligibility. -/
structure View.Alike (v w : View) : Prop where
  configs : w.configs = v.configs
  records : w.records = v.records
  lines : ∀ n : Fin 48, w.lines[n].state.eligible = v.lines[n].state.eligible

theorem View.Alike.refl (v : View) : v.Alike v := ⟨rfl, rfl, fun _ => rfl⟩

/-- The view after an input change: the records of `batch` are new, and a zone's configuration has changed only where the
zone was DISCONNECTED (R80, R97). -/
structure View.Changed (v w : View) (a : Audio) (batch : List (Fin 48)) : Prop where
  sound : w.Sound
  lines : ∀ n : Fin 48, w.lines[n].state.eligible = v.lines[n].state.eligible
  records : ∀ z : Fin 48, z ∉ batch → w.records[z] = v.records[z]
  configs : ∀ z : Fin 48, w.configs[z] = v.configs[z] ∨ a.connections[z] = .disconnected

/-- The view after RESTART: every record is empty (R95). -/
structure View.Emptied (v w : View) : Prop where
  configs : w.configs = v.configs
  lines : w.lines = v.lines
  records : ∀ z : Fin 48, w.records[z].rank = .none

/-! ### Events of the desk with names -/

/-- A boundary reported and the walk carried on, at the desk (R120, R149). -/
def Desk.walkOn (v : View) (k : Fin 6) (walk : Desk → Desk) (d : Desk) : Desk :=
  let told := (d.mapAudio (Audio.boundary k)).close v
  let walked := walk told
  walked.settle v settleFuel told.audio.holding walked.audio.players[k].walk.isNone

theorem State.walkOn_eq (s : State) (k : Fin 6) (walk : Desk → Desk) :
    s.walkOn k walk = s.onDesk fun v d => d.walkOn v k walk := rfl

/-- What a refresh, a load and the line select change: the line select of the image and the shift-out. -/
structure Audio.Shifted (a b : Audio) : Prop where
  eq : b = { a with image := { a.image with lineSelect := b.image.lineSelect }, shifting := b.shifting,
                    refreshDue := b.refreshDue, loaded := b.loaded }

theorem Audio.Shifted.refl (a : Audio) : a.Shifted a := ⟨rfl⟩

theorem Audio.Shifted.trans {a b c : Audio} (h : a.Shifted b) (g : b.Shifted c) : a.Shifted c := by
  refine ⟨?_⟩
  rw [g.eq, h.eq]

theorem Audio.refresh_shifted (a : Audio) : a.Shifted a.refresh := by
  unfold Audio.refresh
  split <;> exact ⟨rfl⟩

theorem Audio.setLineSelect_shifted (a : Audio) (n : Option (Fin 48)) :
    a.Shifted { a with image := { a.image with lineSelect := n } } := ⟨rfl⟩

theorem Audio.selectLine_shifted (a : Audio) (n : Fin 48) : a.Shifted (a.selectLine n) :=
  (a.setLineSelect_shifted (some n)).trans (Audio.refresh_shifted _)

theorem Audio.clearLine_shifted (a : Audio) : a.Shifted a.clearLine := by
  unfold Audio.clearLine Audio.setImage
  split
  · exact .refl a
  · exact (a.setLineSelect_shifted none).trans (Audio.refresh_shifted _)

theorem Audio.load_shifted (a : Audio) : a.Shifted a.load := ⟨rfl⟩

theorem Audio.refreshFrom_shifted (a : Audio) (image : Image) : a.Shifted (a.refreshFrom image) := by
  unfold Audio.refreshFrom
  split
  · exact a.refresh_shifted
  · exact .refl a

/-! ### Invariants of the audio side -/

/-- A property of the audio side and of what it reads that each kind of event keeps. -/
structure UnitInvariant (P : View → Audio → Prop) : Prop where
  alike : ∀ {v w : View} {a : Audio}, v.Alike w → P v a → P w a
  pool : ∀ {v : View} {a b : Audio}, a.PoolStep b → P v a → P v b
  shifted : ∀ {v : View} {a b : Audio}, a.Shifted b → P v a → P v b
  storeSize : ∀ {v : View} {a : Audio} {n : Nat}, 1 ≤ n ∧ n ≤ 65536 → P v a →
    P v { a with store := { a.store with size := n } }
  tick : ∀ {v : View} {a : Audio} (pins : Pins), P v a → P v (a.tick pins)
  rezoned : ∀ {v w : View} {a : Audio}, v.Changed w a [] → P v a → P w a
  batch : ∀ {v w : View} {d : Desk} {batch : List (Fin 48)}, v.Changed w d.audio batch → P v d.audio →
    P w ((d.mapAudio (Audio.takeBatch w batch)).finish w).audio
  line : ∀ {v w : View} {d : Desk} (n : Fin 48), w.configs = v.configs → w.records = v.records →
    (∀ m : Fin 48, m ≠ n → w.lines[m] = v.lines[m]) → P v d.audio →
    P w ((d.mapAudio (Audio.retarget w w.configs[n].duty)).finish w).audio
  settle : ∀ {v : View} {d : Desk} (before : Vector (Option (Fin 16)) 6) (force : Bool), P v d.audio →
    P v (d.settle v settleFuel before force).audio
  walkOn : ∀ {v : View} {d : Desk} {k : Fin 6} {walk : Desk → Desk},
    (∀ e : Desk, e.audio.PlayerStep k (walk e).audio) → P v d.audio → P v (d.walkOn v k walk).audio
  giveBack : ∀ {v : View} {d : Desk} {k : Fin 10} {i : Fin 12}, d.audio.amps[dutyAmp k].state = .recovered →
    d.audio.standbyOf k = some i → P v d.audio → P v ((d.mapAudio (Audio.giveBack v k i)).finish v).audio
  faultChange : ∀ {v : View} {d : Desk} (i : Fin 12), P v d.audio → P v ((d.faultChange v i).finish v).audio
  restart : ∀ {v w : View} {d : Desk}, v.Emptied w → P v d.audio → P w (d.restart w).audio
  reset : P State.reset.view Audio.reset

/-- The property of the state as it stands. -/
def State.Has (P : View → Audio → Prop) (s : State) : Prop :=
  P s.view s.audio

theorem State.setLine_lines (s : State) (n m : Fin 48) (x : Line) :
    (s.setLine n x).scanner.lines[m] = if m = n then x else s.scanner.lines[m] := by
  simp only [State.setLine, State.setScanner_scanner, Fin.getElem_fin, Vector.getElem_set, Fin.ext_iff, eq_comm]

theorem State.onDesk_has (P : View → Audio → Prop) (s : State) (f : View → Desk → Desk) :
    (s.onDesk f).Has P ↔ P s.view (f s.view { audio := s.audio, notices := s.notices }).audio := Iff.rfl

section Derived
variable {P : View → Audio → Prop} (inv : UnitInvariant P) {s : State}
include inv

/-- Nothing has changed that the property speaks of. -/
theorem UnitInvariant.of_blocks {t : State} (h : s.Has P) (audio : t.audio = s.audio)
    (resolver : t.resolver = s.resolver) (lines : t.scanner.lines = s.scanner.lines) : t.Has P := by
  have alike : s.view.Alike t.view :=
    ⟨congrArg Resolver.configs resolver, congrArg Resolver.records resolver, fun n => by
      show t.scanner.lines[n].state.eligible = s.scanner.lines[n].state.eligible
      rw [lines]⟩
  rw [State.Has, audio]
  exact inv.alike alike h

/-- An input change, `v` the view before the inputs were written (R96, R97). -/
theorem UnitInvariant.inputChange {v : View} (h : P v s.audio) (records : v.records = s.resolver.records)
    (lines : v.lines = s.scanner.lines)
    (configs : ∀ z : Fin 48, s.resolver.configs[z] = v.configs[z] ∨ s.audio.connections[z] = .disconnected) :
    s.inputChange.Has P := by
  have changed {batch : List (Fin 48)} (covers : ∀ z : Fin 48, z ∉ batch → s.resolved[z] = s.resolver.records[z]) :
      v.Changed s.inputChange.view s.audio batch := by
    refine ⟨s.inputChange_sound, fun n => ?_, fun z out => ?_, fun z => ?_⟩
    · rw [State.inputChange_view, lines]
      rfl
    · rw [State.inputChange_view, records]
      exact covers z out
    · rw [State.inputChange_view]
      exact configs z
  have outside (z : Fin 48) (out : z ∉ s.batch) : s.resolved[z] = s.resolver.records[z] := by
    by_contra differs
    exact out (List.mem_filter.2 ⟨List.mem_finRange z, decide_eq_true differs⟩)
  by_cases empty : s.batch.isEmpty = true
  · have same : s.inputChange.audio = s.audio := by
      unfold State.inputChange
      rw [if_pos empty, State.setRecords_audio]
    rw [State.Has, same]
    exact inv.rezoned (changed fun z _ => outside z (by rw [List.isEmpty_iff.1 empty]; exact List.not_mem_nil)) h
  · have resolved : (s.setRecords s.resolved).view = s.inputChange.view := by
      rw [State.inputChange_view, State.setRecords_view]
    have taken := inv.batch (d := { audio := s.audio, notices := s.notices }) (changed outside) h
    unfold State.inputChange
    dsimp only
    rw [if_neg empty, State.onDesk_has, resolved, State.setRecords_audio, State.setRecords_notices]
    exact taken

/-- An input change of a state whose resolver's configurations, records and lines are those of `s`. -/
theorem UnitInvariant.inputChange_of {t : State} (h : s.Has P) (audio : t.audio = s.audio)
    (configs : t.resolver.configs = s.resolver.configs) (records : t.resolver.records = s.resolver.records)
    (lines : t.scanner.lines = s.scanner.lines) : t.inputChange.Has P :=
  inv.inputChange (v := s.view) (by rw [audio]; exact h) records.symm lines.symm fun z => .inl (by rw [configs]; rfl)

theorem UnitInvariant.withdrawTests (h : s.Has P) : s.withdrawTests.Has P := by
  unfold State.withdrawTests
  split
  · exact inv.inputChange_of h rfl rfl rfl rfl
  · exact h

theorem UnitInvariant.engineEvent (h : s.Has P) (e : Engine) : (s.engineEvent e).Has P := by
  have changed : (s.setEngine e).inputChange.Has P := inv.inputChange_of h rfl rfl rfl rfl
  unfold State.engineEvent
  dsimp only
  split
  · split
    · exact inv.withdrawTests changed
    · exact changed
  · exact inv.of_blocks h rfl rfl rfl

theorem UnitInvariant.boundReport (h : s.Has P) (r : BoundReport) : (s.boundReport r).Has P := by
  unfold State.boundReport
  dsimp only
  split
  · exact inv.engineEvent (inv.of_blocks h rfl rfl rfl : (s.setNotices s.notices.raiseSaturation).Has P) _
  · exact inv.engineEvent h _

theorem UnitInvariant.boundReports (h : s.Has P) (rs : List BoundReport) : (s.boundReports rs).Has P :=
  List.foldlRecOn (motive := fun t : State => t.Has P) rs _ h fun _ has r _ => inv.boundReport has r

theorem UnitInvariant.resolveMisses (h : s.Has P) (p : Miss → Bool) (b : Binding) : (s.resolveMisses p b).Has P :=
  inv.boundReports (s := s.onMap _) (inv.of_blocks h rfl rfl rfl) _

theorem UnitInvariant.lookupReport (h : s.Has P) (r : Report) : (s.lookupReport r).Has P := by
  unfold State.lookupReport
  split
  · exact inv.of_blocks h rfl rfl rfl
  · split
    · exact inv.boundReport h _
    · split
      · exact inv.boundReport h _
      · have raised : (s.setNotices s.notices.raiseBindingMiss).Has P := inv.of_blocks h rfl rfl rfl
        unfold State.newMiss
        dsimp only
        split
        · exact inv.of_blocks h rfl rfl rfl
        · exact inv.boundReport raised _

theorem UnitInvariant.takeFrom (h : s.Has P) (moment : Nat) (l : Fin 4) : (s.takeFrom moment l).Has P := by
  unfold State.takeFrom
  split
  · exact h
  · dsimp only
    refine inv.lookupReport ?_ _
    exact inv.of_blocks h rfl rfl rfl

theorem UnitInvariant.enterAutonomous (h : s.Has P) : s.enterAutonomous.Has P := by
  have entered : (s.setLink { s.link with mode := .autonomous, supervision := none }).Has P := inv.of_blocks h rfl rfl rfl
  exact inv.engineEvent (inv.resolveMisses entered _ _) _

/-- A line written and the change told, `s` the state before (R115). -/
theorem UnitInvariant.lineChanged {t : State} (h : s.Has P) (n : Fin 48) (audio : t.audio = s.audio)
    (resolver : t.resolver = s.resolver) (lines : ∀ m : Fin 48, m ≠ n → t.scanner.lines[m] = s.scanner.lines[m]) :
    (t.lineChanged n s.scanner.lines[n].state).Has P := by
  have has : P s.view t.audio := by rw [audio]; exact h
  unfold State.lineChanged
  split
  · next same =>
    refine inv.alike (v := s.view) ⟨congrArg Resolver.configs resolver, congrArg Resolver.records resolver, fun m => ?_⟩ has
    show t.scanner.lines[m].state.eligible = s.scanner.lines[m].state.eligible
    by_cases here : m = n
    · rw [here, same]
    · rw [lines m here]
  · rw [State.onDesk_has]
    exact inv.line (v := s.view) (w := t.view) (d := { audio := t.audio, notices := t.notices }) n
      (congrArg Resolver.configs resolver) (congrArg Resolver.records resolver) lines has

/-- A line record replaced, and the change told. -/
theorem UnitInvariant.setLine (h : s.Has P) (n : Fin 48) (x : Line) :
    ((s.setLine n x).lineChanged n s.scanner.lines[n].state).Has P :=
  inv.lineChanged h n rfl rfl fun m other => by
    have := State.setLine_lines s n m x
    rw [this, if_neg other]

end Derived

end Sys2Proof.Machine
end

section
/-! SUPPORT. A property that keeps through each kind of event at the audio side is an invariant of the step. -/

namespace Sys2Proof.Machine

open Sys2Proof

/-- What RESTART leaves of the audio side and of what it reads: the inputs are gone, so every record is empty (R95, R113). -/
def State.cleared (s : State) : State :=
  (((s.setEngine s.engine.restart).setSessions { fireService := none, management := none }).setTests
    (Vector.replicate 48 none))

theorem State.cleared_resolved (s : State) (quiet : s.engine.saturated = false) (z : Fin 48) :
    s.cleared.resolved[z] = ZoneRecord.empty := by
  have none : s.cleared.resolver.tests[z] = none := by simp [State.cleared, State.setTests]
  have ages : s.cleared.engine.ages = [] := by simp [State.cleared, Engine.restart]
  have flag : s.cleared.engine.saturated = false := by simpa [State.cleared, Engine.restart] using quiet
  have unclaimed : claims s.cleared.engine s.cleared.sessions s.cleared.resolver z = [] := by
    unfold claims
    split
    · rfl
    · rw [Engine.claims, ages, flag, none]
      simp [State.cleared, sessionClaim]
  rw [State.resolved_at, resolveZone, unclaimed]
  rfl

theorem Engine.saturated_of_quiet {e : Engine} (quiet : e.alarmActive = false) : e.saturated = false := by
  unfold Engine.alarmActive at quiet
  exact (Bool.or_eq_false_iff.1 quiet).2

theorem State.resolved_congr {s t : State} (engine : t.engine = s.engine) (sessions : t.sessions = s.sessions)
    (resolver : t.resolver = s.resolver) : t.resolved = s.resolved := by
  unfold State.resolved
  rw [engine, sessions, resolver]

/-- The view once the inputs are gone. -/
def State.clearedView (s : State) : View :=
  { s.view with records := s.cleared.resolved, ages := [] }

theorem State.restart_audio (s : State) :
    s.restart.audio = (Desk.restart s.clearedView { audio := s.audio, notices := s.notices }).audio := by
  obtain ⟨records, same⟩ : ∃ x, x = s.cleared.resolved := ⟨_, rfl⟩
  have resolved : (((((s.setLoops (Vector.ofFn fun l => s.loops[l].restart)).setMap { s.map with misses := [] }).setEngine
      s.engine.restart).setSessions { fireService := none, management := none }).setTests
        (Vector.replicate 48 none)).resolved = records := by
    rw [same]
    exact State.resolved_congr (by simp [State.cleared]) (by simp [State.cleared]) (by simp [State.cleared, State.setTests])
  unfold State.restart
  dsimp only [State.setLoops_map, State.setLoops_engine, State.setMap_engine]
  rw [resolved, State.emptyNotices_audio, State.onDesk_audio, State.clearedView, ← same]
  simp [State.view, Engine.restart, State.setRecords, State.setTests]

theorem State.restart_scanner (s : State) : s.restart.scanner = s.scanner := by
  simp [State.restart]

theorem State.restart_records (s : State) : s.restart.resolver.records = s.cleared.resolved := by
  unfold State.restart
  dsimp only
  rw [State.emptyNotices_resolver, State.onDesk_resolver]
  show State.resolved _ = _
  exact State.resolved_congr (by simp [State.cleared]) (by simp [State.cleared]) (by simp [State.cleared, State.setTests])

section Derived
variable {P : View → Audio → Prop} (inv : UnitInvariant P) {s : State}
include inv

theorem UnitInvariant.onAudio (h : s.Has P) {f : Audio → Audio} (step : s.audio.PoolStep (f s.audio)) :
    (s.onAudio f).Has P :=
  inv.pool step h

theorem UnitInvariant.onAudio_shifted (h : s.Has P) {f : Audio → Audio} (step : s.audio.Shifted (f s.audio)) :
    (s.onAudio f).Has P :=
  inv.shifted step h

theorem UnitInvariant.walk (h : s.Has P) (k : Fin 6) {walk : Desk → Desk}
    (steps : ∀ e : Desk, e.audio.PlayerStep k (walk e).audio) : (s.walkOn k walk).Has P := by
  rw [State.walkOn_eq, State.onDesk_has]
  exact inv.walkOn (d := { audio := s.audio, notices := s.notices }) steps h

theorem UnitInvariant.endTaken (h : s.Has P) (p : Fin 16) : (s.endTaken p).Has P := by
  unfold State.endTaken
  dsimp only
  split
  · exact inv.inputChange_of h (by simp) (by simp) (by simp [State.setTests]) (by simp)
  · exact h

theorem UnitInvariant.repetitionOver (h : s.Has P) (k : Fin 6) (w : Walk) : (s.repetitionOver k w).Has P := by
  unfold State.repetitionOver
  split
  · exact inv.walk h k fun e => e.audio.nextRepetition_step k
  · split
    · exact inv.walk h k fun e => e.enterSegment_step k _
    · exact inv.walk h k fun e => e.passEnd_step k
    · split
      · have ended := inv.endTaken (inv.onAudio h (f := fun a => a.endHold k) (s.audio.endHold_pool k)) w.program
        unfold State.testEnd
        dsimp only
        split
        · exact inv.walk ended k fun e => e.passEnd_step k
        · exact ended
      · exact inv.walk h k fun e => e.passEnd_step k

theorem UnitInvariant.writeZone (h : s.Has P) {z : Fin 48} (idle : s.audio.connections[z] = .disconnected)
    (c : ZoneConfig) : (s.writeZone z c).Has P := by
  have stored : (s.setResolver { s.resolver with configs := s.resolver.configs.set z c }).inputChange.Has P := by
    refine inv.inputChange (v := s.view) h rfl rfl fun y => ?_
    by_cases here : y = z
    · exact .inr (here ▸ idle)
    · refine .inl ?_
      show (s.resolver.configs.set z c)[y] = s.resolver.configs[y]
      simp only [Fin.getElem_fin]
      exact Vector.getElem_set_ne _ _ (fun same => here (Fin.ext same.symm))
  unfold State.writeZone
  generalize State.inputChange _ = u at stored ⊢
  unfold State.zoneWritten
  dsimp only
  split
  · exact inv.setLine stored z _
  · refine inv.lineChanged stored z (by simp) (by simp) fun m other => ?_
    rw [State.setLine_lines, if_neg other]
    rfl
  · exact stored

theorem UnitInvariant.takeReading (h : s.Has P) (n : Fin 48) (c : LineClass) : (s.takeReading n c).Has P := by
  have kept := (s.scanner.lines[n]).enter_state c
  unfold State.takeReading
  dsimp only
  split
  · refine inv.alike (v := s.view) ⟨rfl, rfl, fun m => ?_⟩ h
    show (s.setLine n _).scanner.lines[m].state.eligible = s.scanner.lines[m].state.eligible
    rw [State.setLine_lines]
    split
    · next same => rw [kept, same]
    · rfl
  · rw [kept]
    refine inv.lineChanged h n rfl rfl fun m other => ?_
    rw [State.setNotices_scanner, State.setLine_lines, if_neg other]

theorem UnitInvariant.beginVisit (h : s.Has P) (n : Fin 48) : (s.beginVisit n).Has P := by
  have visited : (s.setScanner { s.scanner with visit := some { line := n, discard := false }, last := n }).Has P :=
    inv.of_blocks h rfl rfl rfl
  exact inv.onAudio_shifted visited (f := fun a => a.selectLine n) (s.audio.selectLine_shifted n)

theorem UnitInvariant.afterVisit (h : s.Has P) : s.afterVisit.Has P := by
  unfold State.afterVisit
  split
  · exact inv.beginVisit h _
  · exact inv.onAudio_shifted h s.audio.clearLine_shifted

theorem UnitInvariant.restarted (h : s.Has P) (quiet : s.engine.saturated = false) : s.restart.Has P := by
  have emptied : s.view.Emptied s.clearedView :=
    ⟨rfl, rfl, fun z => congrArg ZoneRecord.rank (s.cleared_resolved quiet z)⟩
  have done := inv.restart (d := { audio := s.audio, notices := s.notices }) emptied h
  have alike : s.clearedView.Alike s.restart.view :=
    ⟨s.restart_configs, s.restart_records, fun n => by
      show s.restart.scanner.lines[n].state.eligible = s.scanner.lines[n].state.eligible
      rw [State.restart_scanner]⟩
  rw [State.Has, State.restart_audio]
  exact inv.alike alike done

theorem UnitInvariant.placeCharacter (h : s.Has P) (l : Fin 4) (data : Byte) (mark : Bool) :
    (s.placeCharacter l data mark).Has P := by
  unfold State.placeCharacter
  dsimp only
  split
  · exact inv.of_blocks h rfl rfl rfl
  · exact inv.of_blocks h rfl rfl rfl
  · exact inv.of_blocks h rfl rfl rfl
  · unfold State.completeReport
    split
    · exact inv.of_blocks h rfl rfl rfl
    · exact inv.of_blocks h rfl rfl rfl
    · unfold State.validReport
      dsimp only
      split
      all_goals
        split
      all_goals exact inv.of_blocks h rfl rfl rfl
  · exact inv.of_blocks h rfl rfl rfl

theorem UnitInvariant.endCharacter (h : s.Has P) (l : Fin 4) (outcome : CharOutcome) : (s.endCharacter l outcome).Has P := by
  cases outcome with
  | glitch => exact h
  | framingError => exact inv.of_blocks h rfl rfl rfl
  | character data mark noisy =>
    unfold State.endCharacter
    dsimp only
    split
    · exact inv.placeCharacter (inv.of_blocks h rfl rfl rfl : (s.setLoop l _).Has P) l data mark
    · exact inv.placeCharacter h l data mark

theorem UnitInvariant.commanded {t : State} (h : s.Has P) (left : s.Commanded t) : t.Has P := by
  cases left with
  | unchanged => exact h
  | loopConfig l enable timeout range => exact inv.of_blocks h rfl rfl rfl
  | loopCleared l => exact inv.of_blocks h rfl rfl rfl
  | mapWrite i raw e place fields apart agree =>
    unfold State.storeEntry
    exact inv.resolveMisses (s := s.onMap _) (inv.of_blocks h rfl rfl rfl) _ _
  | mapRemove i => exact inv.of_blocks h rfl rfl rfl
  | mapSetWired n => exact inv.of_blocks h rfl rfl rfl
  | mapSetDefault c r d range => exact inv.of_blocks h rfl rfl rfl
  | missDefault p => exact inv.resolveMisses h p _
  | acknowledge k i live => exact inv.engineEvent h _
  | stage k i stage live => exact inv.engineEvent h _
  | retire k i live => exact inv.engineEvent h _
  | saturationClear => exact inv.engineEvent h _
  | profileWrite n p unused flag => exact inv.of_blocks h rfl rfl rfl
  | buildingSet floors range quiet inside => exact inv.of_blocks h rfl rfl rfl
  | zoneWrite z c floors idle => exact inv.writeZone h idle c
  | testsPlaced tests => exact inv.inputChange_of h rfl rfl rfl rfl
  | micOpen m x limit timer zones => exact inv.inputChange_of h rfl rfl rfl rfl
  | micRefresh m x opened => exact inv.of_blocks h rfl rfl rfl
  | micClose m => exact inv.inputChange_of h rfl rfl rfl rfl
  | ampRestore k i recovered standby =>
    rw [State.onDesk_has]
    exact inv.giveBack (d := { audio := s.audio, notices := s.notices }) recovered standby h
  | segmentWrite i x free => exact inv.onAudio h (.of_players ⟨rfl, rfl, rfl, rfl, rfl⟩ rfl rfl)
  | programSet p head =>
    have set : P s.view (s.audio.setProgram p head) :=
      inv.pool (a := s.audio) (.of_players ⟨rfl, rfl, rfl, rfl, rfl⟩ rfl rfl) h
    rw [State.onDesk_has]
    dsimp only
    split
    · exact inv.settle (d := ({ audio := s.audio, notices := s.notices } : Desk).mapAudio _) _ _ set
    · exact set
  | storeSet n range => exact inv.storeSize range h
  | lineReconnect n locked => exact inv.setLine h n _

theorem UnitInvariant.requested {t : State} (h : s.Has P) (requested : s.Requested t) : t.Has P := by
  cases requested with
  | noticeRead => exact inv.of_blocks h rfl rfl rfl
  | restart quiet => exact inv.restarted h (Engine.saturated_of_quiet quiet)
  | commanded t left => exact inv.commanded h left

theorem UnitInvariant.happened {t : State} (h : s.Has P) (happened : s.Happened t) : t.Has P := by
  cases happened with
  | nothing => exact h
  | powerOnReset => exact inv.of_blocks (s := State.reset) inv.reset rfl rfl rfl
  | character l c enabled => exact inv.endCharacter h l _
  | lineReads1 l => exact inv.of_blocks h rfl rfl rfl
  | silence l => exact inv.of_blocks h rfl rfl rfl
  | take moment l => exact inv.takeFrom h moment l
  | deadline p => exact inv.resolveMisses h p _
  | investigation k i live => exact inv.engineEvent h _
  | step k i live => exact inv.engineEvent h _
  | repetition k w walk => exact inv.repetitionOver h k w
  | grant => exact inv.onAudio h s.audio.grant_pool
  | fetched page => exact inv.onAudio h (f := fun a => a.fetchDone page) (s.audio.fetchDone_pool page)
  | pageEnd k => exact inv.onAudio h (f := fun a => a.pageEnd k) (s.audio.pageEnd_pool k)
  | faultChange i =>
    rw [State.onDesk_has]
    exact inv.faultChange (d := { audio := s.audio, notices := s.notices }) i h
  | load => exact inv.onAudio_shifted h s.audio.load_shifted
  | visitStart n => exact inv.beginVisit h n
  | visitEnd v c visit =>
    have ended : (s.setScanner { s.scanner with visit := none }).Has P := inv.of_blocks h rfl rfl rfl
    refine inv.afterVisit ?_
    split
    · exact ended
    · exact inv.takeReading ended v.line c
  | talk m => exact inv.inputChange_of h rfl rfl rfl rfl
  | supervision => exact inv.enterAutonomous h
  | transactionStart moment => exact inv.of_blocks h rfl rfl rfl
  | release moment => exact inv.of_blocks h rfl rfl rfl
  | checkFail moment code => exact inv.of_blocks h rfl rfl rfl

/-- A property that keeps through each kind of event at the audio side is an invariant of the step. -/
theorem UnitInvariant.stepInvariant : StepInvariant (State.Has P) where
  setPending _ _ h := inv.of_blocks h rfl rfl rfl
  linkValid _ h := inv.of_blocks h (by simp) (by simp) (by simp)
  respond _ _ _ _ h := inv.of_blocks h rfl rfl rfl
  release _ _ h := inv.of_blocks h rfl rfl rfl
  requested _ _ h := inv.requested h
  happened _ _ h := inv.happened h
  tick s h := inv.alike (v := s.view) ⟨rfl, rfl, fun _ => rfl⟩ (inv.tick s.pins h)

end Derived

end Sys2Proof.Machine
end

section
/-! SUPPORT. The bounds of the audio side and the switching image are invariants of the audio side's events. -/

namespace Sys2Proof.Machine

open Sys2Proof

theorem Amp.sample_eq (x : Amp) (low : Bool) : x.sample low = { x with run := (x.sample low).run } := by
  unfold Amp.sample
  split <;> rfl

theorem Amp.sample_run_le (x : Amp) (low : Bool) : (x.sample low).run ≤ 4 := by
  unfold Amp.sample
  split
  · exact Nat.zero_le _
  · exact satSucc_le _ _

theorem Audio.held_tick (a : Audio) (pins : Pins) (j : Fin 6) : (a.tick pins).held j = a.held j := by
  rw [Audio.held, Audio.held, Audio.tick_players, Player.tick, Option.map_map]
  rfl

theorem Audio.serverOf_tick (a : Audio) (pins : Pins) (g : Fin 10) : (a.tick pins).serverOf g = a.serverOf g := by
  rw [Audio.serverOf, Audio.tick_amps, Amp.sample_eq]
  rfl

theorem Audio.reset_player (k : Fin 6) : Audio.reset.players[k] = Player.reset := by
  simp [Audio.reset]

theorem Audio.reset_amp (i : Fin 12) : Audio.reset.amps[i] = Amp.reset i := by
  simp [Audio.reset]

/-! ### Bounds (R124, R134, R146, R153) -/

section Bounded
variable {a b : Audio} (h : a.Bounded)
include h

theorem Audio.Bounded.shifted (step : a.Shifted b) : b.Bounded := by
  rw [step.eq]
  exact { h with }

theorem Audio.Bounded.setSize {n : Nat} (range : 1 ≤ n ∧ n ≤ 65536) :
    ({ a with store := { a.store with size := n } } : Audio).Bounded :=
  { h with size := range }

theorem Audio.Bounded.setRuns (amps : Vector Amp 12) (runs : ∀ i : Fin 12, amps[i].run ≤ 4) :
    ({ a with amps := amps } : Audio).Bounded :=
  { h with runs := runs }

theorem Audio.Bounded.tick (pins : Pins) : (a.tick pins).Bounded := by
  refine .of_held (fun i j same => ?_) (fun k => ?_) (fun i => ?_) h.size
  · rw [Audio.held_tick, Audio.held_tick] at same
    rw [Audio.held_tick]
    exact h.held i j same
  · rw [Audio.tick_players]
    refine ⟨(h.player k).1, (h.player k).2.1, fun w ticked => ?_⟩
    obtain ⟨w', walk, rfl⟩ := Option.map_eq_some_iff.1 ticked
    exact (h.player k).2.2 w' walk
  · rw [Audio.tick_amps]
    exact Amp.sample_run_le _ _

theorem Audio.Bounded.restart : a.restart.Bounded := by
  have emptied : ({ a with
      amps := Vector.ofFn fun i => { a.amps[i] with feed := .none, pending := none }
      connections := Vector.replicate 48 .disconnected
      carried := Vector.replicate 48 false
      demand := [] } : Audio).Bounded :=
    { h with runs := fun i => by simpa using h.runs i }
  exact List.foldlRecOn (motive := Audio.Bounded) _ _ emptied fun _ bounded k _ => bounded.step (Audio.idlePlayer_step _ k)

end Bounded

theorem Desk.noteFault_bounded (i : Fin 12) {d : Desk} (h : d.audio.Bounded) : (d.noteFault i).audio.Bounded := by
  refine h.setRuns _ fun j => ?_
  have := Audio.setAmp_amps d.audio i j { d.audio.amps[i] with fault := !d.audio.amps[i].fault, run := 0 }
  rw [Audio.setAmp] at this
  rw [this]
  split
  · exact Nat.zero_le _
  · exact h.runs j

theorem Audio.reset_bounded : Audio.reset.Bounded := by
  refine .of_held (fun j k same => .inl ?_) (fun k => ?_) (fun i => ?_) (by decide)
  · rw [Audio.held, Audio.reset_player]
    rfl
  · rw [Audio.reset_player]
    exact ⟨Nat.zero_le _, Nat.zero_le _, fun w walk => by cases walk⟩
  · rw [Audio.reset_amp]
    exact Nat.zero_le _

theorem Desk.mapAudio_audio (d : Desk) (f : Audio → Audio) : (d.mapAudio f).audio = f d.audio := rfl

theorem Desk.restart_audio (v : View) (d : Desk) :
    (d.restart v).audio = Audio.refreshFrom d.audio.image ((d.mapAudio Audio.restart).finish v).audio := by
  rw [Desk.restart, Desk.mapAudio_audio]

theorem bounded_unitInvariant : UnitInvariant fun _ a => a.Bounded where
  alike _ h := h
  pool step h := h.pool step
  shifted step h := h.shifted step
  storeSize range h := h.setSize range
  tick pins h := h.tick pins
  rezoned _ h := h
  batch {_ w d batch} _ h := by
    refine Desk.finish_bounded _ ?_
    rw [Desk.mapAudio_audio]
    exact h.switch (Audio.takeBatch_switch w d.audio batch)
  line {_ w d} n _ _ _ h := Desk.finish_bounded _ (h.switch (Audio.retarget_switch w d.audio w.configs[n].duty))
  settle _ _ h := Desk.settle_bounded _ _ _ _ h
  walkOn {_ d k _} steps h :=
    Desk.settle_bounded _ _ _ _ ((Desk.close_bounded _ (h.switch (Audio.boundary_switch d.audio k))).step (steps _))
  giveBack {v d k i} _ _ h := Desk.finish_bounded _ (h.switch (Audio.giveBack_switch v d.audio k i))
  faultChange {v d} i h := Desk.finish_bounded _ ((Desk.noteFault_bounded i h).switch (Desk.faultChange_switch v d i))
  restart {_ w d} _ h := by
    rw [Desk.restart_audio]
    exact (Desk.finish_bounded w (d := d.mapAudio Audio.restart) h.restart).shifted (Audio.refreshFrom_shifted _ _)
  reset := Audio.reset_bounded

/-! ### The switching image (R114, R122, R137) -/

/-- The image names each feed's delivery and each CONNECTED zone's server. -/
structure Audio.ImageTrue (v : View) (a : Audio) : Prop where
  sources : ∀ i : Fin 12, a.image.sources[i] = a.sourceOf a.amps[i].feed
  relays : ∀ z : Fin 48, a.image.relays[z] =
    if a.connections[z] = .connected then a.serverOf v.configs[z].duty else none

theorem Audio.playerOf_eq_held (a : Audio) (p : Fin 16) :
    a.playerOf p = (List.finRange 6).find? fun k => a.held k = some p := by
  unfold Audio.playerOf Audio.held
  congr 1
  funext k
  cases a.players[k].walk with
  | none => rfl
  | some w => simp

theorem Audio.playerOf_congr {a b : Audio} (held : ∀ j, b.held j = a.held j) : b.playerOf = a.playerOf := by
  funext p
  simp only [Audio.playerOf_eq_held, held]

theorem Audio.sourceOf_congr {a b : Audio} (held : ∀ j, b.held j = a.held j) : b.sourceOf = a.sourceOf := by
  funext f
  unfold Audio.sourceOf
  rw [Audio.playerOf_congr held]

theorem Audio.serverOf_congr {a b : Audio} (amps : b.amps = a.amps) : b.serverOf = a.serverOf := by
  funext g
  rw [Audio.serverOf, Audio.serverOf, amps]

section ImageTrue
variable {v : View} {a b : Audio} (h : a.ImageTrue v)
include h

theorem Audio.ImageTrue.pool (step : a.PoolStep b) : b.ImageTrue v where
  sources i := by
    rw [Audio.sourceOf_congr step.held, step.same.image, step.same.amps]
    exact h.sources i
  relays z := by
    rw [step.same.image, step.same.connections, Audio.serverOf_congr step.same.amps]
    exact h.relays z

theorem Audio.ImageTrue.shifted (step : a.Shifted b) : b.ImageTrue v := by
  rw [step.eq]
  exact ⟨h.sources, h.relays⟩

theorem Audio.ImageTrue.of_configs {w : View}
    (configs : ∀ z : Fin 48, w.configs[z] = v.configs[z] ∨ a.connections[z] = .disconnected) : a.ImageTrue w where
  sources := h.sources
  relays z := by
    rw [h.relays]
    rcases configs z with same | open_
    · rw [same]
    · rw [open_]
      rfl

theorem Audio.ImageTrue.tick (pins : Pins) : (a.tick pins).ImageTrue v where
  sources i := by
    rw [Audio.sourceOf_congr (a.held_tick pins), Audio.tick_amps, Amp.sample_eq]
    exact h.sources i
  relays z := by
    rw [Audio.serverOf_tick]
    exact h.relays z

end ImageTrue

theorem Audio.setImage_image (a : Audio) (image : Image) : (a.setImage image).image = image := by
  unfold Audio.setImage Audio.refresh
  split
  · next same => exact same.symm
  · split <;> rfl

theorem Audio.setImage_amps (a : Audio) (image : Image) : (a.setImage image).amps = a.amps := by
  unfold Audio.setImage Audio.refresh
  split
  · rfl
  · split <;> rfl

theorem Audio.setImage_connections (a : Audio) (image : Image) : (a.setImage image).connections = a.connections := by
  unfold Audio.setImage Audio.refresh
  split
  · rfl
  · split <;> rfl

/-- The end of an event makes the image true, whatever it was. -/
theorem Desk.close_imageTrue (v : View) (d : Desk) : (d.close v).audio.ImageTrue v := by
  unfold Desk.close
  dsimp only [Desk.mapAudio]
  generalize Audio.decideAll v _ = a
  have players : (a.setImage (a.imageOf v)).players = a.players := (a.setImage_switch _).players
  refine ⟨fun i => ?_, fun z => ?_⟩
  · rw [Audio.sourceOf_congr (Audio.held_of_players players), Audio.setImage_image, Audio.setImage_amps, Audio.imageOf]
    exact Vector.getElem_ofFn _
  · rw [Audio.setImage_image, Audio.setImage_connections, Audio.serverOf_congr (a.setImage_amps _), Audio.imageOf]
    exact Vector.getElem_ofFn _

theorem Desk.settle_imageTrue {v : View} {d : Desk} (before : Vector (Option (Fin 16)) 6) (force : Bool)
    (closed : force = false → d.audio.ImageTrue v) : (d.settle v settleFuel before force).audio.ImageTrue v :=
  Desk.settle_forced (P := fun e => e.audio.ImageTrue v) (Q := fun _ => True) (fun _ _ _ => Desk.close_imageTrue v _)
    (fun _ _ => trivial) before trivial closed

theorem Desk.finish_imageTrue (v : View) (d : Desk) : (d.finish v).audio.ImageTrue v :=
  Desk.settle_imageTrue _ _ fun _ => Desk.close_imageTrue v d

theorem imageTrue_unitInvariant : UnitInvariant Audio.ImageTrue where
  alike alike h := h.of_configs fun z => .inl (by rw [alike.configs])
  pool step h := h.pool step
  shifted step h := h.shifted step
  storeSize _ h := ⟨h.sources, h.relays⟩
  tick pins h := h.tick pins
  rezoned changed h := h.of_configs changed.configs
  batch _ _ := Desk.finish_imageTrue _ _
  line _ _ _ _ _ := Desk.finish_imageTrue _ _
  settle _ _ h := Desk.settle_imageTrue _ _ fun _ => h
  walkOn {v d k walk} steps _ := by
    refine Desk.settle_imageTrue _ _ fun walks => ?_
    refine (Desk.close_imageTrue v (d.mapAudio (Audio.boundary k))).pool ((steps _).pool fun _ => ?_)
    rw [Audio.held_ne_none_iff]
    exact Option.isSome_iff_ne_none.1 (by rw [← Option.not_isNone, walks]; rfl)
  giveBack _ _ _ := Desk.finish_imageTrue _ _
  faultChange _ _ := Desk.finish_imageTrue _ _
  restart {_ w d} _ _ := by
    rw [Desk.restart_audio]
    exact (Desk.finish_imageTrue w (d.mapAudio Audio.restart)).shifted (Audio.refreshFrom_shifted _ _)
  reset := by
    refine ⟨fun i => ?_, fun z => ?_⟩
    · rw [Audio.reset_amp]
      exact Vector.getElem_replicate _
    · have open_ : Audio.reset.connections[z] = .disconnected := Vector.getElem_replicate _
      rw [open_]
      exact Vector.getElem_replicate _

theorem State.imageFollows_iff (s : State) : s.ImageFollows ↔ s.Has Audio.ImageTrue :=
  ⟨fun h => ⟨h.sources, h.relays⟩, fun h => ⟨h.sources, h.relays⟩⟩

end Sys2Proof.Machine
end

section
/-! SUPPORT. Commands and timers that change one incident: what the engine's event leaves of the record, the records of the
zones and the test claims (R38, R53, R54, R58 to R74, R96, R111). -/

namespace Sys2Proof.Machine

open Sys2Proof

/-! ### The withdrawal of test claims (R111) -/

theorem State.withdrawTests_tests (s : State) (z : Fin 48) : s.withdrawTests.resolver.tests[z] = none := by
  unfold State.withdrawTests
  split
  · simp only [State.inputChange_tests, State.setTests, State.setResolver_resolver, Fin.getElem_fin,
      Vector.getElem_replicate]
  · next quiet =>
    by_contra claimed
    refine quiet (Vector.any_eq_true.2 ⟨z.val, z.isLt, ?_⟩)
    exact Option.isSome_iff_ne_none.2 claimed

/-- An entry to an alarm stage, or the saturation flag, at an event the resolver is told of withdraws every test claim. -/
theorem State.engineEvent_withdraws {s : State} {e : Engine} (told : s.engine.tells e = true)
    (alarming : s.engine.entered e = true ∨ e.saturated = true) (z : Fin 48) :
    (s.engineEvent e).resolver.tests[z] = none := by
  have withdraws : (s.engine.entered e || e.saturated) = true := Bool.or_eq_true_iff.2 alarming
  simp only [State.engineEvent, told, withdraws, if_true]
  exact State.withdrawTests_tests _ z

theorem Stage.claiming_iff {st : Stage} : st.claiming = true ↔ st.name = .phased ∨ st.name = .general := by
  cases st <;> simp [Stage.claiming, Stage.name]

theorem Stage.alarm_iff {st : Stage} :
    st.alarm = true ↔ st.name = .phased ∨ st.name = .general ∨ st.name = .silenced := by
  cases st <;> simp [Stage.alarm, Stage.name]

theorem Stage.not_alarm_iff {st : Stage} :
    st.alarm = false ↔ st.name ≠ .phased ∧ st.name ≠ .general ∧ st.name ≠ .silenced := by
  rw [← Bool.not_eq_true, Stage.alarm_iff, not_or, not_or]

/-- An incident stands in PHASED or GENERAL whose slot held none in an alarm stage. -/
theorem Engine.entered_iff {e e' : Engine} : e.entered e' = true ↔
    ∃ (k : Fin 32) (i : Incident), e'.slots[k].incident = some i ∧ i.stage.claiming = true ∧
      ∀ old, e.slots[k].incident = some old → old.stage.alarm = false := by
  simp only [Engine.entered, List.any_eq_true, List.mem_finRange, true_and, Bool.and_eq_true, Bool.not_eq_true',
    Option.any_eq_true_iff_get, Option.any_eq_false_iff_get]
  constructor
  · rintro ⟨k, ⟨live, claiming⟩, idle⟩
    refine ⟨k, _, (Option.some_get live).symm, claiming, fun old was => ?_⟩
    have := idle (by rw [was]; rfl)
    simpa only [was, Option.get_some] using this
  · rintro ⟨k, i, live, claiming, idle⟩
    refine ⟨k, ⟨by rw [live]; rfl, ?_⟩, fun was => idle _ (Option.some_get was).symm⟩
    simpa only [live, Option.get_some] using claiming

/-! ### A changed record (R38, R53) -/

section Put
variable {e : Engine} {k : Fin 32} {old new : Incident}

theorem Engine.put_of_ne (now : Tick) (changed : new ≠ old) : e.put now k old new = { e with
    slots := e.slots.set k { e.slots[k] with incident := some { new with changedAt := now } }
    changed := addMember k e.changed } :=
  if_neg changed

theorem Engine.put_self (e : Engine) (now : Tick) (k : Fin 32) (i : Incident) : e.put now k i i = e :=
  if_pos rfl

theorem Engine.put_incident (now : Tick) (changed : new ≠ old) :
    (e.put now k old new).slots[k].incident = some { new with changedAt := now } := by
  rw [Engine.put_of_ne now changed]
  simp

theorem Engine.put_slots_other (now : Tick) {j : Fin 32} (other : j ≠ k) : (e.put now k old new).slots[j] = e.slots[j] := by
  unfold Engine.put
  split
  · rfl
  · exact (Engine.setSlot_slots e k j _).trans (if_neg other)

theorem Engine.put_saturated (now : Tick) : (e.put now k old new).saturated = e.saturated := by
  unfold Engine.put
  split <;> rfl

/-- The resolver is told of a change of stage name or step count. -/
theorem Engine.put_tells (live : e.slots[k].incident = some old) (now : Tick)
    (moved : new.stage.name ≠ old.stage.name ∨ new.step ≠ old.step) : e.tells (e.put now k old new) = true := by
  have changed : new ≠ old := by
    rintro rfl
    exact moved.elim (· rfl) (· rfl)
  refine Engine.tells_of_slotKey_ne (k := k) ?_
  rw [Engine.slotKey, Engine.slotKey, live, Engine.put_incident now changed]
  simp only [Option.map_some, ne_eq, Option.some.injEq, Prod.mk.injEq, not_and_or]
  exact moved.imp Ne.symm Ne.symm

/-- The resolver is not told of a change that leaves stage name and step count. -/
theorem Engine.put_not_tells (live : e.slots[k].incident = some old) (now : Tick)
    (name : new.stage.name = old.stage.name) (step : new.step = old.step) : e.tells (e.put now k old new) = false := by
  by_cases changed : new = old
  · rw [changed, Engine.put_self, Engine.tells_self]
  · simp only [Engine.tells, Engine.put_saturated, ne_eq, not_true_eq_false, decide_false, Bool.or_false,
      List.any_eq_false, List.mem_finRange, true_imp_iff, decide_eq_true_eq, not_not]
    intro j
    by_cases same : j = k
    · rw [same, Engine.slotKey, Engine.slotKey, live, Engine.put_incident now changed]
      simp only [Option.map_some, name, step]
    · rw [Engine.slotKey, Engine.slotKey, Engine.put_slots_other now same]

theorem Engine.put_entered (live : e.slots[k].incident = some old) (now : Tick) (idle : old.stage.alarm = false)
    (claims : new.stage.claiming = true) : e.entered (e.put now k old new) = true := by
  have changed : new ≠ old := by
    rintro rfl
    rw [Stage.alarm_of_claiming claims] at idle
    cases idle
  refine Engine.entered_iff.2 ⟨k, _, Engine.put_incident now changed, claims, fun was h => ?_⟩
  rwa [← Option.some.inj (live.symm.trans h)]

theorem Engine.put_not_entered (live : e.slots[k].incident = some old) (now : Tick)
    (quiet : old.stage.alarm = true ∨ new.stage.claiming = false) : e.entered (e.put now k old new) = false := by
  rw [← Bool.not_eq_true, Engine.entered_iff]
  rintro ⟨j, i, stands, claiming, idle⟩
  by_cases same : j = k
  · subst same
    by_cases changed : new = old
    · rw [changed, Engine.put_self] at stands
      exact absurd ((idle _ stands).symm.trans (Stage.alarm_of_claiming claiming)) Bool.false_ne_true
    · rw [Engine.put_incident now changed] at stands
      cases stands
      rcases quiet with alarm | silent
      · exact absurd ((idle _ live).symm.trans alarm) Bool.false_ne_true
      · exact absurd (silent.symm.trans claiming) Bool.false_ne_true
  · rw [Engine.put_slots_other now same] at stands
    exact absurd ((idle _ stands).symm.trans (Stage.alarm_of_claiming claiming)) Bool.false_ne_true

end Put

/-! ### The stage machine against its rules (R66, R67) -/

/-- The entry to PHASED, under the incident's own profile. -/
theorem Incident.enterPhased_eq (e : Engine) (i : Incident) :
    i.enterPhased e.floors e.profiles[i.profile] = e.phasedEntry i := by
  unfold Incident.enterPhased Engine.phasedEntry Profile.stepTimer
  split_ifs <;> rfl

theorem Engine.phasedEntry_claiming (e : Engine) (i : Incident) : (e.phasedEntry i).stage.claiming = true := by
  unfold Engine.phasedEntry
  dsimp only
  split_ifs <;> rfl

/-! ### Commands on stages (R58, R69 to R74) -/

theorem State.linkValid_names {s : State} {handle : BitVec 16} {k : Fin 32} {i : Incident} (h : s.Names handle k i) :
    s.linkValid.Names handle k i := by
  simpa only [State.Names, State.linkValid_engine] using h

section StageCommand
variable {s : State} {handle : BitVec 16} {k : Fin 32} {i j : Incident} {code : Byte} {serve : State → Served}

/-- A stage command changes its incident alone and answers the stage it left. -/
theorem State.takeRequest_stageCommand (served : serve s.linkValid = s.linkValid.stageCommand k i j) :
    s.takeRequest code serve =
      (s.linkValid.engineEvent (s.engine.put s.now k i j)).respond code .ok [j.stage.name.code] := by
  rw [State.takeRequest_accept served, State.changeIncident, State.linkValid_engine, State.linkValid_now]

section Moved
variable (live : s.engine.slots[k].incident = some i) (moved : j.stage.name ≠ i.stage.name ∨ j.step ≠ i.step)
  (served : serve s.linkValid = s.linkValid.stageCommand k i j)
include live moved served

theorem State.takeRequest_stageChanged : s.StageChanged (s.takeRequest code serve) code k j := by
  have told := Engine.put_tells live s.now moved
  have changed : j ≠ i := by
    rintro rfl
    exact moved.elim (· rfl) (· rfl)
  rw [State.takeRequest_stageCommand served]
  refine ⟨?record, State.engineEvent_respond_link .., ?resolved, State.engineEvent_respond_onlyIncidents ..⟩
  case record => rw [State.WithRecord, State.respond_engine, State.engineEvent_engine, Engine.put_of_ne s.now changed]
  case resolved =>
    have told' : s.linkValid.engine.tells (s.engine.put s.now k i j) = true := by rwa [State.linkValid_engine]
    exact State.engineEvent_recordsResolved told'

/-- A stage command that takes an incident into PHASED or GENERAL from no alarm stage withdraws the test claims. -/
theorem State.takeRequest_stage_withdraws (idle : i.stage.alarm = false) (claiming : j.stage.claiming = true)
    (z : Fin 48) : (s.takeRequest code serve).resolver.tests[z] = none := by
  rw [State.takeRequest_stageCommand served, State.respond_resolver]
  refine State.engineEvent_withdraws ?_ (.inl ?_) z <;> rw [State.linkValid_engine]
  · exact Engine.put_tells live s.now moved
  · exact Engine.put_entered live s.now idle claiming

end Moved

/-- A stage command that leaves stage name and step count changes its record alone. -/
theorem State.takeRequest_stageKept (served : serve s.linkValid = s.linkValid.stageCommand k i j)
    (live : s.engine.slots[k].incident = some i) (name : j.stage.name = i.stage.name) (step : j.step = i.step) :
    s.takeRequest code serve = { s.answer code .ok [j.stage.name.code] with engine := s.engine.put s.now k i j } := by
  have quiet : ¬ s.linkValid.engine.tells (s.engine.put s.now k i j) = true := by
    rw [State.linkValid_engine, Engine.put_not_tells live s.now name step]
    exact Bool.false_ne_true
  rw [State.takeRequest_stageCommand served, State.engineEvent, if_neg quiet, ← State.linkValid_respond]
  rfl

end StageCommand

end Sys2Proof.Machine
end

section
/-! SUPPORT. The commands on stages, INCIDENT_ACK and INCIDENT_RESET, and the stage timers' expiries (R48, R50, R58, R59, R64
to R74, R111). -/

namespace Sys2Proof.Machine

open Sys2Proof

/-! ### INCIDENT_SILENCE, INCIDENT_RESOUND, INCIDENT_GENERAL (R69, R71, R72, R74) -/

theorem Stage.name_silenced_iff {st : Stage} :
    st.name = .silenced ↔ (∃ t, st = .silencedPhased t) ∨ st = .silencedGeneral := by
  cases st <;> simp [Stage.name]

section Serve
variable {s : State} {handle : BitVec 16} {k : Fin 32} {i : Incident} (h : s.Names handle k i)
include h

theorem serveIncidentSilence_phased {t : Option Nat} (stage : i.stage = .phased t) :
    serveIncidentSilence handle s = s.stageCommand k i { i with stage := .silencedPhased t } := by
  rw [serveIncidentSilence, State.withHandle_of_names _ h]
  simp only [stage]

theorem serveIncidentSilence_general (stage : i.stage = .general) :
    serveIncidentSilence handle s = s.stageCommand k i { i with stage := .silencedGeneral } := by
  rw [serveIncidentSilence, State.withHandle_of_names _ h]
  simp only [stage]

theorem serveIncidentSilence_other (phased : i.stage.name ≠ .phased) (general : i.stage.name ≠ .general) :
    serveIncidentSilence handle s = refuse .refusedState s := by
  rw [serveIncidentSilence, State.withHandle_of_names _ h]
  cases stage : i.stage with
  | phased t => exact absurd (Stage.name_phased_iff.2 ⟨t, stage⟩) phased
  | general => exact absurd (Stage.name_general_iff.2 stage) general
  | _ => rfl

theorem serveIncidentResound_phased {t : Option Nat} (stage : i.stage = .silencedPhased t) :
    serveIncidentResound handle s = s.stageCommand k i { i with stage := .phased t } := by
  rw [serveIncidentResound, State.withHandle_of_names _ h]
  simp only [stage]

theorem serveIncidentResound_general (stage : i.stage = .silencedGeneral) :
    serveIncidentResound handle s = s.stageCommand k i { i with stage := .general } := by
  rw [serveIncidentResound, State.withHandle_of_names _ h]
  simp only [stage]

theorem serveIncidentResound_other (silenced : i.stage.name ≠ .silenced) :
    serveIncidentResound handle s = refuse .refusedState s := by
  rw [serveIncidentResound, State.withHandle_of_names _ h]
  cases stage : i.stage with
  | silencedPhased t => exact absurd (Stage.name_silenced_iff.2 (.inl ⟨t, stage⟩)) silenced
  | silencedGeneral => exact absurd (Stage.name_silenced_iff.2 (.inr stage)) silenced
  | _ => rfl

theorem serveIncidentGeneral_general (stage : i.stage.name = .general) :
    serveIncidentGeneral handle s = refuse .refusedState s := by
  rw [serveIncidentGeneral, State.withHandle_of_names _ h]
  simp only [Stage.name_general_iff.1 stage]

theorem serveIncidentGeneral_other (stage : i.stage.name ≠ .general) :
    serveIncidentGeneral handle s = s.stageCommand k i { i with stage := .general } := by
  rw [serveIncidentGeneral, State.withHandle_of_names _ h]
  cases was : i.stage with
  | general => exact absurd (Stage.name_general_iff.2 was) stage
  | _ => rfl

end Serve

theorem State.Names.live {s : State} {handle : BitVec 16} {k : Fin 32} {i : Incident} (h : s.Names handle k i) :
    s.engine.slots[k].incident = some i := by
  obtain ⟨-, -, -, live⟩ := h
  exact live

/-- Settles O28: in each stage the command is a stage command with a new stage name, or refused; and an entry to GENERAL
from no alarm stage is one that withdraws the test claims. -/
theorem incidentStageCommands : Obligations.IncidentStageCommands := by
  unfold Obligations.IncidentStageCommands
  intro handle s k i h
  have named := State.linkValid_names h
  refine ⟨fun t stage => ?silence, fun stage => ?silenceGeneral, fun phased general => ?notSilenced,
    fun t stage => ?resound, fun stage => ?resoundGeneral, fun silenced => ?notResounded,
    fun stage => ⟨_, rfl, ?general, fun phased silenced => ?withdrawn⟩, fun stage => ?notGeneral⟩
  case silence =>
    exact ⟨_, rfl, State.takeRequest_stageChanged h.live (by simp [stage, Stage.name])
      (serveIncidentSilence_phased named stage)⟩
  case silenceGeneral =>
    exact ⟨_, rfl, State.takeRequest_stageChanged h.live (by simp [stage, Stage.name])
      (serveIncidentSilence_general named stage)⟩
  case notSilenced =>
    exact congrArg _ (State.takeRequest_refuse (serveIncidentSilence_other named phased general))
  case resound =>
    exact ⟨_, rfl, State.takeRequest_stageChanged h.live (by simp [stage, Stage.name])
      (serveIncidentResound_phased named stage)⟩
  case resoundGeneral =>
    exact ⟨_, rfl, State.takeRequest_stageChanged h.live (by simp [stage, Stage.name])
      (serveIncidentResound_general named stage)⟩
  case notResounded =>
    exact congrArg _ (State.takeRequest_refuse (serveIncidentResound_other named silenced))
  case general =>
    exact State.takeRequest_stageChanged h.live (.inl (by exact Ne.symm stage)) (serveIncidentGeneral_other named stage)
  case withdrawn =>
    exact State.takeRequest_stage_withdraws h.live (.inl (by exact Ne.symm stage)) (serveIncidentGeneral_other named stage)
      (Stage.not_alarm_iff.2 ⟨phased, stage, silenced⟩) rfl
  case notGeneral =>
    exact congrArg _ (State.takeRequest_refuse (serveIncidentGeneral_general named stage))

/-! ### INCIDENT_ACK (R64, R65, R70) -/

section Acknowledge
variable {e : Engine} {i : Incident}

theorem Incident.acknowledge_other (other : ∀ n, i.stage ≠ .investigating .ackWindow n) (floors : Nat) (p : Profile) :
    i.acknowledge floors p = { i with acknowledged := true } := by
  unfold Incident.acknowledge
  dsimp only
  split
  · next n stage => exact absurd stage (other n)
  · rfl

theorem Incident.acknowledge_investigates {n : Nat} {p : Profile} (stage : i.stage = .investigating .ackWindow n)
    (waits : p.investigate ≠ 0 ∨ i.allClear = true) (floors : Nat) :
    i.acknowledge floors p = { i with acknowledged := true, stage := .investigating .investigate p.investigate } := by
  have stays : ¬ (p.investigate = 0 && !i.allClear) = true := by
    simpa [imp_iff_not_or] using waits
  unfold Incident.acknowledge
  simp only [stage]
  exact if_neg stays

theorem Incident.acknowledge_phases {n : Nat} (stage : i.stage = .investigating .ackWindow n)
    (atOnce : e.profiles[i.profile].investigate = 0) (active : i.allClear = false) :
    i.acknowledge e.floors e.profiles[i.profile] = e.phasedEntry { i with acknowledged := true } := by
  have expires : (e.profiles[i.profile].investigate = 0 && !i.allClear) = true := by
    rw [atOnce, active]
    rfl
  rw [← Incident.enterPhased_eq e { i with acknowledged := true }]
  unfold Incident.acknowledge
  simp only [stage]
  exact if_pos expires

end Acknowledge

/-- INCIDENT_ACK is a stage command on the named incident. -/
theorem serveIncidentAck_of_names {s : State} {handle : BitVec 16} {k : Fin 32} {i : Incident} (h : s.Names handle k i) :
    serveIncidentAck handle s =
      s.stageCommand k i (i.acknowledge s.engine.floors s.engine.profiles[i.profile]) := by
  rw [serveIncidentAck, State.withHandle_of_names _ h]

/-! ### INCIDENT_RESET (R48, R50) -/

section Reset
variable {s : State} {handle : BitVec 16} {force : Byte} {k : Fin 32} {i : Incident} (h : s.Names handle k i)
include h

theorem serveIncidentReset_outOfRange (big : 1 < force.toNat) :
    serveIncidentReset handle force s = refuse .outOfRange s := by
  rw [serveIncidentReset, State.withHandle_of_names _ h]
  simp only [yesNo?_none_iff.2 big]

theorem serveIncidentReset_stillActive (range : force.toNat ≤ 1)
    (active : (∃ d ∈ i.detectors, d.last ≠ .clear) ∨ (force = 0 ∧ 0 < i.unlisted)) :
    serveIncidentReset handle force s = refuse .stillActive s := by
  obtain ⟨f, rfl⟩ := eq_flagByte_of_le_one range
  rw [serveIncidentReset, State.withHandle_of_names _ h]
  simp only [yesNo?_some_iff.2 rfl]
  refine if_neg fun clear => ?_
  obtain ⟨listed, unlisted⟩ := Bool.and_eq_true_iff.1 clear
  rcases active with ⟨d, mem, alive⟩ | ⟨unforced, counted⟩
  · exact alive (of_decide_eq_true (List.all_eq_true.1 listed d mem))
  · cases f with
    | true => exact absurd unforced (by decide)
    | false => simp [Nat.ne_of_gt counted] at unlisted

theorem serveIncidentReset_retires (range : force.toNat ≤ 1) (clear : ∀ d ∈ i.detectors, d.last = .clear)
    (free : force = 1 ∨ i.unlisted = 0) :
    serveIncidentReset handle force s = accept [] (s.engineEvent (s.engine.retire k)) := by
  obtain ⟨f, rfl⟩ := eq_flagByte_of_le_one range
  rw [serveIncidentReset, State.withHandle_of_names _ h]
  simp only [yesNo?_some_iff.2 rfl]
  refine if_pos (Bool.and_eq_true_iff.2 ⟨List.all_eq_true.2 fun d mem => decide_eq_true (clear d mem), ?_⟩)
  rcases free with forced | none
  · cases f with
    | true => exact Bool.or_true _
    | false => exact absurd forced (by decide)
  · simp [none]

end Reset

/-- Settles O29: INCIDENT_ACK is the stage command that acknowledges, which keeps the stage name except where the
investigation expires at once; INCIDENT_RESET retires an incident found clear. -/
theorem incidentAckAndReset : Obligations.IncidentAckAndReset := by
  unfold Obligations.IncidentAckAndReset
  refine ⟨fun handle s k i h => ?ack, fun handle force s k i h => ?reset⟩
  case ack =>
    have served := serveIncidentAck_of_names (State.linkValid_names h)
    simp only [State.linkValid_engine] at served
    have exec_eq : exec (.incidentAck handle) s = .next (s.takeRequest 0x32 (serveIncidentAck handle)) := rfl
    refine ⟨fun other done => ?kept, fun other fresh => ?flagged, fun n stage waits => ?investigates,
      fun n stage atOnce active => ?phases⟩
    case kept =>
      rw [Incident.acknowledge_other other] at served
      have same : { i with acknowledged := true } = i := by rw [← done]
      rw [exec_eq, State.takeRequest_stageKept served h.live rfl rfl, same, Engine.put_self]
      rfl
    case flagged =>
      rw [Incident.acknowledge_other other] at served
      have changed : { i with acknowledged := true } ≠ i := fun same => by
        rw [← same] at fresh
        cases fresh
      refine ⟨_, exec_eq, ?_, ?_⟩ <;> rw [State.takeRequest_stageKept served h.live rfl rfl]
      exact Engine.put_of_ne s.now changed
    case investigates =>
      rw [Incident.acknowledge_investigates stage waits] at served
      have changed : { i with
          acknowledged := true
          stage := .investigating .investigate s.engine.profiles[i.profile].investigate } ≠ i := fun same => by
        rw [← same] at stage
        cases stage
      have name : i.stage.name = .investigating := by rw [stage]; rfl
      refine ⟨_, exec_eq, ?_, ?_⟩ <;> rw [State.takeRequest_stageKept served h.live name.symm rfl]
      · exact Engine.put_of_ne s.now changed
      · rfl
    case phases =>
      rw [Incident.acknowledge_phases stage atOnce active] at served
      refine ⟨_, exec_eq, State.takeRequest_stageChanged h.live (.inl fun same => ?_) served⟩
      have claims := Stage.claiming_iff.1 (s.engine.phasedEntry_claiming { i with acknowledged := true })
      rw [same, stage] at claims
      exact claims.elim (fun c => by cases c) fun c => by cases c
  case reset =>
    have named := State.linkValid_names h
    refine ⟨fun big => ?outOfRange, fun range active => ?stillActive, fun range clear free => ?retires⟩
    case outOfRange => exact congrArg _ (State.takeRequest_refuse (serveIncidentReset_outOfRange named big))
    case stillActive =>
      exact congrArg _ (State.takeRequest_refuse (serveIncidentReset_stillActive named range active))
    case retires =>
      have served := State.takeRequest_accept (code := 0x36) (serveIncidentReset_retires named range clear free)
      rw [State.linkValid_engine] at served
      refine ⟨_, congrArg Host.Outcome.next served, ?_, State.engineEvent_respond_link .., ?_,
        State.engineEvent_respond_onlyIncidents ..⟩
      · rw [State.respond_engine, State.engineEvent_engine]
        rfl
      · refine State.engineEvent_recordsResolved (s := s.linkValid) ?_
        rw [State.linkValid_engine]
        exact Engine.retire_tells h.live

/-! ### The timers' expiries (R59, R64, R65, R67, R68) -/

/-- Rule R68's reach, signed: the ring's upper end at the top floor and its lower end at the bottom one. -/
theorem coverage_iff {floors step : Nat} {p : Profile} {floor : Option Nat} (some_floor : 1 ≤ floors) :
    coverage floors p floor step = true ↔
      (p.limit ≠ 0 ∧ p.limit ≤ step) ∨
      ∃ f : Nat, floor = some f ∧
        (floors : Int) - 1 ≤ f + min ((p.up : Int) + step) (floors - 1) ∧
        (f : Int) - min ((p.down : Int) + step) (floors - 1) ≤ 0 := by
  unfold coverage grownRadius
  cases floor with
  | none => simp
  | some f =>
    simp only [ne_eq, decide_not, Bool.or_eq_true, Bool.and_eq_true, Bool.not_eq_true', decide_eq_false_iff_not,
      decide_eq_true_eq, Option.some.injEq, exists_eq_left']
    refine or_congr Iff.rfl (and_congr ?_ ?_) <;> omega

/-- A step of an incident below the highest count (R67). -/
theorem Incident.takeStep_eq {i : Incident} (floors : Nat) (p : Profile) (below : i.step < 80) :
    i.takeStep floors p = { i with
      step := i.step + 1
      stage :=
        if coverage floors p i.floor (i.step + 1) then .general
        else if i.step + 1 = 80 ∨ p.interval = 0 then .phased none
        else .phased (some p.interval) } := by
  have step : satSucc Config.maxStep i.step = i.step + 1 := satSucc_of_lt below
  unfold Incident.takeStep
  dsimp only
  rw [step]
  congr 1
  refine if_congr Iff.rfl rfl ?_
  unfold Profile.stepTimer Config.maxStep
  by_cases last : i.step + 1 = 80
  · rw [if_pos (Or.inl last), if_neg (by omega)]
  · rw [if_pos (show i.step + 1 < 80 by omega)]
    by_cases idle : p.interval = 0
    · rw [if_pos idle, if_pos (Or.inr idle)]
    · rw [if_neg idle, if_neg (not_or.2 ⟨last, idle⟩)]

section Expiry
variable {s : State} {k : Fin 32} {i j : Incident}

/-- A timer's expiry that moves an incident on changes its record, and nothing outside the incident's reach. -/
theorem State.changeIncident_moved (live : s.engine.slots[k].incident = some i)
    (moved : j.stage.name ≠ i.stage.name ∨ j.step ≠ i.step) :
    s.WithRecord (s.changeIncident k i j) k j ∧ (s.changeIncident k i j).link = s.link ∧
      (s.changeIncident k i j).RecordsResolved ∧ s.OnlyIncidents (s.changeIncident k i j) := by
  have changed : j ≠ i := by
    rintro rfl
    exact moved.elim (· rfl) (· rfl)
  refine ⟨?_, State.changeIncident_link .., State.engineEvent_recordsResolved (Engine.put_tells live s.now moved), ?_⟩
  · rw [State.WithRecord, State.changeIncident_engine, Engine.put_of_ne s.now changed]
  · constructor <;> simp [State.changeIncident]

theorem exec_investigationTimerExpiry_idle
    (idle : ∀ i, s.engine.slots[k].incident = some i → i.allClear = true ∨ ∀ p, i.stage ≠ .investigating p 0) :
    exec (.investigationTimerExpiry k) s = .next s := by
  change execInvestigationTimerExpiry k s = _
  unfold execInvestigationTimerExpiry
  split
  · next i live =>
    split
    · next p stage =>
      exact if_pos ((idle i live).resolve_right fun other => other p stage)
    · rfl
  · rfl

theorem exec_investigationTimerExpiry_due {p : Phase} (live : s.engine.slots[k].incident = some i)
    (stage : i.stage = .investigating p 0) (active : i.allClear = false) :
    exec (.investigationTimerExpiry k) s = .next (s.changeIncident k i (s.engine.phasedEntry i)) := by
  change execInvestigationTimerExpiry k s = _
  unfold execInvestigationTimerExpiry
  simp only [live, stage, active, Bool.false_eq_true, if_false, Incident.enterPhased_eq]

theorem exec_stepTimerExpiry_idle
    (idle : ∀ i, s.engine.slots[k].incident = some i → i.stage ≠ .phased (some 0)) :
    exec (.stepTimerExpiry k) s = .next s := by
  change execStepTimerExpiry k s = _
  unfold execStepTimerExpiry
  split
  · next i live =>
    split
    · next stage => exact absurd stage (idle i live)
    · rfl
  · rfl

theorem exec_stepTimerExpiry_due (live : s.engine.slots[k].incident = some i) (stage : i.stage = .phased (some 0)) :
    exec (.stepTimerExpiry k) s =
      .next (s.changeIncident k i (i.takeStep s.engine.floors s.engine.profiles[i.profile])) := by
  change execStepTimerExpiry k s = _
  unfold execStepTimerExpiry
  simp only [live, stage]

end Expiry

/-- Settles O31: each expiry either finds its timer at 0 and moves the incident on, or does nothing; an entry to PHASED
from INVESTIGATING withdraws the test claims, and a step, taken in an alarm stage, does not. -/
theorem stageTimerExpiries : Obligations.StageTimerExpiries := by
  unfold Obligations.StageTimerExpiries
  refine ⟨fun floors step p floor => coverage_iff, fun k s => ⟨exec_investigationTimerExpiry_idle,
    exec_stepTimerExpiry_idle, fun i live => ⟨fun p stage active => ?investigation, fun stage below => ?step⟩⟩⟩
  case investigation =>
    have idle : i.stage.alarm = false := by rw [stage]; rfl
    have claims := s.engine.phasedEntry_claiming i
    have moved : (s.engine.phasedEntry i).stage.name ≠ i.stage.name := fun same => by
      have := Stage.claiming_iff.1 claims
      rw [same, stage] at this
      exact this.elim (fun c => by cases c) fun c => by cases c
    obtain ⟨record, link, resolved, frame⟩ := State.changeIncident_moved live (.inl moved)
    exact ⟨_, exec_investigationTimerExpiry_due live stage active, record,
      State.engineEvent_withdraws (Engine.put_tells live s.now (.inl moved))
        (.inl (Engine.put_entered live s.now idle claims)), link, resolved, frame⟩
  case step =>
    have alarm : i.stage.alarm = true := by rw [stage]; rfl
    have next := Incident.takeStep_eq s.engine.floors s.engine.profiles[i.profile] below
    have moved : (i.takeStep s.engine.floors s.engine.profiles[i.profile]).step ≠ i.step := by
      rw [next]
      exact Nat.succ_ne_self _
    obtain ⟨record, link, resolved, frame⟩ := State.changeIncident_moved live (.inr moved)
    refine ⟨_, exec_stepTimerExpiry_due live stage, next ▸ record, fun flag => ?_, link, resolved, frame⟩
    refine State.engineEvent_tests (Engine.put_not_entered live s.now (.inl alarm)) ?_
    rwa [Engine.put_saturated]

end Sys2Proof.Machine
end

section
/-! SUPPORT. What a bound report does to the incident table: the slot it goes to, the alarm entry test, and the stage machine
stage by stage (R36, R40 to R43, R47, R49, R60 to R63, R65, R72, R73). -/

namespace Sys2Proof.Machine

open Sys2Proof

/-! ### The slot of a report (R41, R42) -/

theorem Engine.holdsZone_iff {e : Engine} {zone : Nat} {k : Fin 32} :
    (e.slots[k].incident.any fun i => i.zone = zone) = true ↔
      ∃ i, e.slots[k].incident = some i ∧ i.zone = zone := by
  cases e.slots[k].incident <;> simp

theorem Engine.findZone_none_iff {e : Engine} {zone : Nat} : e.findZone zone = none ↔
    ∀ (k : Fin 32) (i : Incident), e.slots[k].incident = some i → i.zone ≠ zone := by
  refine ⟨fun absent k i => Engine.zone_ne_of_findZone_none absent, fun absent => List.find?_eq_none.2 fun k _ found => ?_⟩
  obtain ⟨i, live, zone⟩ := Engine.holdsZone_iff.1 found
  exact absent k i live zone

/-- Where one slot alone holds the detection zone, it is the slot found. -/
theorem Engine.findZone_of_live {e : Engine} {zone : Nat} {k : Fin 32} {i : Incident}
    (live : e.slots[k].incident = some i) (here : i.zone = zone)
    (alone : ∀ (j : Fin 32) (i : Incident), j ≠ k → e.slots[j].incident = some i → i.zone ≠ zone) :
    e.findZone zone = some k := by
  cases found : e.findZone zone with
  | none => exact absurd here (Engine.findZone_none_iff.1 found k i live)
  | some j =>
    have held := List.find?_some found
    obtain ⟨x, stands, there⟩ := Engine.holdsZone_iff.1 held
    by_contra other
    exact alone j x (fun same => other (congrArg some same)) stands there

theorem Engine.freeSlot_eq_find? (e : Engine) : e.freeSlot = Fin.find? fun k => e.slots[k].incident.isNone :=
  Fin.find?_eq_find?_finRange.symm

theorem Engine.freeSlot_none_iff {e : Engine} : e.freeSlot = none ↔ ∀ k : Fin 32, e.slots[k].incident ≠ none := by
  simp only [Engine.freeSlot_eq_find?, Fin.find?_eq_none_iff, ← Bool.not_eq_true, Option.isNone_iff_eq_none, ne_eq]

theorem Engine.freeSlot_some_iff {e : Engine} {k : Fin 32} : e.freeSlot = some k ↔
    e.slots[k].incident = none ∧ ∀ j : Fin 32, j < k → e.slots[j].incident ≠ none := by
  simp only [Engine.freeSlot_eq_find?, Fin.find?_eq_some_iff, ← Bool.not_eq_true, Option.isNone_iff_eq_none, ne_eq]

section TakeReport
variable {e : Engine} (now : Tick) (autonomous : Bool) {r : BoundReport} {k : Fin 32}

theorem Engine.takeReport_of_live {i : Incident} (live : e.slots[k].incident = some i) (here : i.zone = r.binding.zone)
    (alone : ∀ (j : Fin 32) (i : Incident), j ≠ k → e.slots[j].incident = some i → i.zone ≠ r.binding.zone) :
    e.takeReport now autonomous r = e.applyReport now autonomous r k i := by
  rw [Engine.takeReport, Engine.findZone_of_live live here alone]
  dsimp only
  rw [live]

section Absent
variable (absent : e.findZone r.binding.zone = none)
include absent

theorem Engine.takeReport_clear (clear : r.kind = .clear) : e.takeReport now autonomous r = e := by
  rw [Engine.takeReport, absent, clear]

theorem Engine.takeReport_creates (free : e.freeSlot = some k) (rising : r.kind ≠ .clear) :
    e.takeReport now autonomous r = e.create now autonomous r k := by
  rw [Engine.takeReport, absent, free]
  cases kind : r.kind with
  | clear => exact absurd kind rising
  | alarm => rfl
  | prealarm => rfl

theorem Engine.takeReport_saturates (full : e.freeSlot = none) (alarm : r.kind = .alarm) :
    e.takeReport now autonomous r = { e with saturated := true } := by
  rw [Engine.takeReport, absent, full, alarm]

theorem Engine.takeReport_ignores (full : e.freeSlot = none) (prealarm : r.kind = .prealarm) :
    e.takeReport now autonomous r = e := by
  rw [Engine.takeReport, absent, full, prealarm]

end Absent
end TakeReport

/-! ### The alarm entry test (R60, R63) -/

theorem Cls.urgent_iff {c : Cls} : c.urgent = true ↔ c = .callPoint ∨ c = .sprinkler := by
  cases c <;> simp [Cls.urgent]

theorem Cls.not_urgent_iff {c : Cls} : c.urgent = false ↔ c = .smoke ∨ c = .heat := by
  cases c <;> simp [Cls.urgent]

theorem Incident.confirmed_iff {i : Incident} :
    i.confirmed = true ↔ 2 ≤ (i.detectors.filter fun d => d.last = .alarm).length ∨ 0 < i.unlisted := by
  simp only [Incident.confirmed, Bool.or_eq_true, decide_eq_true_eq]

theorem Incident.fromFirst_iff {i : Incident} {r : BoundReport} : i.fromFirst r = true ↔
    ∃ d rest, i.detectors = d :: rest ∧ d.loop = r.loop ∧ d.address = r.address := by
  unfold Incident.fromFirst
  cases i.detectors with
  | nil => simp
  | cons d rest => simp [Detector.sends_iff]

/-- The detector list begins with another device's entry. -/
theorem Incident.not_fromFirst {i : Incident} {r : BoundReport}
    (another : ∃ d rest, i.detectors = d :: rest ∧ ¬ (d.loop = r.loop ∧ d.address = r.address)) :
    i.fromFirst r = false := by
  obtain ⟨d, rest, list, other⟩ := another
  rw [← Bool.not_eq_true, Incident.fromFirst_iff]
  rintro ⟨d', rest', list', same⟩
  obtain ⟨rfl, -⟩ := List.cons.inj (list.symm.trans list')
  exact other same

section EntryTest
variable {floors : Nat} {p : Profile} {autonomous : Bool} {r : BoundReport} {i : Incident}

theorem Incident.entryTest_phases
    (passes : r.binding.cls.urgent = true ∨ i.cls.urgent = true ∨ i.rule = .single ∨
      (i.rule = .coincident ∧ i.confirmed = true) ∨
      (i.rule = .delayed ∧ (i.fromFirst r = false ∨ p.ackWindow = 0 ∨ autonomous = true))) :
    i.entryTest floors p autonomous r = i.enterPhased floors p := by
  unfold Incident.entryTest
  split
  · rfl
  · next calm =>
    rcases passes with urgent | urgent | rule | ⟨rule, confirmed⟩ | ⟨rule, due⟩
    · simp [urgent] at calm
    · simp [urgent] at calm
    · simp only [rule]
    · simp only [rule, confirmed, if_true]
    · rcases due with other | atOnce | auto
      · simp [rule, other]
      · simp [rule, atOnce]
      · simp [rule, auto]

section Calm
variable (reported : r.binding.cls.urgent = false) (own : i.cls.urgent = false)
include reported own

theorem Incident.entryTest_confirms (rule : i.rule = .coincident) (alone : i.confirmed = false) :
    i.entryTest floors p autonomous r = { i with stage := .confirming } := by
  simp [Incident.entryTest, reported, own, rule, alone]

theorem Incident.entryTest_investigates (rule : i.rule = .delayed) (first : i.fromFirst r = true)
    (window : p.ackWindow ≠ 0) (linked : autonomous = false) :
    i.entryTest floors p autonomous r =
      { i with stage := .investigating .ackWindow p.ackWindow, acknowledged := false } := by
  simp [Incident.entryTest, reported, own, rule, first, window, linked]

end Calm
end EntryTest

/-! ### Creation (R36, R40, R42) -/

/-- The record with which a slot is opened. -/
def openedIncident (e : Engine) (now : Tick) (autonomous : Bool) (r : BoundReport) : Incident :=
  if r.kind = .alarm then (newIncident now r).entryTest e.floors e.profiles[r.binding.profile] autonomous r
  else newIncident now r

theorem Engine.create_eq (e : Engine) (now : Tick) (autonomous : Bool) (r : BoundReport) (k : Fin 32) :
    e.create now autonomous r k = { e with
      slots := e.slots.set k
        { generation := e.slots[k].generation + 1, incident := some (openedIncident e now autonomous r) }
      ages := e.ages ++ [k]
      changed := addMember k e.changed } := rfl

theorem newIncident_fromFirst (now : Tick) (r : BoundReport) : (newIncident now r).fromFirst r = true :=
  Incident.fromFirst_iff.2 ⟨_, _, rfl, rfl, rfl⟩

theorem newIncident_confirmed (now : Tick) (r : BoundReport) : (newIncident now r).confirmed = false := by
  rw [← Bool.not_eq_true, Incident.confirmed_iff, not_or]
  refine ⟨fun several => ?_, Nat.lt_irrefl 0⟩
  have one := List.length_filter_le (fun d : Detector => decide (d.last = .alarm)) (newIncident now r).detectors
  exact Nat.not_succ_le_self 1 (several.trans one)

/-- Settles O32: the report finds no live incident for its zone, so its kind and the lowest FREE slot decide; an opened
incident is put to the alarm entry test with one detector, its own. -/
theorem engineOpensIncident : Obligations.EngineOpensIncident := by
  unfold Obligations.EngineOpensIncident
  intro e now autonomous r none_live
  have absent := Engine.findZone_none_iff.2 none_live
  refine ⟨Engine.takeReport_clear now autonomous absent, fun full => ?full, fun k free lowest rising => ?opens⟩
  case full =>
    have full := Engine.freeSlot_none_iff.2 full
    exact ⟨Engine.takeReport_saturates now autonomous absent full, Engine.takeReport_ignores now autonomous absent full⟩
  case opens =>
    have slot := Engine.freeSlot_some_iff.2 ⟨free, lowest⟩
    refine ⟨openedIncident e now autonomous r, ?table, fun prealarm => ?watch, fun alarm single => ?single,
      fun alarm calm rule => ?coincident, fun alarm calm rule => ?delayed⟩
    case table => exact (Engine.takeReport_creates now autonomous absent slot rising).trans (Engine.create_eq ..)
    case watch => exact if_neg (by rw [prealarm]; decide)
    case single =>
      rw [openedIncident, if_pos alarm, Incident.entryTest_phases, ← Incident.enterPhased_eq]
      · rfl
      · rw [← or_assoc, ← Cls.urgent_iff] at single
        exact single.elim .inl fun rule => .inr (.inr (.inl rule))
    case coincident =>
      have calm := Cls.not_urgent_iff.2 calm
      rw [openedIncident, if_pos alarm, Incident.entryTest_confirms calm calm rule (newIncident_confirmed now r)]
      rfl
    case delayed =>
      have calm := Cls.not_urgent_iff.2 calm
      rw [openedIncident, if_pos alarm]
      split
      · next due =>
        rw [Incident.entryTest_phases, ← Incident.enterPhased_eq]
        · rfl
        · exact .inr (.inr (.inr (.inr ⟨rule, .inr due⟩)))
      · next waits =>
        obtain ⟨window, linked⟩ := not_or.1 waits
        rw [Incident.entryTest_investigates calm calm rule (newIncident_fromFirst now r) window
          (Bool.eq_false_iff.2 linked)]
        rfl

/-! ### A live incident (R43, R49, R60 to R63, R65, R72, R73) -/

section Account
variable (now : Tick) (r : BoundReport) (i : Incident)

/-- Accounting changes the detector list and the unlisted count alone. -/
theorem Incident.account_frame : i.account now r =
    { i with detectors := (i.account now r).detectors, unlisted := (i.account now r).unlisted } := by
  unfold Incident.account
  split_ifs <;> rfl

theorem Incident.account_stage : (i.account now r).stage = i.stage := by rw [Incident.account_frame]
theorem Incident.account_cls : (i.account now r).cls = i.cls := by rw [Incident.account_frame]
theorem Incident.account_rule : (i.account now r).rule = i.rule := by rw [Incident.account_frame]
theorem Incident.account_profile : (i.account now r).profile = i.profile := by rw [Incident.account_frame]

end Account

theorem Incident.selfRetires_of_claiming {i : Incident} (claiming : i.stage.claiming = true) : i.selfRetires = false := by
  unfold Incident.selfRetires
  split
  · next stage => rw [stage] at claiming; cases claiming
  · next stage => rw [stage] at claiming; cases claiming
  · rfl

theorem Incident.selfRetires_of_other {i : Incident} (watch : i.stage ≠ .watch) (confirming : i.stage ≠ .confirming) :
    i.selfRetires = false := by
  unfold Incident.selfRetires
  split
  · next stage => exact absurd stage watch
  · next stage => exact absurd stage confirming
  · rfl

theorem Incident.selfRetires_of_active {i : Incident} (active : i.allClear = false) : i.selfRetires = false := by
  unfold Incident.selfRetires
  split
  · exact active
  · exact active
  · rfl

theorem Incident.selfRetires_of_clear {i : Incident} (stage : i.stage.name = .watch ∨ i.stage.name = .confirming) :
    i.selfRetires = i.allClear := by
  unfold Incident.selfRetires
  cases h : i.stage with
  | watch => rfl
  | confirming => rfl
  | _ => rw [h] at stage; exact stage.elim (fun c => by cases c) fun c => by cases c

/-- A report whose stage-machine outcome does not retire puts the outcome in the slot. -/
theorem Engine.applyReport_puts {e : Engine} {now : Tick} {autonomous : Bool} {r : BoundReport} {k : Fin 32}
    {old j : Incident}
    (outcome : (old.account now r).stageReport e.floors e.profiles[old.profile] autonomous r old.allClear = j)
    (stays : j.selfRetires = false) : e.applyReport now autonomous r k old = e.put now k old j := by
  unfold Engine.applyReport
  simp only [outcome, stays, Bool.false_eq_true, if_false]

theorem Engine.applyReport_retires {e : Engine} {now : Tick} {autonomous : Bool} {r : BoundReport} {k : Fin 32}
    {old j : Incident}
    (outcome : (old.account now r).stageReport e.floors e.profiles[old.profile] autonomous r old.allClear = j)
    (retires : j.selfRetires = true) : e.applyReport now autonomous r k old = e.retire k := by
  unfold Engine.applyReport
  simp only [outcome, retires, if_true]

/-- The entry to PHASED of an accounted incident is under its own profile. -/
theorem Engine.enterPhased_account (e : Engine) (now : Tick) (r : BoundReport) (old : Incident) :
    (old.account now r).enterPhased e.floors e.profiles[old.profile] = e.phasedEntry (old.account now r) := by
  simp only [← Incident.enterPhased_eq, Incident.account_profile]

section StageReport
variable {floors : Nat} {p : Profile} {autonomous wasClear : Bool} {r : BoundReport} {i : Incident}

theorem Incident.stageReport_quiet (stage : i.stage.name ≠ .investigating) (quiet : r.kind ≠ .alarm) :
    i.stageReport floors p autonomous r wasClear = i := by
  unfold Incident.stageReport
  cases was : i.stage with
  | investigating q n => rw [was] at stage; exact absurd rfl stage
  | _ =>
    cases kind : r.kind with
    | alarm => exact absurd kind quiet
    | _ => rfl

theorem Incident.stageReport_watch (stage : i.stage = .watch) (alarm : r.kind = .alarm) :
    i.stageReport floors p autonomous r wasClear = i.entryTest floors p autonomous r := by
  simp only [Incident.stageReport, stage, alarm]

theorem Incident.stageReport_confirming (stage : i.stage = .confirming) (alarm : r.kind = .alarm) :
    i.stageReport floors p autonomous r wasClear =
      if r.binding.cls.urgent || i.confirmed then i.enterPhased floors p else i := by
  simp only [Incident.stageReport, stage, alarm]

theorem Incident.stageReport_investigating {q : Phase} {n : Nat} (stage : i.stage = .investigating q n) :
    i.stageReport floors p autonomous r wasClear = i.investigationReport floors p r wasClear n := by
  simp only [Incident.stageReport, stage]

theorem Incident.stageReport_silencedPhased {t : Option Nat} (stage : i.stage = .silencedPhased t)
    (alarm : r.kind = .alarm) :
    i.stageReport floors p autonomous r wasClear = { i with stage := .phased t } := by
  simp only [Incident.stageReport, stage, alarm, Stage.resounded]

theorem Incident.stageReport_silencedGeneral (stage : i.stage = .silencedGeneral) (alarm : r.kind = .alarm) :
    i.stageReport floors p autonomous r wasClear = { i with stage := .general } := by
  simp only [Incident.stageReport, stage, alarm, Stage.resounded]

theorem Incident.stageReport_claiming (stage : i.stage.claiming = true) :
    i.stageReport floors p autonomous r wasClear = i := by
  unfold Incident.stageReport
  cases was : i.stage with
  | phased t => rfl
  | general => rfl
  | _ => rw [was] at stage; cases stage

end StageReport

/-- Settles O34: the report goes to its zone's slot; in each stage, the stage machine's case after the accounting, and
whether the outcome retires by itself. -/
theorem liveIncidentTakesReport : Obligations.LiveIncidentTakesReport := by
  unfold Obligations.LiveIncidentTakesReport
  intro e now autonomous r k old live here alone
  have taken := Engine.takeReport_of_live now autonomous live here alone
  have stage := Incident.account_stage now r old
  have phases := Engine.enterPhased_account e now r old
  have phased := Incident.selfRetires_of_claiming (e.phasedEntry_claiming (old.account now r))
  dsimp only
  rw [taken]
  refine ⟨fun was clear quiet => ?retires, fun was active quiet => ?quiet, fun was alarm active => ?confirms,
    fun p n was alarm sent => ?phases, fun p n was sent => ?continues, fun was alarm active => ⟨fun passes => ?enters,
    fun calm own => ⟨fun rule alone => ?confirming, fun rule first window linked => ?investigating⟩⟩,
    fun was => ?claiming, fun n was alarm => ?resounds, fun was alarm => ?resoundsGeneral,
    fun was quiet => ?silenced⟩
  case retires =>
    refine Engine.applyReport_retires (Incident.stageReport_quiet ?_ quiet) ?_
    · rw [stage]
      rcases was with was | was <;> rw [was] <;> decide
    · rw [Incident.selfRetires_of_clear (by rwa [stage]), clear]
  case quiet =>
    refine Engine.applyReport_puts (Incident.stageReport_quiet ?_ quiet) (Incident.selfRetires_of_active active)
    rw [stage]
    rcases was with was | was <;> rw [was] <;> decide
  case confirms =>
    refine Engine.applyReport_puts ((Incident.stageReport_confirming (stage.trans was) alarm).trans ?_) ?_
    · rw [phases]
      refine if_congr ?_ rfl rfl
      rw [Bool.or_eq_true, Cls.urgent_iff, Incident.confirmed_iff]
    · split
      · exact phased
      · exact Incident.selfRetires_of_active active
  case phases =>
    refine Engine.applyReport_puts ((Incident.stageReport_investigating (stage.trans was)).trans ?_) phased
    have enters : (r.kind = .alarm && (!(old.account now r).fromFirst r || r.binding.cls.urgent)) = true := by
      rcases sent with urgent | another
      · simp [alarm, Cls.urgent_iff.2 urgent]
      · simp [alarm, Incident.not_fromFirst another]
    rw [Incident.investigationReport, if_pos enters, phases]
  case continues =>
    refine Engine.applyReport_puts ((Incident.stageReport_investigating (stage.trans was)).trans ?_) ?_
    · have stays : ¬ (r.kind = .alarm && (!(old.account now r).fromFirst r || r.binding.cls.urgent)) = true := by
        rcases sent with quiet | ⟨calm, first⟩
        · simp [quiet]
        · simp [Bool.eq_false_iff.2 (mt Cls.urgent_iff.1 calm), Incident.fromFirst_iff.2 first]
      rw [Incident.investigationReport, if_neg stays, phases]
      refine if_congr ?_ rfl rfl
      simp only [Bool.and_eq_true, Bool.not_eq_true', decide_eq_true_eq, and_assoc]
    · split
      · exact phased
      · exact Incident.selfRetires_of_other (by rw [stage, was]; nofun) (by rw [stage, was]; nofun)
  case enters =>
    refine Engine.applyReport_puts ((Incident.stageReport_watch (stage.trans was) alarm).trans ?_) phased
    rw [Incident.entryTest_phases, phases]
    rw [Incident.account_cls, Incident.account_rule, Cls.urgent_iff, Cls.urgent_iff, Incident.confirmed_iff,
      ← Bool.not_eq_true, Incident.fromFirst_iff, or_assoc (a := old.cls = .callPoint)]
    exact passes
  case confirming =>
    have own := Cls.not_urgent_iff.2 own
    refine Engine.applyReport_puts ((Incident.stageReport_watch (stage.trans was) alarm).trans
      (Incident.entryTest_confirms (Bool.eq_false_iff.2 (mt Cls.urgent_iff.1 calm)) ?_ ?_ ?_)) (Incident.selfRetires_of_active active)
    · rwa [Incident.account_cls]
    · rwa [Incident.account_rule]
    · rwa [← Bool.not_eq_true, Incident.confirmed_iff]
  case investigating =>
    have own := Cls.not_urgent_iff.2 own
    refine Engine.applyReport_puts ((Incident.stageReport_watch (stage.trans was) alarm).trans
      (Incident.entryTest_investigates (Bool.eq_false_iff.2 (mt Cls.urgent_iff.1 calm)) ?_ ?_ (Incident.fromFirst_iff.2 first) window linked))
      (Incident.selfRetires_of_active active)
    · rwa [Incident.account_cls]
    · rwa [Incident.account_rule]
  case claiming =>
    have claiming := Stage.claiming_iff.2 was
    rw [← stage] at claiming
    exact Engine.applyReport_puts (Incident.stageReport_claiming claiming) (Incident.selfRetires_of_claiming claiming)
  case resounds =>
    exact Engine.applyReport_puts (Incident.stageReport_silencedPhased (stage.trans was) alarm)
      (Incident.selfRetires_of_claiming rfl)
  case resoundsGeneral =>
    exact Engine.applyReport_puts (Incident.stageReport_silencedGeneral (stage.trans was) alarm)
      (Incident.selfRetires_of_claiming rfl)
  case silenced =>
    refine Engine.applyReport_puts (Incident.stageReport_quiet (by rw [stage, was]; decide) quiet)
      (Incident.selfRetires_of_other ?_ ?_)
    all_goals
      rw [stage]
      intro same
      rw [same] at was
      cases was

end Sys2Proof.Machine
end

section
/-! SUPPORT. The resolved source of a zone: rings that only grow, the highest claim, and the first that makes it (R84 to R94).
-/

namespace Sys2Proof.Machine

open Sys2Proof

/-! ### Rings and steps (R84 to R88) -/

section Ring
variable {floors f step later low high : Nat} {p : Profile}

/-- Nearer or further, a ring with radii at least as great claims at least as much. -/
theorem ringClaim_mono (ordered : low ≤ high) (grows : step ≤ later) :
    (ringClaim floors p f step low high).value ≤ (ringClaim floors p f later low high).value := by
  have up : grownRadius floors p.up step ≤ grownRadius floors p.up later := by unfold grownRadius; omega
  have down : grownRadius floors p.down step ≤ grownRadius floors p.down later := by unfold grownRadius; omega
  rw [ringClaim_eq ordered, ringClaim_eq ordered]
  generalize grownRadius floors p.up step = u at *
  generalize grownRadius floors p.down step = d at *
  generalize grownRadius floors p.up later = u' at *
  generalize grownRadius floors p.down later = d' at *
  by_cases inside : InsideRing f u d low high
  · rw [if_pos inside, if_pos (by omega)]
  · rw [if_neg inside]
    by_cases near : NearRing f u d p.margin low high ∨ p.building = true
    · have near' : NearRing f u' d' p.margin low high ∨ p.building = true := near.imp_left fun n => by omega
      rw [if_pos near, if_pos near']
      split <;> decide
    · rw [if_neg near]
      exact Nat.zero_le _

theorem ringClaim_cases (floors : Nat) (p : Profile) (f step low high : Nat) :
    ringClaim floors p f step low high = .none ∨ ringClaim floors p f step low high = .alert ∨
      ringClaim floors p f step low high = .evacuate := by
  unfold ringClaim
  dsimp only
  split_ifs <;> simp

theorem phasedClaim_mono {z : ZoneConfig} (ordered : z.low ≤ z.high) (grows : step ≤ later) :
    (phasedClaim floors p f step z).value ≤ (phasedClaim floors p f later z).value := by
  have ring := ringClaim_mono (floors := floors) (f := f) (p := p) ordered grows
  unfold phasedClaim
  cases z.kind with
  | unused => exact Nat.le_refl _
  | stair => exact Nat.le_refl _
  | floor => exact ring
  | carPark => exact ring
  | liftLobby =>
    have raised (n : Nat) : (if ringClaim floors p f n z.low z.high = .none then Rank.alert
        else ringClaim floors p f n z.low z.high).value = max 2 (ringClaim floors p f n z.low z.high).value := by
      rcases ringClaim_cases floors p f n z.low z.high with c | c | c <;> rw [c] <;> rfl
    dsimp only
    rw [raised, raised]
    omega

end Ring

/-- Settles O37: of known floor the incident claims by its ring, whose radii only grow; of unknown floor, ALERT throughout.
-/
theorem ringsOnlyGrow : Obligations.RingsOnlyGrow := by
  unfold Obligations.RingsOnlyGrow
  intro floors p i z later ordered phased grows
  by_cases used : z.kind = .unused
  · rw [Incident.claim_unused used, Incident.claim_unused used]
  · rcases Option.eq_none_or_eq_some i.floor with floor | ⟨f, floor⟩
    · rw [Incident.claim_phased_unknown used phased floor,
        Incident.claim_phased_unknown (i := { i with step := later }) used phased floor]
    · rw [Incident.claim_phased_known used phased floor,
        Incident.claim_phased_known (i := { i with step := later }) used phased floor]
      exact phasedClaim_mono ordered grows

/-! ### The highest of a list of ranks -/

theorem Rank.value_injective {r r' : Rank} (same : r.value = r'.value) : r = r' := by
  cases r <;> cases r' <;> first | rfl | cases same

theorem rank_max_value (r r' : Rank) : (r.max r').value = max r.value r'.value := by
  unfold Rank.max
  split <;> omega

theorem le_foldl_max (l : List Rank) (r : Rank) :
    r.value ≤ (l.foldl Rank.max r).value ∧ ∀ x ∈ l, x.value ≤ (l.foldl Rank.max r).value := by
  induction l generalizing r with
  | nil => exact ⟨Nat.le_refl _, fun x mem => nomatch mem⟩
  | cons y ys ih =>
    obtain ⟨start, members⟩ := ih (r.max y)
    rw [rank_max_value] at start
    rw [List.foldl_cons]
    refine ⟨by omega, fun x mem => ?_⟩
    rcases List.mem_cons.1 mem with rfl | mem
    · omega
    · exact members x mem

theorem foldl_max_mem (l : List Rank) (r : Rank) : l.foldl Rank.max r = r ∨ l.foldl Rank.max r ∈ l := by
  induction l generalizing r with
  | nil => exact .inl rfl
  | cons y ys ih =>
    rw [List.foldl_cons]
    rcases ih (r.max y) with start | member
    · rw [start]
      unfold Rank.max
      split
      · exact .inr List.mem_cons_self
      · exact .inl rfl
    · exact .inr (List.mem_cons_of_mem y member)

/-- A member that no other exceeds is the highest. -/
theorem foldl_max_eq {l : List Rank} {r : Rank} (mem : r ∈ l) (top : ∀ x ∈ l, x.value ≤ r.value) :
    l.foldl Rank.max .none = r := by
  obtain ⟨-, members⟩ := le_foldl_max l .none
  refine Rank.value_injective (Nat.le_antisymm ?_ (members r mem))
  rcases foldl_max_mem l .none with none | some
  · rw [none]; exact Nat.zero_le _
  · exact top _ some

theorem topClaim_eq_foldl (cs : List Claim) : topClaim cs = (cs.map Claim.rank).foldl Rank.max .none := by
  rw [topClaim, List.foldl_map]

theorem le_topClaim {cs : List Claim} {c : Claim} (mem : c ∈ cs) : c.rank.value ≤ (topClaim cs).value := by
  rw [topClaim_eq_foldl]
  obtain ⟨-, members⟩ := le_foldl_max (cs.map Claim.rank) .none
  exact members _ (List.mem_map_of_mem mem)

theorem topClaim_mem (cs : List Claim) : topClaim cs = .none ∨ ∃ c ∈ cs, c.rank = topClaim cs := by
  rw [topClaim_eq_foldl]
  exact (foldl_max_mem _ _).imp_right List.mem_map.1

/-! ### The chosen claim (R92, R93) -/

section Resolve
variable {e : Engine} {x : Sessions} {r : Resolver} {z : Fin 48}

/-- The first of the claims of the highest rank is the one chosen. -/
theorem resolveZone_chosen {before after : List Claim} {c : Claim} (list : claims e x r z = before ++ c :: after)
    (first : ∀ b ∈ before, b.rank.value < c.rank.value) (top : ∀ a ∈ after, a.rank.value ≤ c.rank.value) :
    resolveZone e x r z = recordOf e c := by
  have highest : topClaim (before ++ c :: after) = c.rank := by
    rw [topClaim_eq_foldl]
    refine foldl_max_eq (List.mem_map_of_mem (by simp)) fun rank mem => ?_
    obtain ⟨d, held, rfl⟩ := List.mem_map.1 mem
    rcases List.mem_append.1 held with earlier | later
    · exact Nat.le_of_lt (first d earlier)
    · rcases List.mem_cons.1 later with rfl | later
      · exact Nat.le_refl _
      · exact top d later
  have found : (before ++ c :: after).find? (fun d => d.rank = topClaim (before ++ c :: after)) = some c := by
    rw [highest, List.find?_eq_some_iff_append]
    refine ⟨decide_eq_true rfl, before, after, rfl, fun b mem => ?_⟩
    rw [Bool.not_eq_true', decide_eq_false_iff_not]
    intro same
    exact Nat.ne_of_lt (first b mem) (congrArg Rank.value same)
  rw [resolveZone, list]
  simp only [found]

theorem recordOf_rank (e : Engine) (c : Claim) : (recordOf e c).rank = c.rank := by
  obtain ⟨rank, origin⟩ := c
  cases origin with
  | mic m => cases m <;> rfl
  | _ => rfl

/-- A zone resolves to the highest rank claimed on it. -/
theorem resolveZone_rank (e : Engine) (x : Sessions) (r : Resolver) (z : Fin 48) :
    (resolveZone e x r z).rank = topClaim (claims e x r z) := by
  unfold resolveZone
  dsimp only
  split
  · next c found =>
    have top := List.find?_some found
    exact (recordOf_rank e c).trans (of_decide_eq_true top)
  · next absent =>
    rcases topClaim_mem (claims e x r z) with none | ⟨c, mem, top⟩
    · rw [none]; rfl
    · exact absurd (decide_eq_true top) (List.find?_eq_none.1 absent c mem)

end Resolve

/-! ### The claims on a zone (R83, R91, R108, R109) -/

/-- An incident claims NONE, ALERT or EVACUATE. -/
theorem Incident.claim_cases (floors : Nat) (p : Profile) (i : Incident) (z : ZoneConfig) :
    i.claim floors p z = .none ∨ i.claim floors p z = .alert ∨ i.claim floors p z = .evacuate := by
  unfold Incident.claim
  split
  · exact .inl rfl
  · split
    · exact .inr (.inr rfl)
    · unfold phasedClaim
      split
      · exact .inl rfl
      · exact .inr (.inr rfl)
      · exact ringClaim_cases ..
      · exact ringClaim_cases ..
      · dsimp only
        split
        · exact .inr (.inl rfl)
        · exact ringClaim_cases ..
    · exact .inr (.inl rfl)
    · exact .inl rfl

/-- The claim of a slot's incident, if it makes one. -/
def Engine.claimOf (e : Engine) (z : ZoneConfig) (k : Fin 32) : Option Claim :=
  match e.slots[k].incident with
  | some i =>
    let c := i.claim e.floors e.profiles[i.profile] z
    if c = .none then none else some { rank := c, origin := .incident k }
  | none => none

theorem Engine.claims_eq_filterMap (e : Engine) (z : ZoneConfig) : e.claims z = e.ages.filterMap (e.claimOf z) := rfl

section ClaimOf
variable {e : Engine} {z : ZoneConfig} {k : Fin 32} {i : Incident} (live : e.slots[k].incident = some i)
include live

theorem Engine.claimOf_some (claimed : i.claim e.floors e.profiles[i.profile] z ≠ .none) :
    e.claimOf z k = some { rank := i.claim e.floors e.profiles[i.profile] z, origin := .incident k } := by
  unfold Engine.claimOf
  rw [live]
  exact if_neg claimed

end ClaimOf

theorem Engine.claimOf_some_iff {e : Engine} {z : ZoneConfig} {k : Fin 32} {c : Claim} :
    e.claimOf z k = some c ↔ ∃ i, e.slots[k].incident = some i ∧ c.rank = i.claim e.floors e.profiles[i.profile] z ∧
      c.rank ≠ .none ∧ c.origin = .incident k := by
  constructor
  · intro found
    unfold Engine.claimOf at found
    split at found
    · next i live =>
      dsimp only at found
      split at found
      · cases found
      · next claimed =>
        cases found
        exact ⟨i, live, rfl, claimed, rfl⟩
    · cases found
  · rintro ⟨i, live, rank, claimed, origin⟩
    rw [Engine.claimOf_some live (rank ▸ claimed), ← rank, ← origin]

theorem Engine.mem_claims_iff {e : Engine} {z : ZoneConfig} {c : Claim} : c ∈ e.claims z ↔
    ∃ k ∈ e.ages, ∃ i, e.slots[k].incident = some i ∧ c.rank = i.claim e.floors e.profiles[i.profile] z ∧
      c.rank ≠ .none ∧ c.origin = .incident k := by
  simp only [Engine.claims_eq_filterMap, List.mem_filterMap, Engine.claimOf_some_iff]

/-- An incident's claim is ALERT or EVACUATE. -/
theorem Engine.rank_of_mem_claims {e : Engine} {z : ZoneConfig} {c : Claim} (mem : c ∈ e.claims z) :
    c.rank = .alert ∨ c.rank = .evacuate := by
  obtain ⟨k, -, i, -, rank, claimed, -⟩ := Engine.mem_claims_iff.1 mem
  rw [rank] at claimed ⊢
  exact (Incident.claim_cases ..).resolve_left claimed

theorem sessionClaim_mem {session : Option Session} {z : Fin 48} (speaks : ∃ y, session = some y ∧ z ∈ y.zones)
    (m : Mic) (rank : Rank) : sessionClaim session m rank z = [{ rank := rank, origin := .mic m }] := by
  obtain ⟨y, rfl, mem⟩ := speaks
  exact if_pos (List.contains_iff_mem.2 mem)

theorem sessionClaim_silent {session : Option Session} {z : Fin 48} (silent : ¬ ∃ y, session = some y ∧ z ∈ y.zones)
    (m : Mic) (rank : Rank) : sessionClaim session m rank z = [] := by
  cases session with
  | none => rfl
  | some y => exact if_neg fun mem => silent ⟨y, rfl, List.contains_iff_mem.1 mem⟩

theorem sessionClaim_rank {session : Option Session} {m : Mic} {rank : Rank} {z : Fin 48} {c : Claim}
    (mem : c ∈ sessionClaim session m rank z) : c.rank = rank := by
  unfold sessionClaim at mem
  split at mem
  · split at mem
    · rw [List.mem_singleton.1 mem]
    · cases mem
  · cases mem

/-- The claim of the saturation flag (R90). -/
def Engine.flagClaim (e : Engine) : List Claim :=
  if e.saturated then [{ rank := .evacuate, origin := .saturation }] else []

/-- The test claim on a zone (R109). -/
def testClaim (r : Resolver) (z : Fin 48) : List Claim :=
  match r.tests[z] with
  | some p => [{ rank := .test, origin := .test p }]
  | none => []

theorem flagClaim_set {e : Engine} (flag : e.saturated = true) :
    e.flagClaim = [{ rank := .evacuate, origin := .saturation }] :=
  if_pos flag

theorem flagClaim_clear {e : Engine} (flag : e.saturated = false) : e.flagClaim = [] :=
  if_neg (Bool.eq_false_iff.1 flag)

theorem flagClaim_rank {e : Engine} {c : Claim} (mem : c ∈ e.flagClaim) : c.rank = .evacuate := by
  unfold Engine.flagClaim at mem
  split at mem
  · rw [List.mem_singleton.1 mem]
  · cases mem

theorem testClaim_rank {r : Resolver} {z : Fin 48} {c : Claim} (mem : c ∈ testClaim r z) : c.rank = .test := by
  unfold testClaim at mem
  split at mem
  · rw [List.mem_singleton.1 mem]
  · cases mem

section Claims
variable {e : Engine} {x : Sessions} {r : Resolver} {z : Fin 48}

/-- The claims on a used zone, in their order. -/
theorem claims_used (used : r.configs[z].kind ≠ .unused) : claims e x r z =
    e.claims r.configs[z] ++ (e.flagClaim ++ (sessionClaim x.fireService .fireService .liveFire z
      ++ (sessionClaim x.management .management .liveMgmt z ++ testClaim r z))) := by
  rw [claims, if_neg used]
  simp only [List.append_assoc]
  rfl

theorem mem_claims_used (used : r.configs[z].kind ≠ .unused) {c : Claim} : c ∈ claims e x r z ↔
    c ∈ e.claims r.configs[z] ∨ c ∈ e.flagClaim ∨ c ∈ sessionClaim x.fireService .fireService .liveFire z ∨
      c ∈ sessionClaim x.management .management .liveMgmt z ∨ c ∈ testClaim r z := by
  simp only [claims_used used, List.mem_append]

end Claims

/-- Settles O38: the flag's EVACUATE stands among the claims, and only the fire service microphone claims above it. -/
theorem saturationEvacuates : Obligations.SaturationEvacuates := by
  unfold Obligations.SaturationEvacuates
  intro e x r z flag used
  dsimp only
  rw [resolveZone_rank]
  have floor : 4 ≤ (topClaim (claims e x r z)).value :=
    le_topClaim (c := { rank := .evacuate, origin := .saturation })
      ((mem_claims_used used).2 (.inr (.inl (flagClaim_set flag ▸ List.mem_singleton_self _))))
  refine ⟨?rank, fun fire => ?speaks, fun speaks => ?fire⟩
  case rank =>
    revert floor
    cases topClaim (claims e x r z) <;> simp [Rank.value]
  case speaks =>
    by_contra silent
    rcases topClaim_mem (claims e x r z) with none | ⟨c, mem, top⟩
    · rw [none] at fire; cases fire
    · rw [fire] at top
      rw [mem_claims_used used, sessionClaim_silent silent] at mem
      rcases mem with incident | flag | none | management | test
      · rcases Engine.rank_of_mem_claims incident with rank | rank <;> rw [rank] at top <;> cases top
      · rw [flagClaim_rank flag] at top; cases top
      · cases none
      · rw [sessionClaim_rank management] at top; cases top
      · rw [testClaim_rank test] at top; cases top
  case fire =>
    have highest := le_topClaim (c := { rank := .liveFire, origin := .mic .fireService })
      ((mem_claims_used (e := e) (x := x) used).2
        (.inr (.inr (.inl (sessionClaim_mem speaks .fireService .liveFire ▸ List.mem_singleton_self _)))))
    revert highest
    cases topClaim (claims e x r z) <;> simp [Rank.value]

end Sys2Proof.Machine
end

section
/-! SUPPORT. Which claim governs a zone, origin by origin (R91 to R94). -/

namespace Sys2Proof.Machine

open Sys2Proof

section Governed
variable {e : Engine} {x : Sessions} {r : Resolver} {z : Fin 48}

/-- The claims on a used zone around the claim of one slot of the age list. -/
theorem claims_around {before after : List (Fin 32)} {k : Fin 32} {i : Incident} (used : r.configs[z].kind ≠ .unused)
    (ages : e.ages = before ++ k :: after) (live : e.slots[k].incident = some i)
    (claimed : i.claim e.floors e.profiles[i.profile] r.configs[z] ≠ .none) :
    claims e x r z = before.filterMap (e.claimOf r.configs[z])
      ++ { rank := i.claim e.floors e.profiles[i.profile] r.configs[z], origin := .incident k }
      :: (after.filterMap (e.claimOf r.configs[z])
        ++ (e.flagClaim ++ (sessionClaim x.fireService .fireService .liveFire z
          ++ (sessionClaim x.management .management .liveMgmt z ++ testClaim r z)))) := by
  rw [claims_used used, Engine.claims_eq_filterMap, ages, List.filterMap_append, List.filterMap_cons,
    Engine.claimOf_some live claimed, List.append_assoc]
  rfl

/-- The slots of a list claim ALERT or EVACUATE, each for its incident. -/
theorem Engine.mem_filterMap_claimOf {slots : List (Fin 32)} {cfg : ZoneConfig} {c : Claim}
    (mem : c ∈ slots.filterMap (e.claimOf cfg)) : ∃ j ∈ slots, ∃ y, e.slots[j].incident = some y ∧
      c.rank = y.claim e.floors e.profiles[y.profile] cfg ∧ (c.rank = .alert ∨ c.rank = .evacuate) := by
  obtain ⟨j, slot, found⟩ := List.mem_filterMap.1 mem
  obtain ⟨y, live, rank, claimed, -⟩ := Engine.claimOf_some_iff.1 found
  refine ⟨j, slot, y, live, rank, ?_⟩
  rw [rank] at claimed ⊢
  exact (Incident.claim_cases ..).resolve_left claimed

/-- A zone governed by an incident that claims a rank. -/
theorem recordOf_incident {k : Fin 32} {i : Incident} (live : e.slots[k].incident = some i) (rank : Rank) :
    recordOf e { rank := rank, origin := .incident k } =
      { rank := rank, source := .incident, program := some (profileProgram e.profiles[i.profile] rank)
        governing := some (e.handle k) } := by
  simp only [recordOf, live, Option.map_some]

section Used
variable (used : r.configs[z].kind ≠ .unused)
include used

/-- The oldest incident that claims EVACUATE governs (R92, R93). -/
theorem resolveZone_evacuate {before after : List (Fin 32)} {k : Fin 32} {i : Incident}
    (ages : e.ages = before ++ k :: after) (live : e.slots[k].incident = some i)
    (quiet : ¬ ∃ y, x.fireService = some y ∧ z ∈ y.zones)
    (claim : i.claim e.floors e.profiles[i.profile] r.configs[z] = .evacuate)
    (oldest : ∀ j ∈ before, ∀ y, e.slots[j].incident = some y →
      y.claim e.floors e.profiles[y.profile] r.configs[z] ≠ .evacuate) :
    resolveZone e x r z =
      { rank := .evacuate, source := .incident, program := some e.profiles[i.profile].evacuate
        governing := some (e.handle k) } := by
  have around := claims_around (x := x) used ages live (by rw [claim]; decide)
  rw [claim, sessionClaim_silent quiet, List.nil_append] at around
  rw [resolveZone_chosen around ?first ?top, recordOf_incident live]
  · rfl
  case first =>
    intro b mem
    obtain ⟨j, slot, y, stands, rank, alert | evacuate⟩ := Engine.mem_filterMap_claimOf mem
    · rw [alert]; simp [Rank.value]
    · exact absurd (rank.symm.trans evacuate) (oldest j slot y stands)
  case top =>
    intro c mem
    simp only [List.mem_append] at mem
    rcases mem with incident | flag | management | test
    · obtain ⟨-, -, -, -, -, rank | rank⟩ := Engine.mem_filterMap_claimOf incident <;>
        simp [rank, Rank.value]
    · rw [flagClaim_rank flag]
    · rw [sessionClaim_rank management]; simp [Rank.value]
    · rw [testClaim_rank test]; simp [Rank.value]

/-- The oldest incident that claims ALERT governs where nothing above ALERT claims the zone (R92, R93). -/
theorem resolveZone_alert {before after : List (Fin 32)} {k : Fin 32} {i : Incident}
    (ages : e.ages = before ++ k :: after) (live : e.slots[k].incident = some i)
    (quiet : ¬ ∃ y, x.fireService = some y ∧ z ∈ y.zones) (flag : e.saturated = false)
    (silent : ¬ ∃ y, x.management = some y ∧ z ∈ y.zones)
    (claim : i.claim e.floors e.profiles[i.profile] r.configs[z] = .alert)
    (none_higher : ∀ j ∈ e.ages, ∀ y, e.slots[j].incident = some y →
      y.claim e.floors e.profiles[y.profile] r.configs[z] ≠ .evacuate)
    (oldest : ∀ j ∈ before, ∀ y, e.slots[j].incident = some y →
      y.claim e.floors e.profiles[y.profile] r.configs[z] ≠ .alert) :
    resolveZone e x r z =
      { rank := .alert, source := .incident, program := some e.profiles[i.profile].alert
        governing := some (e.handle k) } := by
  have around := claims_around (x := x) used ages live (by rw [claim]; decide)
  rw [claim, sessionClaim_silent quiet, sessionClaim_silent silent, flagClaim_clear flag, List.nil_append,
    List.nil_append, List.nil_append] at around
  have higher {j : Fin 32} {y : Incident} {c : Claim} (slot : j ∈ e.ages) (stands : e.slots[j].incident = some y)
      (rank : c.rank = y.claim e.floors e.profiles[y.profile] r.configs[z]) : c.rank ≠ .evacuate :=
    fun evacuate => none_higher j slot y stands (rank.symm.trans evacuate)
  rw [resolveZone_chosen around ?first ?top, recordOf_incident live]
  · rfl
  case first =>
    intro b mem
    obtain ⟨j, slot, y, stands, rank, alert | evacuate⟩ := Engine.mem_filterMap_claimOf mem
    · exact absurd (rank.symm.trans alert) (oldest j slot y stands)
    · exact absurd evacuate (higher (ages ▸ List.mem_append_left _ slot) stands rank)
  case top =>
    intro c mem
    rcases List.mem_append.1 mem with incident | test
    · obtain ⟨j, slot, y, stands, rank, alert | evacuate⟩ := Engine.mem_filterMap_claimOf incident
      · rw [alert]
      · exact absurd evacuate (higher (ages ▸ List.mem_append_right _ (List.mem_cons_of_mem k slot)) stands rank)
    · rw [testClaim_rank test]; simp [Rank.value]

/-- The fire service microphone comes before every other claim (R91, R92). -/
theorem resolveZone_fire (speaks : ∃ y, x.fireService = some y ∧ z ∈ y.zones) :
    resolveZone e x r z = { rank := .liveFire, source := .fireService, program := none, governing := none } := by
  have around := claims_used (e := e) (x := x) used
  rw [sessionClaim_mem speaks, ← List.append_assoc, List.cons_append, List.nil_append] at around
  refine resolveZone_chosen around (fun b mem => ?_) fun c mem => ?_
  · rcases List.mem_append.1 mem with incident | flag
    · rcases Engine.rank_of_mem_claims incident with rank | rank <;> rw [rank] <;> decide
    · rw [flagClaim_rank flag]; decide
  · rcases List.mem_append.1 mem with management | test
    · rw [sessionClaim_rank management]; decide
    · rw [testClaim_rank test]; decide

/-- The management microphone comes before ALERT and TEST (R91, R92). -/
theorem resolveZone_management (quiet : ¬ ∃ y, x.fireService = some y ∧ z ∈ y.zones) (flag : e.saturated = false)
    (speaks : ∃ y, x.management = some y ∧ z ∈ y.zones)
    (none_higher : ∀ j ∈ e.ages, ∀ i, e.slots[j].incident = some i →
      i.claim e.floors e.profiles[i.profile] r.configs[z] ≠ .evacuate) :
    resolveZone e x r z = { rank := .liveMgmt, source := .management, program := none, governing := none } := by
  have around := claims_used (e := e) (x := x) used
  rw [sessionClaim_silent quiet, flagClaim_clear flag, List.nil_append, List.nil_append, sessionClaim_mem speaks,
    List.singleton_append] at around
  refine resolveZone_chosen around (fun b mem => ?_) fun c mem => ?_
  · obtain ⟨k, slot, i, live, rank, claimed, -⟩ := Engine.mem_claims_iff.1 mem
    rcases Engine.rank_of_mem_claims mem with alert | evacuate
    · rw [alert]; decide
    · exact absurd (rank.symm.trans evacuate) (none_higher k slot i live)
  · rw [testClaim_rank mem]; decide

section Unclaimed
variable (unclaimed : e.claims r.configs[z] = []) (quiet : ¬ ∃ y, x.fireService = some y ∧ z ∈ y.zones)
include unclaimed quiet

/-- Without an incident's claim, the saturation flag comes before the management microphone (R90, R92). -/
theorem resolveZone_saturation (flag : e.saturated = true) : resolveZone e x r z =
    { rank := .evacuate, source := .saturation, program := some e.profiles[15].evacuate, governing := none } := by
  have around := claims_used (e := e) (x := x) used
  rw [unclaimed, sessionClaim_silent quiet, flagClaim_set flag, List.nil_append, List.nil_append, List.cons_append,
    List.nil_append] at around
  refine resolveZone_chosen (before := []) around (fun b mem => nomatch mem) fun c mem => ?_
  rcases List.mem_append.1 mem with management | test
  · rw [sessionClaim_rank management]; decide
  · rw [testClaim_rank test]; decide

section Idle
variable (flag : e.saturated = false) (silent : ¬ ∃ y, x.management = some y ∧ z ∈ y.zones)
include flag silent

theorem claims_test_only : claims e x r z = testClaim r z := by
  rw [claims_used used, unclaimed, sessionClaim_silent quiet, flagClaim_clear flag, sessionClaim_silent silent]
  rfl

theorem resolveZone_test {p : Fin 16} (test : r.tests[z] = some p) :
    resolveZone e x r z = { rank := .test, source := .test, program := some p, governing := none } := by
  have only := claims_test_only used unclaimed quiet flag silent
  simp only [testClaim, test] at only
  exact resolveZone_chosen (before := []) only (fun b mem => nomatch mem) fun c mem => nomatch mem

theorem resolveZone_nothing (untested : r.tests[z] = none) : resolveZone e x r z = ZoneRecord.empty := by
  have only := claims_test_only used unclaimed quiet flag silent
  simp only [testClaim, untested] at only
  rw [resolveZone, only]
  rfl

end Idle
end Unclaimed
end Used
end Governed

/-- Settles O39: the claims in their order, split at the one that governs; the claims before it rank below it and those
after it no higher. -/
theorem resolvedSource : Obligations.ResolvedSource := by
  unfold Obligations.ResolvedSource
  refine ⟨fun e x r z before after k i used ages live quiet => ?incident, fun e x r z used => ?microphones,
    fun e x r z none_claims => ?unclaimed⟩
  case incident =>
    have quiet : ¬ ∃ y, x.fireService = some y ∧ z ∈ y.zones := fun ⟨y, speaks, mem⟩ => quiet y speaks mem
    refine ⟨fun claim oldest => resolveZone_evacuate used ages live quiet claim oldest,
      fun claim flag silent none_higher oldest => ?_⟩
    exact resolveZone_alert used ages live quiet flag (fun ⟨y, speaks, mem⟩ => silent y speaks mem) claim none_higher
      oldest
  case microphones =>
    exact ⟨resolveZone_fire used, resolveZone_management used⟩
  case unclaimed =>
    have unclaimed : e.claims r.configs[z] = [] := List.eq_nil_iff_forall_not_mem.2 fun c mem => by
      obtain ⟨k, slot, i, live, rank, claimed, -⟩ := Engine.mem_claims_iff.1 mem
      exact claimed (rank.trans (none_claims k slot i live))
    refine ⟨fun unused => resolveZone_unused unused, fun used => ⟨resolveZone_fire used,
      resolveZone_saturation used unclaimed, fun quiet flag speaks => ?_, fun quiet flag silent =>
      ⟨fun p => resolveZone_test used unclaimed quiet flag silent,
        resolveZone_nothing used unclaimed quiet flag silent⟩⟩⟩
    refine resolveZone_management used quiet flag speaks fun j slot i live => ?_
    rw [none_claims j slot i live]
    decide

end Sys2Proof.Machine
end

section
/-! SUPPORT. The bytes of the command link: the CRC, two-byte fields, and the start of a transaction (R172, R173, R189,
R190). -/

namespace Sys2Proof.Machine

open Sys2Proof

/-! ### The CRC (R189) -/

theorem crcShifts_eq_iterate (n : Nat) (r : BitVec 16) : crcShifts n r = crcShift^[n] r := by
  induction n generalizing r with
  | zero => rfl
  | succ n ih => exact ih (crcShift r)

theorem crc_append (bs : List Byte) (b : Byte) : crc (bs ++ [b]) = crcByte (crc bs) b :=
  List.foldl_concat _ _ _ _

/-- A byte in the upper eight bits of the register. -/
theorem append_zero_eq_shift (b : Byte) : b ++ 0#8 = b.setWidth 16 <<< 8 := by
  refine BitVec.eq_of_toNat_eq (BitVec.toNat_append b 0#8 |>.trans ?_)
  have := b.isLt
  simp only [BitVec.toNat_shiftLeft, BitVec.toNat_setWidth, Nat.shiftLeft_eq, BitVec.toNat_ofNat,
    Nat.zero_mod, Nat.or_zero]
  omega

theorem byte_high (w : BitVec 16) : byte (w.toNat / 256) = w.extractLsb' 8 8 := by
  refine BitVec.eq_of_toNat_eq ?_
  simp [byte, Nat.shiftRight_eq_div_pow]

theorem byte_low (w : BitVec 16) : byte w.toNat = w.extractLsb' 0 8 := by
  refine BitVec.eq_of_toNat_eq ?_
  simp [byte]

theorem crcBytes_eq (bs : List Byte) : crcBytes bs = [(crc bs).extractLsb' 8 8, (crc bs).extractLsb' 0 8] := by
  rw [crcBytes, bytes2, byte_high, byte_low]

/-- Two bytes taken from a word spell it again. -/
theorem word2_extract (w : BitVec 16) : word2 (w.extractLsb' 8 8) (w.extractLsb' 0 8) = w :=
  BitVec.extractLsb'_append_extractLsb' (w := 8) (len := 8) (x := w)

/-- No 1 leaves the top of a register that still fits after the shifts. -/
theorem crcShifts_of_small (n : Nat) (r : BitVec 16) (small : r.toNat * 2 ^ n < 2 ^ 16) :
    (crcShifts n r).toNat = r.toNat * 2 ^ n := by
  induction n generalizing r with
  | zero => exact (Nat.mul_one _).symm
  | succ n ih =>
    have half : 2 * r.toNat < 2 ^ 16 := by
      refine Nat.lt_of_le_of_lt ?_ small
      rw [Nat.mul_comm]
      exact Nat.mul_le_mul_left _ (by rw [Nat.pow_succ]; have := Nat.one_le_two_pow (n := n); omega)
    have shift : (crcShift r).toNat = 2 * r.toNat := by
      rw [crcShift, if_neg (by rw [BitVec.msb_eq_false_iff_two_mul_lt.2 half]; exact Bool.false_ne_true)]
      rw [BitVec.toNat_shiftLeft, Nat.shiftLeft_eq]
      omega
    have fits : (crcShift r).toNat * 2 ^ n < 2 ^ 16 := by rw [shift]; rw [Nat.pow_succ] at small; nlinarith
    rw [crcShifts, ih (crcShift r) fits, shift, Nat.pow_succ]
    ring

/-- The register's own two bytes, taken in, leave it at 0. -/
theorem crcByte_own_bytes (r : BitVec 16) :
    crcByte (crcByte r (r.extractLsb' 8 8)) (r.extractLsb' 0 8) = 0 := by
  have low : r ^^^ (r.extractLsb' 8 8 ++ 0#8) = 0#8 ++ r.extractLsb' 0 8 := by
    have halves := BitVec.xor_append (x₁ := r.extractLsb' 8 8) (x₂ := r.extractLsb' 8 8) (y₁ := r.extractLsb' 0 8)
      (y₂ := 0#8)
    rw [show r.extractLsb' 8 8 ++ r.extractLsb' 0 8 = r from word2_extract r, BitVec.xor_self, BitVec.xor_zero] at halves
    exact halves
  generalize r.extractLsb' 0 8 = b at low ⊢
  have fits := b.isLt
  have held : (0#8 ++ b).toNat = b.toNat := by
    rw [BitVec.toNat_append]
    simp
  have shifted : crcShifts 8 (0#8 ++ b) = b ++ 0#8 := by
    refine BitVec.eq_of_toNat_eq ((crcShifts_of_small 8 _ (by omega)).trans ?_)
    rw [held, append_zero_eq_shift]
    simp only [BitVec.toNat_shiftLeft, BitVec.toNat_setWidth, Nat.shiftLeft_eq]
    omega
  rw [crcByte, crcByte, low, shifted, BitVec.xor_self]
  rfl

/-- The check value of "123456789", byte by byte. -/
theorem crc_checkValue : crc [0x31, 0x32, 0x33, 0x34, 0x35, 0x36, 0x37, 0x38, 0x39] = 0x29B1#16 := by
  have b1 : crcByte 0xFFFF#16 0x31 = 0xC782#16 := by rfl
  have b2 : crcByte 0xC782#16 0x32 = 0x3DBA#16 := by rfl
  have b3 : crcByte 0x3DBA#16 0x33 = 0x5BCE#16 := by rfl
  have b4 : crcByte 0x5BCE#16 0x34 = 0x5349#16 := by rfl
  have b5 : crcByte 0x5349#16 0x35 = 0x4560#16 := by rfl
  have b6 : crcByte 0x4560#16 0x36 = 0x2EF4#16 := by rfl
  have b7 : crcByte 0x2EF4#16 0x37 = 0x7718#16 := by rfl
  have b8 : crcByte 0x7718#16 0x38 = 0xA12B#16 := by rfl
  have b9 : crcByte 0xA12B#16 0x39 = 0x29B1#16 := by rfl
  simp only [crc, List.foldl, b1, b2, b3, b4, b5, b6, b7, b8, b9]

/-- Settles O13: the register's equations are its definition's, and its own two bytes cancel it. -/
theorem crcRule : Obligations.CrcRule := by
  unfold Obligations.CrcRule
  refine ⟨rfl, fun bs b => ?_, crcBytes_eq, crc_checkValue, fun bs => ?_⟩
  · rw [crc_append, crcByte, crcShifts_eq_iterate, append_zero_eq_shift]
    rfl
  · have two : crc (bs ++ crcBytes bs) = crcByte (crcByte (crc bs) ((crc bs).extractLsb' 8 8)) ((crc bs).extractLsb' 0 8) := by
      rw [crcBytes_eq, crc, List.foldl_append]
      rfl
    rw [two, crcByte_own_bytes]

/-! ### The start of a transaction (R172, R173) -/

/-- Bytes shifted out past the end of the response are 00h. -/
theorem Transaction.outByte_eq (x : Transaction) (n : Nat) :
    (∀ h : n < x.out.length, x.outByte n = x.out[n]) ∧ (x.out.length ≤ n → x.outByte n = 0) := by
  constructor
  · intro h
    rw [Transaction.outByte, List.getElem?_eq_getElem h, Option.getD_some]
  · intro h
    rw [Transaction.outByte, List.getElem?_eq_none h]
    rfl

theorem Link.servable_iff {l : Link} {moment : Nat} :
    l.servable moment = true ↔ ∀ n, l.lastRelease = some n → n + 20000 ≤ moment := by
  unfold Link.servable Config.releaseNs
  cases l.lastRelease <;> simp

theorem exec_transactionStart_free {s : State} (free : s.link.transaction = none) (moment : Nat) :
    exec (.transactionStart moment) s = .next (s.setLink (s.link.start moment)) := by
  change execTransactionStart moment s = _
  unfold execTransactionStart
  rw [free]

/-- Settles O11: a start takes the response out, or, too soon, nothing; what is shifted out is what was taken and then 00h. -/
theorem transactionStartTakesTheResponse : Obligations.TransactionStartTakesTheResponse := by
  unfold Obligations.TransactionStartTakesTheResponse
  refine fun moment s => ⟨fun busy => ?busy, fun free late => ?served, fun free soon => ?unserved⟩
  case busy =>
    obtain ⟨x, busy⟩ := Option.isSome_iff_exists.1 busy
    change execTransactionStart moment s = _
    unfold execTransactionStart
    rw [busy]
  case served =>
    have start : s.link.start moment =
        { s.link with transaction := some { served := true, out := s.link.outgoing }, response := none } :=
      if_pos (Link.servable_iff.2 late)
    refine ⟨{ served := true, out := s.link.outgoing }, rfl, ?_, fun r holds => ?_, fun empty n => ?_⟩
    · rw [exec_transactionStart_free free, start]
      rfl
    · have out : s.link.outgoing = r.bytes := by rw [Link.outgoing, holds]
      rw [out]
      exact ⟨fun n h => (Transaction.outByte_eq _ n).1 h, fun n h => (Transaction.outByte_eq _ n).2 h⟩
    · have out : s.link.outgoing = [] := by rw [Link.outgoing, empty]
      rw [out]
      exact (Transaction.outByte_eq _ n).2 (Nat.zero_le n)
  case unserved =>
    obtain ⟨n, last, soon⟩ := soon
    have start : s.link.start moment = { s.link with transaction := some { served := false, out := [] } } :=
      if_neg fun late => absurd (Link.servable_iff.1 late n last) (by omega)
    refine ⟨{ served := false, out := [] }, rfl, fun n => (Transaction.outByte_eq _ n).2 (Nat.zero_le n), ?_⟩
    rw [exec_transactionStart_free free, start]
    rfl

end Sys2Proof.Machine
end

section
/-! SUPPORT. Requests as frames: the payload that spells a request is read back, the command-code table row by row, and the
release of a transaction (R172, R174 to R176, R192, R194). -/

namespace Sys2Proof.Machine

open Sys2Proof

/-! ### Payloads read back (11; R192) -/

/-- Three bytes taken from a store size spell it again. -/
theorem word3_extract (w : BitVec 24) : word3 (w.extractLsb' 16 8) (w.extractLsb' 8 8) (w.extractLsb' 0 8) = w := by
  have high := BitVec.extractLsb'_append_extractLsb'_eq_extractLsb' (x := w) (start₁ := 8) (len₁ := 8) (start₂ := 16)
    (len₂ := 8) rfl
  have whole := BitVec.extractLsb'_append_extractLsb' (w := 16) (len := 8) (x := w)
  rw [← high] at whole
  exact whole

/-- A zone list that a count can introduce is read back. -/
theorem askZones_zoneListBytes (f : ZoneList → Instr) {zones : ZoneList} (spelt : zones.wf = true) :
    askZones f (zoneListBytes zones) = .request (f zones) := by
  cases zones with
  | all => rfl
  | listed l =>
    have short : l.length ≤ 48 := of_decide_eq_true spelt
    have count : (byte l.length).toNat = l.length := byte_toNat (by omega)
    have counted : byte l.length ≠ 0xFF#8 := fun all => by
      have := congrArg BitVec.toNat all
      rw [count] at this
      simp only [BitVec.toNat_ofNat] at this
      omega
    rw [zoneListBytes, askZones, if_neg counted, count]
    split
    · exact if_pos rfl
    · next few =>
      have empty : l = [] := List.length_eq_zero_iff.1 (by omega)
      subst empty
      rfl

/-- Settles O9: each payload is read field by field; two-byte fields, the store size and zone lists spell back what they
were taken from. -/
theorem requestPayloadsReadBack : Obligations.RequestPayloadsReadBack := by
  unfold Obligations.RequestPayloadsReadBack
  intro i code payload spelt bytes
  cases i with
  | incidentRead handle => cases bytes; exact congrArg (fun w => Asked.request (.incidentRead w)) (word2_extract handle)
  | incidentAck handle => cases bytes; exact congrArg (fun w => Asked.request (.incidentAck w)) (word2_extract handle)
  | incidentSilence handle =>
    cases bytes; exact congrArg (fun w => Asked.request (.incidentSilence w)) (word2_extract handle)
  | incidentResound handle =>
    cases bytes; exact congrArg (fun w => Asked.request (.incidentResound w)) (word2_extract handle)
  | incidentGeneral handle =>
    cases bytes; exact congrArg (fun w => Asked.request (.incidentGeneral w)) (word2_extract handle)
  | incidentReset handle force =>
    cases bytes; exact congrArg (fun w => Asked.request (.incidentReset w force)) (word2_extract handle)
  | profileWrite number p =>
    cases bytes
    change Asked.request (.profileWrite number { p with
      interval := word2 (p.interval.extractLsb' 8 8) (p.interval.extractLsb' 0 8)
      ackWindow := word2 (p.ackWindow.extractLsb' 8 8) (p.ackWindow.extractLsb' 0 8)
      investigate := word2 (p.investigate.extractLsb' 8 8) (p.investigate.extractLsb' 0 8) }) = _
    rw [word2_extract, word2_extract, word2_extract]
  | zoneWrite zone c =>
    cases bytes
    change Asked.request (.zoneWrite zone { c with
      load := word2 (c.load.extractLsb' 8 8) (c.load.extractLsb' 0 8) }) = _
    rw [word2_extract]
  | segmentWrite index x =>
    cases bytes
    change Asked.request (.segmentWrite index { x with
      duration := word2 (x.duration.extractLsb' 8 8) (x.duration.extractLsb' 0 8)
      start := word2 (x.start.extractLsb' 8 8) (x.start.extractLsb' 0 8)
      pages := word2 (x.pages.extractLsb' 8 8) (x.pages.extractLsb' 0 8) }) = _
    rw [word2_extract, word2_extract, word2_extract]
  | storeSet size => cases bytes; exact congrArg (fun w => Asked.request (.storeSet w)) (word3_extract size)
  | zoneTestStart program zones => cases bytes; exact askZones_zoneListBytes (.zoneTestStart program) spelt
  | zoneTestStop zones => cases bytes; exact askZones_zoneListBytes .zoneTestStop spelt
  | micOpen mic limit zones =>
    cases bytes
    refine (askZones_zoneListBytes (.micOpen mic (word2 (limit.extractLsb' 8 8) (limit.extractLsb' 0 8))) spelt).trans ?_
    rw [word2_extract]
  | _ => cases bytes <;> rfl

/-! ### The command-code table (11, Command Codes; R194) -/

/-- A reader of payloads for one command code: any length but the allowed one is refused, and the allowed one read as a
request of that code. -/
def AsksFor (code : Byte) (fixed : Nat) (zoneList : Bool) (ask : List Byte → Asked) : Prop :=
  ∀ payload : List Byte,
    (payload.length ≠ allowedLength fixed zoneList payload → ask payload = .badLength) ∧
    (payload.length = allowedLength fixed zoneList payload →
      ∃ i, (requestBytes i).map Prod.fst = some code ∧ ask payload = .request i)

section Asks
variable {code : Byte}

theorem ask0_asksFor {i : Instr} (spelt : (requestBytes i).map Prod.fst = some code) :
    AsksFor code 0 false (ask0 i)
  | [] => ⟨fun h => absurd rfl h, fun _ => ⟨i, spelt, rfl⟩⟩
  | _ :: _ => ⟨fun _ => rfl, fun h => nomatch h⟩

theorem ask1_asksFor {f : Byte → Instr} (spelt : ∀ a, (requestBytes (f a)).map Prod.fst = some code) :
    AsksFor code 1 false (ask1 f)
  | [] => ⟨fun _ => rfl, fun h => nomatch h⟩
  | [a] => ⟨fun h => absurd rfl h, fun _ => ⟨f a, spelt a, rfl⟩⟩
  | _ :: _ :: _ => ⟨fun _ => rfl, fun h => nomatch h⟩

theorem ask2_asksFor {f : Byte → Byte → Instr} (spelt : ∀ a b, (requestBytes (f a b)).map Prod.fst = some code) :
    AsksFor code 2 false (ask2 f)
  | [] => ⟨fun _ => rfl, fun h => nomatch h⟩
  | [_] => ⟨fun _ => rfl, fun h => nomatch h⟩
  | [a, b] => ⟨fun h => absurd rfl h, fun _ => ⟨f a b, spelt a b, rfl⟩⟩
  | _ :: _ :: _ :: _ => ⟨fun _ => rfl, fun h => nomatch h⟩

theorem ask3_asksFor {f : Byte → Byte → Byte → Instr}
    (spelt : ∀ a b c, (requestBytes (f a b c)).map Prod.fst = some code) : AsksFor code 3 false (ask3 f)
  | [] => ⟨fun _ => rfl, fun h => nomatch h⟩
  | [_] => ⟨fun _ => rfl, fun h => nomatch h⟩
  | [_, _] => ⟨fun _ => rfl, fun h => nomatch h⟩
  | [a, b, c] => ⟨fun h => absurd rfl h, fun _ => ⟨f a b c, spelt a b c, rfl⟩⟩
  | _ :: _ :: _ :: _ :: _ => ⟨fun _ => rfl, fun h => nomatch h⟩

theorem askAfter_asksFor {n : Nat} {zoneList : Bool} {f : Byte → List Byte → Asked}
    (rest : ∀ a, AsksFor code n zoneList (f a)) : AsksFor code (n + 1) zoneList (askAfter f)
  | [] => ⟨fun _ => rfl, fun h => by cases zoneList <;> simp [allowedLength] at h⟩
  | a :: l => by
    have shift : allowedLength (n + 1) zoneList (a :: l) = allowedLength n zoneList l + 1 := by
      cases zoneList with
      | false => rfl
      | true =>
        simp only [allowedLength, if_true, List.getElem?_cons_succ]
        split <;> omega
    rw [shift, List.length_cons]
    exact ⟨fun h => (rest a l).1 fun same => h (congrArg (· + 1) same),
      fun h => (rest a l).2 (Nat.succ_injective h)⟩

theorem askZones_asksFor {f : ZoneList → Instr} (spelt : ∀ z, (requestBytes (f z)).map Prod.fst = some code) :
    AsksFor code 0 true (askZones f)
  | [] => ⟨fun _ => rfl, fun h => nomatch h⟩
  | count :: zones => by
    have allowed : allowedLength 0 true (count :: zones) =
        (if 1 ≤ count.toNat ∧ count.toNat ≤ 48 then count.toNat else 0) + 1 := by
      simp only [allowedLength, if_true, List.getElem?_cons_zero]
      omega
    rw [allowed, List.length_cons, askZones]
    by_cases all : count = 0xFF#8
    · have alone : ¬ (1 ≤ count.toNat ∧ count.toNat ≤ 48) := by rw [all]; decide
      rw [if_pos all, if_neg alone]
      exact ⟨fun h => if_neg fun empty => h (by rw [List.isEmpty_iff.1 empty]; rfl),
        fun h => ⟨_, spelt _, if_pos (List.isEmpty_iff_length_eq_zero.2 (by omega))⟩⟩
    · rw [if_neg all]
      by_cases counted : 1 ≤ count.toNat ∧ count.toNat ≤ 48
      · rw [if_pos counted, if_pos counted]
        exact ⟨fun h => if_neg fun same => h (congrArg (· + 1) same),
          fun h => ⟨_, spelt _, if_pos (Nat.succ_injective h)⟩⟩
      · rw [if_neg counted, if_neg counted]
        exact ⟨fun h => if_neg fun empty => h (by rw [List.isEmpty_iff.1 empty]; rfl),
          fun h => ⟨_, spelt _, if_pos (List.isEmpty_iff_length_eq_zero.2 (by omega))⟩⟩

/-! A record is read from exactly its length. -/

theorem askEntry_asksFor {f : RawEntry → Instr} (spelt : ∀ x, (requestBytes (f x)).map Prod.fst = some code) :
    AsksFor code 8 false (askEntry f) := by
  refine fun l => ⟨fun long => ?_, fun eight => ?_⟩
  · unfold askEntry
    split
    · exact absurd rfl long
    · rfl
  · match l, eight with
    | [_, _, _, _, _, _, _, _], _ => exact ⟨_, spelt _, rfl⟩

theorem askProfile_asksFor {f : RawProfile → Instr} (spelt : ∀ x, (requestBytes (f x)).map Prod.fst = some code) :
    AsksFor code 13 false (askProfile f) := by
  refine fun l => ⟨fun long => ?_, fun thirteen => ?_⟩
  · unfold askProfile
    split
    · exact absurd rfl long
    · rfl
  · match l, thirteen with
    | [_, _, _, _, _, _, _, _, _, _, _, _, _], _ => exact ⟨_, spelt _, rfl⟩

theorem askZone_asksFor {f : RawZone → Instr} (spelt : ∀ x, (requestBytes (f x)).map Prod.fst = some code) :
    AsksFor code 6 false (askZone f) := by
  refine fun l => ⟨fun long => ?_, fun six => ?_⟩
  · unfold askZone
    split
    · exact absurd rfl long
    · rfl
  · match l, six with
    | [_, _, _, _, _, _], _ => exact ⟨_, spelt _, rfl⟩

theorem askSegment_asksFor {f : RawSegment → Instr} (spelt : ∀ x, (requestBytes (f x)).map Prod.fst = some code) :
    AsksFor code 11 false (askSegment f) := by
  refine fun l => ⟨fun long => ?_, fun eleven => ?_⟩
  · unfold askSegment
    split
    · exact absurd rfl long
    · rfl
  · match l, eleven with
    | [_, _, _, _, _, _, _, _, _, _, _], _ => exact ⟨_, spelt _, rfl⟩

end Asks

/-- Each row of the command-code table against the reader of its code. -/
theorem asksFor_of_row : ∀ row ∈ commandTable, AsksFor (byte row.1) row.2.1 row.2.2 (requestOf (byte row.1)) := by
  simp only [commandTable, List.forall_mem_cons]
  exact ⟨ask0_asksFor rfl, ask0_asksFor rfl, ask0_asksFor rfl, ask3_asksFor fun _ _ _ => rfl,
    ask2_asksFor fun _ _ => rfl, askAfter_asksFor fun _ => askEntry_asksFor fun _ => rfl, askEntry_asksFor fun _ => rfl,
    ask1_asksFor fun _ => rfl, ask2_asksFor fun _ _ => rfl, ask1_asksFor fun _ => rfl, ask1_asksFor fun _ => rfl,
    ask3_asksFor fun _ _ _ => rfl, ask0_asksFor rfl, ask0_asksFor rfl, ask2_asksFor fun _ _ => rfl, ask0_asksFor rfl,
    ask2_asksFor fun _ _ => rfl, ask2_asksFor fun _ _ => rfl, ask2_asksFor fun _ _ => rfl, ask2_asksFor fun _ _ => rfl,
    ask2_asksFor fun _ _ => rfl, ask3_asksFor fun _ _ _ => rfl, ask0_asksFor rfl,
    askAfter_asksFor fun _ => askProfile_asksFor fun _ => rfl, ask1_asksFor fun _ => rfl, ask1_asksFor fun _ => rfl,
    askAfter_asksFor fun _ => askZone_asksFor fun _ => rfl, ask1_asksFor fun _ => rfl, ask1_asksFor fun _ => rfl,
    askAfter_asksFor fun _ => askZones_asksFor fun _ => rfl, askZones_asksFor fun _ => rfl,
    askAfter_asksFor fun _ => askAfter_asksFor fun _ => askAfter_asksFor fun _ => askZones_asksFor fun _ => rfl,
    ask1_asksFor fun _ => rfl, ask1_asksFor fun _ => rfl, ask1_asksFor fun _ => rfl, ask1_asksFor fun _ => rfl,
    ask0_asksFor rfl, ask0_asksFor rfl, askAfter_asksFor fun _ => askSegment_asksFor fun _ => rfl,
    ask1_asksFor fun _ => rfl, ask2_asksFor fun _ _ => rfl, ask1_asksFor fun _ => rfl, ask3_asksFor fun _ _ _ => rfl,
    ask1_asksFor fun _ => rfl, ask1_asksFor fun _ => rfl, List.forall_mem_nil _⟩

/-- A code that no row lists is unknown. -/
theorem requestOf_unknown {code : Byte} (absent : ∀ row ∈ commandTable, row.1 ≠ code.toNat) (payload : List Byte) :
    requestOf code payload = .unknown := by
  have absent : code.toNat ∉ commandTable.map Prod.fst := fun mem => by
    obtain ⟨row, listed, same⟩ := List.mem_map.1 mem
    exact absent row listed same
  unfold requestOf
  split
  case h_46 => rfl
  all_goals
    next listed =>
      rw [listed] at absent
      exact absurd (by decide) absent

/-! ### From bits to a frame (R172, R174, R175) -/

/-- Eight bits of a byte spell it again. -/
theorem byteOfBits_bitsOfByte (b : Byte) : byteOfBits (bitsOfByte b) = b := by
  have bit (x : Bool) (j : Nat) (h : j < 8) : (if x then 1#8 else 0#8)[j] = (x && decide (j = 0)) := by
    cases x <;> simp
  refine BitVec.eq_of_getLsbD_eq fun i h => ?_
  have places : i = 0 ∨ i = 1 ∨ i = 2 ∨ i = 3 ∨ i = 4 ∨ i = 5 ∨ i = 6 ∨ i = 7 := by omega
  rcases places with rfl | rfl | rfl | rfl | rfl | rfl | rfl | rfl <;> simp [byteOfBits, bitsOfByte, bit]

theorem wholeBytes_cons (b : Byte) (rest : List Bool) : wholeBytes (bitsOfByte b ++ rest) = b :: wholeBytes rest :=
  congrArg (· :: wholeBytes rest) (byteOfBits_bitsOfByte b)

/-- Bytes clocked in are received, whatever follows them. -/
theorem wholeBytes_flatMap (bs : List Byte) (fill : List Bool) :
    wholeBytes (bs.flatMap bitsOfByte ++ fill) = bs ++ wholeBytes fill := by
  induction bs with
  | nil => rfl
  | cons b bs ih => rw [List.flatMap_cons, List.append_assoc, wholeBytes_cons, ih, List.cons_append]

section Release
variable {moment : Nat} {bits : List Bool} {s : State} {x : Transaction}

theorem exec_transactionEnd_served (transaction : s.link.transaction = some x) (served : x.served = true) :
    exec (.transactionEnd moment bits) s = .next ((s.release moment).judgeFrame (frameOf (wholeBytes bits))) := by
  change execTransactionEnd moment bits s = _
  unfold execTransactionEnd
  simp only [transaction, served, if_true]

theorem exec_transactionEnd_unserved (transaction : s.link.transaction = some x) (unserved : x.served = false) :
    exec (.transactionEnd moment bits) s = .next (s.release moment) := by
  change execTransactionEnd moment bits s = _
  unfold execTransactionEnd
  simp only [transaction, unserved, Bool.false_eq_true, if_false]

/-- A valid frame of a served transaction is taken as its command code and payload read. -/
theorem exec_transactionEnd_valid {code : Byte} {payload : List Byte} (transaction : s.link.transaction = some x)
    (served : x.served = true) (frame : frameOf (wholeBytes bits) = .valid code payload) :
    exec (.transactionEnd moment bits) s = .next ((s.release moment).takeRequest code (serveFrame code payload)) := by
  rw [exec_transactionEnd_served transaction served, frame]
  rfl

end Release

theorem frameOf_poll {bytes : List Byte} (poll : bytes = [] ∨ ∃ b rest, bytes = b :: rest ∧ b ≠ 0x5A) :
    frameOf bytes = .poll := by
  rcases poll with rfl | ⟨b, rest, rfl, other⟩
  · rfl
  · exact if_pos other

/-- What fails the frame check: a frame cut short, too long a payload, or a CRC that disagrees (R175). -/
theorem frameOf_failed {rest : List Byte}
    (bad : rest.length < 2 ∨ ∃ code length body, rest = code :: length :: body ∧
      (120 < length.toNat ∨ body.length < length.toNat + 2 ∨
        (body.drop length.toNat).take 2 ≠ crcBytes (code :: length :: body.take length.toNat))) :
    frameOf (0x5A :: rest) = .failed (rest.headD 0) := by
  rcases bad with short | ⟨code, length, body, rfl, bad⟩
  · match rest, short with
    | [], _ => rfl
    | [_], _ => rfl
  · change checkFrame code length body = .failed code
    unfold checkFrame
    split
    · rfl
    · next fits =>
      split
      · rfl
      · next whole =>
        refine if_neg ?_
        rcases bad with long | cut | check
        · exact absurd long fits
        · exact absurd cut whole
        · exact check

theorem frameOf_valid {code length : Byte} {body : List Byte} (fits : length.toNat ≤ 120)
    (whole : length.toNat + 2 ≤ body.length)
    (check : (body.drop length.toNat).take 2 = crcBytes (code :: length :: body.take length.toNat)) :
    frameOf (0x5A :: code :: length :: body) = .valid code (body.take length.toNat) := by
  have fits : ¬ Config.maxRequestPayload < length.toNat := not_lt.2 fits
  have whole : ¬ body.length < length.toNat + 2 := not_lt.2 whole
  change checkFrame code length body = _
  unfold checkFrame
  rw [if_neg fits, if_neg whole]
  exact if_pos check

/-- A frame read as a command is that command's taking. -/
theorem takeRequest_serveFrame {code : Byte} {payload : List Byte} {i : Instr} (s : State)
    (asked : requestOf code payload = .request i) (spelt : (requestBytes i).map Prod.fst = some code) :
    .next (s.takeRequest code (serveFrame code payload)) = exec i s := by
  obtain ⟨⟨c, p⟩, bytes, rfl⟩ := Option.map_eq_some_iff.1 spelt
  rw [exec_of_requestBytes bytes, serveFrame, asked]

/-- Settles O12: the bytes received are a poll, a failed frame or a valid one; and a valid one's code is listed or not, its
payload of the length its row allows or not. -/
theorem releaseWithoutCommand : Obligations.ReleaseWithoutCommand := by
  unfold Obligations.ReleaseWithoutCommand
  refine ⟨fun moment bits s => ⟨fun idle => ?idle, fun x transaction poll => ?poll⟩,
    fun moment bits s x rest transaction served bytes bad => ?failed,
    fun moment bits s x code length body transaction served bytes fits whole => ?valid⟩
  case idle =>
    change execTransactionEnd moment bits s = _
    unfold execTransactionEnd
    rw [idle]
  case poll =>
    cases served : x.served with
    | false => exact exec_transactionEnd_unserved transaction served
    | true =>
      rw [exec_transactionEnd_served transaction served, frameOf_poll (poll.resolve_left (by simp [served]))]
      rfl
  case failed =>
    rw [exec_transactionEnd_served transaction served, bytes, frameOf_failed bad]
    rfl
  case valid =>
    dsimp only
    intro check
    have taken := exec_transactionEnd_valid (moment := moment) transaction served
      ((congrArg frameOf bytes).trans (frameOf_valid fits whole check))
    refine ⟨fun absent => ?unknown, fun fixed zoneList row => ⟨fun wrong => ?badLength, fun right => ?request⟩⟩
    case unknown =>
      rw [taken, State.takeRequest_refuse (r := .unknown) (by rw [serveFrame, requestOf_unknown absent])]
      rfl
    all_goals
      have asks := asksFor_of_row _ row (body.take length.toNat)
      dsimp only at asks
      rw [byte_of_toNat] at asks
      obtain ⟨refused, read⟩ := asks
    case badLength =>
      rw [taken, State.takeRequest_refuse (r := .outOfRange) (by rw [serveFrame, refused wrong])]
      rfl
    case request =>
      obtain ⟨i, spelt, asked⟩ := read right
      exact ⟨i, spelt, asked, taken.trans (takeRequest_serveFrame _ asked spelt)⟩

/-! ### The frame of a request (R174 to R176) -/

/-- A request's payload fits a request frame: it has the length its row allows. -/
theorem payload_length_le {i : Instr} {code : Byte} {payload : List Byte} (asked : requestOf code payload = .request i) :
    payload.length ≤ 120 := by
  by_cases listed : ∃ row ∈ commandTable, row.1 = code.toNat
  · obtain ⟨row, mem, same⟩ := listed
    have short : ∀ row ∈ commandTable, row.2.1 ≤ 14 := by decide
    have asks := asksFor_of_row row mem payload
    rw [same, byte_of_toNat] at asks
    obtain ⟨refused, -⟩ := asks
    have allowed : payload.length = allowedLength row.2.1 row.2.2 payload := by
      by_contra wrong
      rw [refused wrong] at asked
      cases asked
    have fixed := short row mem
    rw [allowed, allowedLength]
    split
    · split
      · split <;> omega
      · omega
    · omega
  · rw [requestOf_unknown fun row mem same => listed ⟨row, mem, same⟩] at asked
    cases asked

/-- The whole bytes of a request frame, with whatever follows, are a valid frame of its code and payload. -/
theorem frameOf_requestFrame {code : Byte} {payload : List Byte} (fits : payload.length ≤ 120) (fill : List Byte) :
    frameOf (requestFrame code payload ++ fill) = .valid code payload := by
  have count : (byte payload.length).toNat = payload.length := byte_toNat (by omega)
  have crc_length (bs : List Byte) : (crcBytes bs).length = 2 := rfl
  have frame : requestFrame code payload ++ fill =
      0x5A :: code :: byte payload.length :: (payload ++ (crcBytes (coveredBytes code payload) ++ fill)) := by
    simp only [requestFrame, coveredBytes, List.cons_append, List.append_assoc]
    rfl
  rw [frame, frameOf_valid, count, List.take_left]
  · rwa [count]
  · rw [count, List.length_append, List.length_append, crc_length]
    omega
  · rw [count, List.take_left, List.drop_left, List.take_left' (crc_length _)]
    rfl

/-- Settles O10: the bits of the frame are its bytes, which are valid and read back as the request. -/
theorem requestFrameIsCarriedOut : Obligations.RequestFrameIsCarriedOut := by
  unfold Obligations.RequestFrameIsCarriedOut
  intro i code payload moment fill s x spelt bytes transaction served
  have asked := requestPayloadsReadBack i code payload spelt bytes
  have frame : frameOf (wholeBytes ((requestFrame code payload).flatMap bitsOfByte ++ fill)) = .valid code payload := by
    rw [wholeBytes_flatMap, frameOf_requestFrame (payload_length_le asked)]
  rw [exec_transactionEnd_valid transaction served frame, takeRequest_serveFrame _ asked (by rw [bytes]; rfl)]
  rfl

end Sys2Proof.Machine
end

section
/-! SUPPORT. What every request does at the link, and the two that read the part and its notices (R53, R176 to R183, R185,
R193). -/

namespace Sys2Proof.Machine

open Sys2Proof

/-! ### The link's share of a request (R176, R178, R180) -/

theorem State.linkValid_link (s : State) : s.linkValid.link = { s.link with mode := .linked, supervision := some 100 } := by
  unfold State.linkValid
  split <;> rfl

/-- A bound report raises SATURATION where it finds the table full, and else what the sound side raises (R47). -/
theorem State.boundReport_soundChange (s : State) (r : BoundReport) :
    (if s.engine.saturates r = true then s.notices.raiseSaturation else s.notices).SoundChange
      (s.boundReport r).notices := by
  unfold State.boundReport
  dsimp only
  refine (State.engineEvent_soundChange _ _).startAt ?_
  split <;> rfl

theorem State.boundReport_linkRestored (s : State) (r : BoundReport) :
    (s.boundReport r).notices.linkRestored = s.notices.linkRestored := by
  rw [(s.boundReport_soundChange r).linkRestored]
  split <;> rfl

theorem State.resolveMisses_linkRestored (s : State) (p : Miss → Bool) (b : Binding) :
    (s.resolveMisses p b).notices.linkRestored = s.notices.linkRestored :=
  List.foldlRecOn (motive := fun t : State => t.notices.linkRestored = s.notices.linkRestored) _ _ rfl
    fun t same r _ => (t.boundReport_linkRestored r).trans same

theorem State.Commanded.link {s t : State} (left : s.Commanded t) : t.link = s.link := by
  cases left <;> simp [State.storeEntry, State.writeZone]

theorem Desk.giveBack_finish_soundChange (v : View) (d : Desk) (k : Fin 10) (i : Fin 12) :
    d.notices.SoundChange ((d.mapAudio (Audio.giveBack v k i)).finish v).notices :=
  ((Desk.Keeps.mapAudio (d.audio.giveBack_keeps v k i)).trans (Desk.finish_keeps v _)).soundChange

/-- Only NOTICE_READ and RESTART touch LINK_RESTORED. -/
theorem State.Commanded.linkRestored {s t : State} (left : s.Commanded t) :
    t.notices.linkRestored = s.notices.linkRestored := by
  cases left with
  | mapWrite i raw e place fields apart agree => exact State.resolveMisses_linkRestored _ _ _
  | missDefault p => exact State.resolveMisses_linkRestored _ _ _
  | acknowledge k i live => exact (State.engineEvent_soundChange _ _).linkRestored
  | stage k i stage live => exact (State.engineEvent_soundChange _ _).linkRestored
  | retire k i live => exact (State.engineEvent_soundChange _ _).linkRestored
  | saturationClear => exact (State.engineEvent_soundChange _ _).linkRestored
  | zoneWrite z c floors idle => exact (State.writeZone_soundChange _ _ _).linkRestored
  | testsPlaced tests => exact (State.inputChange_soundChange _).linkRestored
  | micOpen m x limit timer zones => exact (State.inputChange_soundChange _).linkRestored
  | micClose m => exact (State.inputChange_soundChange _).linkRestored
  | ampRestore k i recovered standby =>
    exact (State.onDesk_soundChange s (f := fun v d => (d.mapAudio (Audio.giveBack v k i)).finish v)
      fun d => d.giveBack_finish_soundChange s.view k i).linkRestored
  | programSet p head =>
    rw [State.onDesk_notices]
    dsimp only
    split
    · exact (Desk.settle_keeps _ _ _ _ _).soundChange.linkRestored
    · rfl
  | lineReconnect n locked => exact (State.lineChanged_soundChange _ _ _).linkRestored
  | _ => rfl

theorem State.Requested.link {s t : State} (left : s.Requested t) : t.link = s.link := by
  cases left with
  | noticeRead => rfl
  | restart quiet => exact s.restart_link
  | commanded t left => exact left.link

/-- A refused request is answered and changes nothing else (R177). -/
theorem takeRequest_refused {i : Instr} {s : State} {code : Byte}
    (refused : (serveRequest i s.linkValid).result ≠ .ok) :
    (serveRequest i s.linkValid).payload = [] ∧
      s.takeRequest code (serveRequest i) = s.answer code (serveRequest i s.linkValid).result [] := by
  obtain ⟨payload, state⟩ := refusalChangesNothing i s.linkValid refused
  refine ⟨payload, ?_⟩
  rw [State.takeRequest, payload, state, State.linkValid_respond]

/-- Settles O7: a request is served from the state its link's share leaves, and what it serves leaves the link alone but
for the response. -/
theorem requestIsTakenByTheLink : Obligations.RequestIsTakenByTheLink := by
  unfold Obligations.RequestIsTakenByTheLink
  intro i code payload s bytes
  have link : (serveRequest i s.linkValid).state.link = { s.link with mode := .linked, supervision := some 100 } :=
    (serveRequest_requested s.linkValid i).link.trans s.linkValid_link
  have taken : (s.takeRequest code (serveRequest i)).link = { s.link with
      mode := .linked, supervision := some 100, response := some
        { code := code, result := (serveRequest i s.linkValid).result
          payload := (serveRequest i s.linkValid).payload } } := by
    rw [State.takeRequest, State.respond, State.setLink_link, link]
  refine ⟨_, exec_of_requestBytes bytes s, ?mode, ?timer, ?release, ?transaction, fun noticeRead restart => ?restored,
    (serveRequest i s.linkValid).result, (serveRequest i s.linkValid).payload, State.takeRequest_response ..,
    takeRequest_refused⟩
  case mode => rw [taken]
  case timer => rw [taken]
  case release => rw [taken]
  case transaction => rw [taken]
  case restored =>
    have kept := (serveRequest_from s.linkValid noticeRead restart).commanded.linkRestored
    rw [State.takeRequest, State.respond_notices, kept, State.linkValid_notices]
    split
    · next autonomous => exact iff_of_true rfl (.inr autonomous)
    · next linked => exact (or_iff_left linked).symm

/-! ### IDENTIFY and NOTICE_READ (R53, R181 to R183, R185, R193) -/

theorem exec_identify (s : State) :
    exec .identify s = .next (s.answer 0x01 .ok ([0x24, 0x80, 0x01] ++ bytes4 s.now)) :=
  congrArg _ (State.takeRequest_read (by rw [serveIdentify, State.linkValid_now]; rfl))

/-- No kind is pending exactly when the notice set and the changed set are empty (R182). -/
theorem State.noticeN_iff (s : State) : s.noticeN = true ↔ s.notices = Notices.empty ∧ s.engine.changed = [] := by
  unfold State.noticeN State.noticePending State.pendingKinds
  generalize s.notices = n
  cases n
  simp only [Notices.empty, List.any_cons, List.any_nil, id, Bool.not_eq_true', Bool.or_eq_false_iff, Bool.not_eq_false',
    List.isEmpty_iff, Option.isSome_eq_false_iff, Option.isNone_iff_eq_none, Notices.mk.injEq]
  tauto

/-- The sets, the flags, the device fault and the microphones, in the order of the notice payload table. -/
theorem State.noticeBodies_eq (s : State) :
    let set := fun (kind : Byte) (members : List Nat) =>
      if members = [] then [] else [kind :: byte members.length :: members.map byte]
    let plain := fun (kind : Byte) (raised : Bool) => if raised then [[kind]] else []
    s.noticeBodies = set 0x01 (s.engine.changed.map Fin.val) ++ plain 0x02 s.notices.bindingMiss
        ++ (match s.notices.deviceFault with
            | some d => [[0x03, byte d.loop.val, d.address, d.kind.code, byte d.count]]
            | none => [])
        ++ set 0x04 (s.notices.loopFault.map Fin.val) ++ set 0x05 (s.notices.lineFault.map Fin.val)
        ++ set 0x06 (s.notices.ampFault.map Fin.val) ++ set 0x07 (s.notices.programBroken.map Fin.val)
        ++ set 0x08 (s.notices.testDone.map Fin.val)
        ++ set 0x09 ((if s.notices.micTimeoutFire then [0] else []) ++ if s.notices.micTimeoutManagement then [1] else [])
        ++ plain 0x0A s.notices.saturation ++ plain 0x0B s.notices.linkRestored := by
  unfold State.noticeBodies countedSet
  simp only [List.isEmpty_iff]
    <;> rfl

/-- A request finds the notice set as it was, LINK_RESTORED with it where it ends AUTONOMOUS mode (R180). -/
theorem State.linkValid_notices_eq (s : State) :
    s.linkValid.notices
      = { s.notices with linkRestored := s.notices.linkRestored || decide (s.link.mode = .autonomous) } := by
  rw [State.linkValid_notices]
  by_cases autonomous : s.link.mode = .autonomous
  · rw [if_pos autonomous, decide_eq_true autonomous, Bool.or_true]
  · rw [if_neg autonomous, decide_eq_false autonomous, Bool.or_false]

/-- Settles O14, by the equation of the notice payload: NOTICE_READ answers it and leaves both sets empty. -/
theorem identifyAndNoticeRead : Obligations.IdentifyAndNoticeRead := by
  unfold Obligations.IdentifyAndNoticeRead
  intro s
  refine ⟨exec_identify s, s.noticeN_iff, ?_⟩
  intro set plain n bodies
  have payload : s.linkValid.noticePayload = byte bodies.length :: bodies.flatten := by
    rw [State.noticePayload, State.noticeBodies_eq, State.linkValid_notices_eq, State.linkValid_engine]
      <;> rfl
  have taken := State.takeRequest_accept (s := s) (code := 0x02) (serve := serveNoticeRead) (p := s.linkValid.noticePayload) rfl
  refine ⟨s.takeRequest 0x02 serveNoticeRead, rfl, ?read, ?whole⟩
  case read => rw [taken, State.noticeN_iff]; exact ⟨rfl, rfl⟩
  case whole =>
    rw [taken, payload, ← State.linkValid_respond]
    simp only [State.emptyNotices, State.respond, State.setNotices, State.setEngine, State.setLink, State.linkValid_engine]

end Sys2Proof.Machine
end

section
/-! SUPPORT. Power-on reset (R16, R35, R57, R79, R95, R113, R139, R159, R171, R188), and the loop receivers' complete reports
and silence supervision (R5 to R13). -/

namespace Sys2Proof.Machine

open Sys2Proof

/-! ### POWER_ON_RESET -/

/-- Settles O5, by the power-on values of the receivers, the map, the engine and the link. -/
theorem powerOnResetReportSide : Obligations.PowerOnResetReportSide := by
  unfold Obligations.PowerOnResetReportSide
  intro s
  refine ⟨_, rfl, fun l => ?loops, fun i => ?entries, rfl, rfl, rfl, rfl, rfl, rfl, rfl, fun k => ?slots, rfl, rfl, rfl, rfl,
    fun n => ?profiles, rfl, rfl, rfl, rfl, rfl, rfl, rfl, rfl, rfl, rfl⟩
  case loops => simp [State.reset, Receiver.reset]
  case entries =>
    have entry : State.reset.map.entries[i] = MapEntry.reset := by simp [State.reset, CauseMap.reset]
    rw [entry]
    exact ⟨rfl, by decide⟩
  case slots => simp [State.reset, Engine.reset]
  case profiles =>
    have profile : State.reset.engine.profiles[n] = Profile.reset := by simp [State.reset, Engine.reset]
    rw [profile]
    decide

/-- Settles O6, by the power-on values of the zone plan, the sessions, the audio side and the scanner. -/
theorem powerOnResetSoundSide : Obligations.PowerOnResetSoundSide := by
  unfold Obligations.PowerOnResetSoundSide
  intro s
  refine ⟨_, rfl, fun z => ?zones, rfl, rfl, fun k => ?duty, fun i standby => ?standby, fun i => ?amps, rfl, rfl,
    ⟨_, rfl, rfl, fun i => ?sources, fun z => ?relays⟩, Audio.reset_player, fun i => ?segments, fun p => ?programs,
    rfl, fun k => ?requests, rfl, rfl, rfl, rfl⟩
  case zones => simp [State.reset, Resolver.reset, ZoneConfig.reset, ZoneRecord.empty, Audio.reset, Scanner.reset]
  case duty =>
    have below : (dutyAmp k).val < 10 := k.isLt
    simp only [State.reset, Audio.serverOf, Audio.reset_amp, Amp.reset, if_pos below, and_self]
  case standby =>
    have above : ¬ i.val < 10 := by
      rcases List.mem_pair.1 standby with rfl | rfl <;> decide
    simp only [State.reset, Audio.reset_amp, Amp.reset, if_neg above]
  case amps =>
    simp only [State.reset, Audio.reset_amp, Amp.reset, and_self]
  case sources => simp [Image.reset]
  case relays => simp [Image.reset]
  case segments => simp [State.reset, Audio.reset]
  case programs => simp [State.reset, Audio.reset]
  case requests => simp [State.reset, Audio.reset]

/-! ### Silence supervision and the wait for 1 (R1, R13) -/

theorem exec_silenceTimerExpiry_idle {l : Fin 4} {s : State}
    (idle : s.loops[l].state = .disabled ∨ s.loops[l].state = .silent ∨ s.loops[l].timer ≠ some 0) :
    exec (.silenceTimerExpiry l) s = .next s := by
  refine if_neg ?_
  rcases idle with disabled | silent | running
  · rw [disabled]; exact Bool.false_ne_true
  · rw [silent]; exact Bool.false_ne_true
  · rw [decide_eq_false running, Bool.and_false]; decide

/-- Settles O20, by the guards of the two events. -/
theorem silenceExpiryAndLineReads1 : Obligations.SilenceExpiryAndLineReads1 := by
  unfold Obligations.SilenceExpiryAndLineReads1
  intro l s
  refine ⟨fun supervised zero => ?_, exec_silenceTimerExpiry_idle, fun enabled => if_neg enabled, fun disabled => if_pos disabled⟩
  refine if_pos ?_
  rw [zero]
  rcases supervised with awaiting | live
  · rw [awaiting]; rfl
  · rw [live]; rfl

/-! ### The report buffer (R10, R11) -/

/-- What leaves a buffer for an ALARM is its oldest report that is none. -/
theorem dropOldestQuiet_append {before after : List Report} {y : Report} (alarms : ∀ z ∈ before, z.kind = .alarm)
    (quiet : y.kind ≠ .alarm) : dropOldestQuiet (before ++ y :: after) = before ++ after := by
  induction before with
  | nil => exact if_neg quiet
  | cons z before ih =>
    obtain ⟨alarm, alarms⟩ := List.forall_mem_cons.1 alarms
    exact (if_pos alarm).trans (congrArg (z :: ·) (ih alarms))

theorem exists_oldestQuiet {l : List Report} (quiet : ∃ y ∈ l, y.kind ≠ .alarm) :
    ∃ before y after, l = before ++ y :: after ∧ (∀ z ∈ before, z.kind = .alarm) ∧ y.kind ≠ .alarm := by
  induction l with
  | nil => obtain ⟨y, listed, _⟩ := quiet; cases listed
  | cons x l ih =>
    by_cases alarm : x.kind = .alarm
    · obtain ⟨y, listed, notAlarm⟩ := quiet
      have tail : y ∈ l := (List.mem_cons.1 listed).resolve_left (by rintro rfl; exact notAlarm alarm)
      obtain ⟨before, y, after, rfl, alarms, quiet⟩ := ih ⟨y, tail, notAlarm⟩
      exact ⟨x :: before, y, after, rfl, List.forall_mem_cons.2 ⟨alarm, alarms⟩, quiet⟩
    · exact ⟨[], x, l, rfl, by simp, alarm⟩

section Offer
variable {r : Receiver} {x : Report}

theorem Receiver.offer_room (room : r.buffer.length < 4) : r.offer x = { r with buffer := r.buffer ++ [x] } :=
  if_pos room

theorem Receiver.offer_discarded (full : 4 ≤ r.buffer.length)
    (kept : x.kind ≠ .alarm ∨ ∀ y ∈ r.buffer, y.kind = .alarm) :
    r.offer x = { r with overrun := min 255 (r.overrun + 1) } := by
  refine (if_neg (Nat.not_lt.2 full)).trans (if_neg ?_)
  rcases kept with quiet | alarms
  · simp [quiet]
  · simpa using fun _ => alarms

theorem Receiver.offer_replaces {before after : List Report} {y : Report} (full : 4 ≤ r.buffer.length)
    (alarm : x.kind = .alarm) (held : r.buffer = before ++ y :: after) (alarms : ∀ z ∈ before, z.kind = .alarm)
    (quiet : y.kind ≠ .alarm) :
    r.offer x = { r with overrun := min 255 (r.overrun + 1), buffer := before ++ after ++ [x] } := by
  refine ((if_neg (Nat.not_lt.2 full)).trans (if_pos ?_)).trans ?_
  · simp only [alarm, decide_true, Bool.true_and, List.any_eq_true, decide_eq_true_eq]
    exact ⟨y, held ▸ List.mem_append_right _ (List.mem_cons_self ..), quiet⟩
  · rw [held, dropOldestQuiet_append alarms quiet]
    rfl

end Offer

/-- Settles O19: a full buffer discards the report, or gives up its oldest report that is no ALARM for an ALARM. -/
theorem fullBufferKeepsAlarms : Obligations.FullBufferKeepsAlarms := by
  unfold Obligations.FullBufferKeepsAlarms
  intro r x full
  refine ⟨?count, fun kept => by rw [Receiver.offer_discarded full.ge kept], fun alarm quiet => ?replaced⟩
  case count =>
    by_cases kept : x.kind ≠ .alarm ∨ ∀ y ∈ r.buffer, y.kind = .alarm
    · rw [Receiver.offer_discarded full.ge kept]
    · obtain ⟨alarm, notAll⟩ := not_or.1 kept
      push Not at alarm notAll
      obtain ⟨before, y, after, held, alarms, quiet⟩ := exists_oldestQuiet notAll
      rw [Receiver.offer_replaces full.ge alarm held alarms quiet]
  case replaced =>
    obtain ⟨before, y, after, held, alarms, quiet⟩ := exists_oldestQuiet quiet
    exact ⟨before, y, after, held, alarms, quiet, by rw [Receiver.offer_replaces full.ge alarm held alarms quiet]⟩

/-! ### A complete report (R2, R5, R7 to R9, R12) -/

theorem reportCheck_eq_checkOf (a k v : Byte) : reportCheck a k v = checkOf a k v := by
  unfold reportCheck checkOf byte
  bv_omega

theorem reportKind?_none_iff {k : Byte} : reportKind? k = none ↔ k.toNat ∉ [1, 2, 3, 4, 5, 15] := by
  unfold reportKind?
  split <;> simp_all

@[simp] theorem reportKind?_alarmCode (kind : AlarmKind) : reportKind? kind.code = some (.buffered kind) := by
  cases kind <;> rfl

@[simp] theorem reportKind?_troubleCode (kind : TroubleKind) : reportKind? kind.code = some (.trouble kind) := by
  cases kind <;> rfl

theorem reportKind?_cycleEnd_iff {k : Byte} : reportKind? k = some .cycleEnd ↔ k.toNat = 15 := by
  unfold reportKind?
  split <;> simp_all

section Judge
variable {a k v check : Byte}

theorem judgeReport_badCheck (differs : check ≠ checkOf a k v) : judgeReport a k v check = .badCheck :=
  if_pos (by rwa [reportCheck_eq_checkOf])

theorem judgeReport_checked :
    judgeReport a k v (checkOf a k v) =
      match reportKind? k with
      | none => .badProtocol
      | some kind => if addressSuits a kind then .valid a kind v else .badProtocol := by
  refine (if_neg (by rw [reportCheck_eq_checkOf]; exact not_not.2 rfl)).trans ?_
  cases reportKind? k <;> rfl

theorem judgeReport_valid {kind : ReportKind} (known : reportKind? k = some kind) (suits : addressSuits a kind = true) :
    judgeReport a k v (checkOf a k v) = .valid a kind v := by
  rw [judgeReport_checked, known]
  exact if_pos suits

theorem judgeReport_badProtocol (bad : k.toNat ∉ [1, 2, 3, 4, 5, 15] ∨ (k.toNat = 15 ∧ a ≠ 0) ∨
    (k.toNat ≠ 15 ∧ (a.toNat = 0 ∨ 250 < a.toNat))) : judgeReport a k v (checkOf a k v) = .badProtocol := by
  rw [judgeReport_checked]
  cases known : reportKind? k with
  | none => rfl
  | some kind =>
    refine if_neg ?_
    rcases bad with unknown | ⟨cycle, address⟩ | ⟨device, address⟩
    · rw [reportKind?_none_iff.2 unknown] at known
      cases known
    · rw [reportKind?_cycleEnd_iff.2 cycle] at known
      cases known
      simpa [addressSuits] using address
    · have suits : addressSuits a kind = (1 ≤ a.toNat && a.toNat ≤ 250) := by
        cases kind with
        | cycleEnd => exact absurd (reportKind?_cycleEnd_iff.1 known) device
        | buffered _ => rfl
        | trouble _ => rfl
      rw [suits, Bool.and_eq_true, decide_eq_true_eq, decide_eq_true_eq]
      omega

theorem addressSuits_device {kind : ReportKind} (device : kind ≠ .cycleEnd) (low : 1 ≤ a.toNat) (high : a.toNat ≤ 250) :
    addressSuits a kind = true := by
  cases kind with
  | cycleEnd => exact absurd rfl device
  | buffered _ => simp [addressSuits, low, high]
  | trouble _ => simp [addressSuits, low, high]

end Judge

/-- The notice set once a valid report has been heard on loop `l`: LOOP_FAULT where it was SILENT (R12). -/
def State.toldHeard (s : State) (l : Fin 4) : Notices :=
  if s.loops[l].state = .silent then s.notices.raiseLoopFault l else s.notices

section Valid
variable {s : State} {l : Fin 4} {r : Receiver} (state : r.state = s.loops[l].state) (a v : Byte)
include state

theorem State.heardLoop_eq :
    (if (s.setLoop l r).loops[l].state = .silent then
      ((s.setLoop l r).setLoop l (s.setLoop l r).loops[l].heard).setNotices
        (((s.setLoop l r).setLoop l (s.setLoop l r).loops[l].heard).notices.raiseLoopFault l)
      else (s.setLoop l r).setLoop l (s.setLoop l r).loops[l].heard)
      = (s.setLoop l r.heard).setNotices (s.toldHeard l) := by
  rw [State.setLoop_loops_same, State.setLoop_setLoop, state, State.toldHeard]
  split <;> rfl

theorem State.validReport_buffered (k : AlarmKind) :
    (s.setLoop l r).validReport l a (.buffered k) v =
      (s.setLoop l (r.heard.offer { loop := l, address := a, kind := k })).setNotices (s.toldHeard l) := by
  unfold State.validReport
  dsimp only
  rw [State.heardLoop_eq state]
  change (((s.setLoop l r.heard).setLoop l _).setNotices _) = _
  rw [State.setLoop_setLoop]
  change (s.setLoop l ((s.setLoop l r.heard).loops[l].offer _)).setNotices _ = _
  rw [State.setLoop_loops_same]
  rfl

theorem State.validReport_trouble (k : TroubleKind) :
    (s.setLoop l r).validReport l a (.trouble k) v =
      (s.setLoop l r.heard).setNotices ((s.toldHeard l).raiseDeviceFault l a k) := by
  unfold State.validReport
  dsimp only
  rw [State.heardLoop_eq state]
  rfl

theorem State.validReport_cycleEnd :
    (s.setLoop l r).validReport l a .cycleEnd v =
      (s.setLoop l { r.heard with lastCycle := v.toNat }).setNotices (s.toldHeard l) := by
  unfold State.validReport
  dsimp only
  rw [State.heardLoop_eq state]
  change (((s.setLoop l r.heard).setLoop l { (s.setLoop l r.heard).loops[l] with lastCycle := v.toNat }).setNotices _) = _
  rw [State.setLoop_setLoop, State.setLoop_loops_same]
  rfl

end Valid

@[simp] theorem noiseCounted_state (r : Receiver) (c : LineChar) : (noiseCounted r c).state = r.state := by
  unfold noiseCounted; split <;> rfl

/-- The fourth character of a report has it judged, with its noise counted and the report taken out. -/
theorem exec_loopCharacter_completes {l : Fin 4} {c : LineChar} {a k v : Byte} {s : State}
    (enabled : s.loops[l].state ≠ .disabled) (seeking : s.loops[l].line = .seeking) (start : cellValue c.start = false)
    (stop : cellValue c.stop = true) (mark : cellValue c.mark = false) (held : s.loops[l].partialReport = [a, k, v]) :
    exec (.loopCharacter l c) s =
      .next ((s.setLoop l { noiseCounted s.loops[l] c with partialReport := [] }).completeReport l a k v (charData c)) := by
  rw [exec_loopCharacter_placed enabled seeking start stop, mark]
  unfold State.placeCharacter
  simp only [State.setLoop_loops_same, noiseCounted_partialReport, held, State.setLoop_setLoop]

section Outcome
variable {s : State} {l : Fin 4} {r : Receiver} {a k v check : Byte}

theorem State.completeReport_badCheck (differs : check ≠ checkOf a k v) :
    (s.setLoop l r).completeReport l a k v check
      = (s.setLoop l { r with check := min 255 (r.check + 1) }).setNotices s.notices := by
  rw [State.completeReport, judgeReport_badCheck differs]
  dsimp only
  rw [State.setLoop_setLoop, State.setLoop_loops_same]
  rfl

theorem State.completeReport_badProtocol (bad : k.toNat ∉ [1, 2, 3, 4, 5, 15] ∨ (k.toNat = 15 ∧ a ≠ 0) ∨
    (k.toNat ≠ 15 ∧ (a.toNat = 0 ∨ 250 < a.toNat))) :
    (s.setLoop l r).completeReport l a k v (checkOf a k v)
      = (s.setLoop l { r with protocol := min 255 (r.protocol + 1) }).setNotices s.notices := by
  rw [State.completeReport, judgeReport_badProtocol bad]
  dsimp only
  rw [State.setLoop_setLoop, State.setLoop_loops_same]
  rfl

theorem State.completeReport_valid {kind : ReportKind} (known : reportKind? k = some kind)
    (suits : addressSuits a kind = true) :
    (s.setLoop l r).completeReport l a k v (checkOf a k v) = (s.setLoop l r).validReport l a kind v := by
  rw [State.completeReport, judgeReport_valid known suits]

/-- A complete report changes its loop's receiver and the notice set alone. -/
theorem State.completeReport_frame (state : r.state = s.loops[l].state) :
    ∃ q n, (s.setLoop l r).completeReport l a k v check = (s.setLoop l q).setNotices n := by
  by_cases agrees : check = checkOf a k v
  · subst agrees
    cases known : reportKind? k with
    | none => exact ⟨_, _, State.completeReport_badProtocol (.inl (reportKind?_none_iff.1 known))⟩
    | some kind =>
      by_cases suits : addressSuits a kind = true
      · rw [State.completeReport_valid known suits]
        cases kind with
        | buffered kind => exact ⟨_, _, State.validReport_buffered state a v kind⟩
        | trouble kind => exact ⟨_, _, State.validReport_trouble state a v kind⟩
        | cycleEnd => exact ⟨_, _, State.validReport_cycleEnd state a v⟩
      · refine ⟨{ r with protocol := min 255 (r.protocol + 1) }, s.notices, ?_⟩
        rw [State.completeReport, judgeReport_checked, known]
        dsimp only
        rw [if_neg suits]
        dsimp only
        rw [State.setLoop_setLoop, State.setLoop_loops_same]
        rfl
  · exact ⟨_, _, State.completeReport_badCheck agrees⟩

theorem State.reads_setLoop_setNotices {t : State} {q : Receiver} {n : Notices} (left : t = (s.setLoop l q).setNotices n) :
    t.loops[l] = q ∧ t.notices = n := by
  subst left
  exact ⟨s.setLoop_loops_same l q, rfl⟩

end Outcome

/-- Settles O18: the completed report is judged, and a valid one is routed by its kind. -/
theorem loopReportCompleted : Obligations.LoopReportCompleted := by
  unfold Obligations.LoopReportCompleted
  intro l c a k v s enabled seeking start stop mark held
  rw [exec_loopCharacter_completes enabled seeking start stop mark held]
  have state : ({ noiseCounted s.loops[l] c with partialReport := [] } : Receiver).state = s.loops[l].state :=
    noiseCounted_state ..
  generalize ({ noiseCounted s.loops[l] c with partialReport := [] } : Receiver) = r at state ⊢
  obtain ⟨q, n, framed⟩ := State.completeReport_frame (a := a) (k := k) (v := v) (check := charData c) state
  refine ⟨_, rfl, ?frame, fun j other => ?others, fun differs => ?badCheck, fun agrees => ⟨fun bad => ?badProtocol,
    fun cycle address => ?cycleEnd, ?buffered, ?trouble⟩⟩
  case frame => rw [framed]; rfl
  case others =>
    rw [framed]
    exact Vector.getElem_set_ne l.isLt _ fun same => other (Fin.ext same.symm)
  case badCheck => exact State.reads_setLoop_setNotices (State.completeReport_badCheck differs)
  case badProtocol =>
    rw [agrees]
    exact State.reads_setLoop_setNotices (State.completeReport_badProtocol bad)
  case cycleEnd =>
    have suits : addressSuits a .cycleEnd = true := by simp [addressSuits, address]
    rw [agrees, State.completeReport_valid (reportKind?_cycleEnd_iff.2 cycle) suits]
    exact State.reads_setLoop_setNotices (State.validReport_cycleEnd state a v)
  case buffered =>
    rintro kind rfl low high
    have suits := addressSuits_device (kind := .buffered kind) (by rintro ⟨⟩) low high
    rw [agrees, State.completeReport_valid (reportKind?_alarmCode kind) suits]
    obtain ⟨loop, told⟩ := State.reads_setLoop_setNotices (State.validReport_buffered state a v kind)
    refine ⟨told, fun room => ?_, fun full kept => ?_, fun before y after full alarm held alarms quiet => ?_⟩
    · exact loop.trans (Receiver.offer_room (r := r.heard) room)
    · exact loop.trans (Receiver.offer_discarded (r := r.heard) full kept)
    · exact loop.trans (Receiver.offer_replaces (r := r.heard) full alarm held alarms quiet)
  case trouble =>
    rintro kind rfl low high
    have suits := addressSuits_device (kind := .trouble kind) (by rintro ⟨⟩) low high
    rw [agrees, State.completeReport_valid (reportKind?_troubleCode kind) suits]
    obtain ⟨loop, raised⟩ := State.reads_setLoop_setNotices (State.validReport_trouble state a v kind)
    refine ⟨loop, raised.trans ?_⟩
    have before : (s.toldHeard l).deviceFault = s.notices.deviceFault := by
      unfold State.toldHeard; split <;> rfl
    unfold Notices.raiseDeviceFault
    rw [before]
      <;> rfl

end Sys2Proof.Machine
end

section
/-! SUPPORT. The fields of written records against their ranges, and their reading back (R17, R55, R79, R140, R190, R192). -/

namespace Sys2Proof.Machine

open Sys2Proof

/-! ### Fields in their ranges (R190) -/

/-- A field read and then the rest, whose reading does not turn on the field's value. -/
theorem bind_isSome_iff {α β : Type} {x : Option α} {f : α → Option β} {c : Prop}
    (rest : ∀ a, x = some a → ((f a).isSome = true ↔ c)) : (x.bind f).isSome = true ↔ x.isSome = true ∧ c := by
  cases x with
  | none => simp
  | some a => simpa using rest a rfl

theorem inRange?_isSome_iff {low high n : Nat} : (inRange? low high n).isSome = true ↔ low ≤ n ∧ n ≤ high := by
  unfold inRange?; split <;> simp_all

theorem index?_isSome_iff {n i : Nat} : (index? n i).isSome = true ↔ i < n := by
  unfold index?; split <;> simp_all

theorem yesNo?_isSome_iff {b : Byte} : (yesNo? b).isSome = true ↔ b.toNat ≤ 1 := by
  rw [Option.isSome_iff_ne_none, Ne, yesNo?_none_iff, not_lt]

theorem cls?_isSome_iff {b : Byte} : (cls? b).isSome = true ↔ b.toNat ≤ 3 := by
  unfold cls?
  split <;> simp_all
  omega

theorem rule?_isSome_iff {b : Byte} : (rule? b).isSome = true ↔ b.toNat ≤ 2 := by
  unfold rule?
  split <;> simp_all
  omega

theorem zoneKind?_isSome_iff {b : Byte} : (zoneKind? b).isSome = true ↔ b.toNat ≤ 4 := by
  unfold zoneKind?
  split <;> simp_all
  omega

theorem pattern?_isSome_iff {b : Byte} : (pattern? b).isSome = true ↔ b.toNat ≤ 3 := by
  unfold pattern?
  split <;> simp_all
  omega

theorem selector?_isSome_iff {b : Byte} : (selector? b).isSome = true ↔ b.toNat ≤ 3 ∨ b = 0xFF := by
  unfold selector?
  split
  · next any => simp [any]
  · next one => simp [index?_isSome_iff, one]; omega

theorem next?_isSome_iff {b : Byte} : (next? b).isSome = true ↔ b.toNat ≤ 129 := by
  unfold next?
  split
  · next finish => subst finish; decide
  · split
    · next restart => subst restart; decide
    · next finish restart =>
      rw [Option.isSome_map, index?_isSome_iff]
      bv_omega

/-! ### Fields read back (R190) -/

theorem zoneKind?_code {b : Byte} {k : ZoneKind} (read : zoneKind? b = some k) : k.code = b := by
  unfold zoneKind? at read
  split at read
  case h_6 => cases read
  all_goals next value => cases read; exact (BitVec.eq_of_toNat_eq value).symm

theorem pattern?_code {b : Byte} {x : Pattern} (read : pattern? b = some x) : x.code = b := by
  unfold pattern? at read
  split at read
  case h_5 => cases read
  all_goals next value => cases read; exact (BitVec.eq_of_toNat_eq value).symm

theorem selector?_code {b : Byte} {x : Option (Fin 4)} (read : selector? b = some x) : optByte (x.map Fin.val) = b := by
  unfold selector? at read
  split at read
  · next any => cases read; exact any.symm
  · obtain ⟨l, one, rfl⟩ := Option.map_eq_some_iff.1 read
    exact (congrArg byte (index?_some_iff.1 one).symm).trans (byte_of_toNat b)

theorem next?_code {b : Byte} {x : Next} (read : next? b = some x) : x.code = b := by
  unfold next? at read
  split at read
  · next finish => cases read; exact finish.symm
  · split at read
    · next restart => cases read; exact restart.symm
    · obtain ⟨i, one, rfl⟩ := Option.map_eq_some_iff.1 read
      exact (congrArg byte (index?_some_iff.1 one).symm).trans (byte_of_toNat b)

theorem inRange?_byte {low high n : Nat} {b : Byte} (read : inRange? low high b.toNat = some n) : byte n = b := by
  obtain ⟨-, -, rfl⟩ := inRange?_some_iff.1 read
  exact byte_of_toNat b

theorem index?_byte {n : Nat} {b : Byte} {k : Fin n} (read : index? n b.toNat = some k) : byte k.val = b :=
  index?_some_iff.1 read ▸ byte_of_toNat b

theorem bytes2_toNat (w : BitVec 16) : bytes2 w.toNat = wordBytes w := by
  rw [bytes2, byte_high, byte_low]
  rfl

theorem inRange?_bytes2 {low high n : Nat} {w : BitVec 16} (read : inRange? low high w.toNat = some n) :
    bytes2 n = wordBytes w := by
  obtain ⟨-, -, rfl⟩ := inRange?_some_iff.1 read
  exact bytes2_toNat w

/-! ### Records (R17, R55, R79, R80, R140) -/

theorem entry?_isSome_iff {floors : Nat} {raw : RawEntry} :
    (entry? floors raw).isSome = true ↔
      (raw.loop.toNat ≤ 3 ∨ raw.loop = 0xFF) ∧ (1 ≤ raw.base.toNat ∧ raw.base.toNat ≤ 250) ∧
      (raw.span.toNat ∈ spans ∧ raw.base.toNat % raw.span.toNat = 0) ∧ (1 ≤ raw.zone.toNat ∧ raw.zone.toNat ≤ 255) ∧
      raw.floor.toNat < floors ∧ raw.cls.toNat ≤ 3 ∧ raw.rule.toNat ≤ 2 ∧ raw.profile.toNat < 16 := by
  rw [Option.isSome_iff_exists]
  constructor
  · rintro ⟨e, read⟩
    obtain ⟨-, selector, base, ⟨span, aligned, -⟩, zone, ⟨floor, -⟩, cls, rule, profile⟩ := entry?_some_iff.1 read
    obtain ⟨low, high, same⟩ := inRange?_some_iff.1 base
    obtain ⟨zoneLow, zoneHigh, -⟩ := inRange?_some_iff.1 zone
    exact ⟨selector?_isSome_iff.1 (Option.isSome_of_eq_some selector), ⟨low, high⟩, ⟨span, same ▸ aligned⟩,
      ⟨zoneLow, zoneHigh⟩, floor, cls?_isSome_iff.1 (Option.isSome_of_eq_some cls),
      rule?_isSome_iff.1 (Option.isSome_of_eq_some rule), index?_isSome_iff.1 (Option.isSome_of_eq_some profile)⟩
  · rintro ⟨selector, ⟨low, high⟩, ⟨span, aligned⟩, ⟨zoneLow, zoneHigh⟩, floor, cls, rule, profile⟩
    obtain ⟨selector, hs⟩ := Option.isSome_iff_exists.1 (selector?_isSome_iff.2 selector)
    obtain ⟨cls, hc⟩ := Option.isSome_iff_exists.1 (cls?_isSome_iff.2 cls)
    obtain ⟨rule, hr⟩ := Option.isSome_iff_exists.1 (rule?_isSome_iff.2 rule)
    obtain ⟨profile, hp⟩ := Option.isSome_iff_exists.1 (index?_isSome_iff.2 profile)
    exact ⟨{ valid := true, selector := selector, base := raw.base.toNat, span := raw.span.toNat, zone := raw.zone.toNat
             floor := raw.floor.toNat, cls := cls, rule := rule, profile := profile },
      entry?_some_iff.2 ⟨rfl, hs, inRange?_some_iff.2 ⟨low, high, rfl⟩, ⟨span, aligned, rfl⟩,
        inRange?_some_iff.2 ⟨zoneLow, zoneHigh, rfl⟩, ⟨floor, rfl⟩, hc, hr, hp⟩⟩

theorem entry?_bytes {floors : Nat} {raw : RawEntry} {e : MapEntry} (read : entry? floors raw = some e) :
    e.bytes = [raw.loop, raw.base, raw.span, raw.zone, raw.floor, raw.cls, raw.rule, raw.profile] := by
  obtain ⟨-, selector, base, ⟨-, -, span⟩, zone, ⟨-, floor⟩, cls, rule, profile⟩ := entry?_some_iff.1 read
  rw [MapEntry.bytes, selector?_code selector, inRange?_byte base, span, byte_of_toNat, inRange?_byte zone, floor,
    byte_of_toNat, ← cls?_some_iff.1 cls, ← rule?_some_iff.1 rule, index?_byte profile]

theorem profile?_isSome_iff {raw : RawProfile} :
    (profile? raw).isSome = true ↔
      raw.up.toNat ≤ 79 ∧ raw.down.toNat ≤ 79 ∧ raw.margin.toNat ≤ 79 ∧ raw.limit.toNat ≤ 80 ∧
      raw.evacuate.toNat ≤ 15 ∧ raw.alert.toNat ≤ 15 ∧ raw.building.toNat ≤ 1 := by
  have fields : (profile? raw).isSome = true ↔ _ :=
    bind_isSome_iff fun _ _ => bind_isSome_iff fun _ _ => bind_isSome_iff fun _ _ => bind_isSome_iff fun _ _ =>
      bind_isSome_iff fun _ _ => bind_isSome_iff fun _ _ => bind_isSome_iff fun _ _ => iff_true_intro rfl
  rw [fields]
  simp only [inRange?_isSome_iff, index?_isSome_iff, yesNo?_isSome_iff, Nat.zero_le, true_and, and_true, Nat.lt_succ_iff]

theorem profile?_bytes {raw : RawProfile} {p : Profile} (read : profile? raw = some p) : p.bytes = profileBytes raw := by
  unfold profile? at read
  simp only [Option.bind_eq_bind, Option.bind_eq_some_iff, Option.some.injEq] at read
  obtain ⟨up, hu, down, hd, margin, hm, limit, hl, evacuate, he, alert, ha, building, hb, rfl⟩ := read
  simp only [Profile.bytes, profileBytes, inRange?_byte hu, inRange?_byte hd, inRange?_byte hm, inRange?_byte hl,
    index?_byte he, index?_byte ha, bytes2_toNat, ← yesNo?_some_iff.1 hb]

theorem zoneConfig?_isSome_iff {raw : RawZone} :
    (zoneConfig? raw).isSome = true ↔
      raw.kind.toNat ≤ 4 ∧ raw.low.toNat ≤ 79 ∧ raw.high.toNat ≤ 79 ∧ raw.duty.toNat ≤ 9 ∧
      1 ≤ raw.load.toNat ∧ raw.load.toNat ≤ 480 := by
  have fields : (zoneConfig? raw).isSome = true ↔ _ :=
    bind_isSome_iff fun _ _ => bind_isSome_iff fun _ _ => bind_isSome_iff fun _ _ => bind_isSome_iff fun _ _ =>
      bind_isSome_iff fun _ _ => iff_true_intro rfl
  rw [fields]
  simp only [zoneKind?_isSome_iff, inRange?_isSome_iff, index?_isSome_iff, Nat.zero_le, true_and, and_true,
    Nat.lt_succ_iff, Config.ampRating]

theorem zoneConfig?_bytes {raw : RawZone} {c : ZoneConfig} (read : zoneConfig? raw = some c) :
    c.bytes = zoneConfigBytes raw := by
  unfold zoneConfig? at read
  simp only [Option.bind_eq_bind, Option.bind_eq_some_iff, Option.some.injEq] at read
  obtain ⟨kind, hk, low, hl, high, hh, duty, hd, load, hload, rfl⟩ := read
  simp only [ZoneConfig.bytes, zoneConfigBytes, zoneKind?_code hk, inRange?_byte hl, inRange?_byte hh, index?_byte hd,
    inRange?_bytes2 hload]

/-! ### Segment descriptors, kind by kind (R140) -/

section Segment
variable {raw : RawSegment} {x : Segment}

theorem segment?_unused (kind : raw.kind = 0) : segment? raw = some .unused := by
  unfold segment?; rw [kind]; rfl

theorem segment?_tone (kind : raw.kind = 1) :
    segment? raw = (pattern? raw.pattern).bind fun pattern => (inRange? 1 600 raw.duration.toNat).bind fun duration =>
      (inRange? 1 15 raw.repeats.toNat).bind fun repeats => (next? raw.next).bind fun next =>
        some (.tone pattern duration repeats next) := by
  unfold segment?; rw [kind]; rfl

theorem segment?_clip (kind : raw.kind = 2) :
    segment? raw = (inRange? 1 4096 raw.pages.toNat).bind fun pages => (inRange? 0 3 raw.retries.toNat).bind fun retries =>
      (inRange? 1 15 raw.repeats.toNat).bind fun repeats => (next? raw.next).bind fun next =>
        some (.clip raw.start.toNat pages retries repeats next) := by
  unfold segment?; rw [kind]; rfl

theorem segment?_gap (kind : raw.kind = 3) :
    segment? raw = (inRange? 1 600 raw.duration.toNat).bind fun duration =>
      (inRange? 1 15 raw.repeats.toNat).bind fun repeats => (next? raw.next).bind fun next =>
        some (.gap duration repeats next) := by
  unfold segment?; rw [kind]; rfl

theorem segment?_unknown (kind : 3 < raw.kind.toNat) : segment? raw = none := by
  unfold segment?
  split
  case h_5 => rfl
  all_goals omega

theorem segment?_isSome_iff : (segment? raw).isSome = true ↔
    raw.kind = 0 ∨
    (raw.kind = 1 ∧ raw.pattern.toNat ≤ 3 ∧ (1 ≤ raw.duration.toNat ∧ raw.duration.toNat ≤ 600) ∧
      1 ≤ raw.repeats.toNat ∧ raw.repeats.toNat ≤ 15 ∧ raw.next.toNat ≤ 129) ∨
    (raw.kind = 2 ∧ 1 ≤ raw.pages.toNat ∧ raw.pages.toNat ≤ 4096 ∧ raw.retries.toNat ≤ 3 ∧
      1 ≤ raw.repeats.toNat ∧ raw.repeats.toNat ≤ 15 ∧ raw.next.toNat ≤ 129) ∨
    (raw.kind = 3 ∧ (1 ≤ raw.duration.toNat ∧ raw.duration.toNat ≤ 600) ∧
      1 ≤ raw.repeats.toNat ∧ raw.repeats.toNat ≤ 15 ∧ raw.next.toNat ≤ 129) := by
  by_cases unknown : 3 < raw.kind.toNat
  · rw [segment?_unknown unknown]
    refine iff_of_false Bool.false_ne_true ?_
    rintro (kind | ⟨kind, -⟩ | ⟨kind, -⟩ | ⟨kind, -⟩) <;> simp [kind] at unknown
  · have kinds : raw.kind = 0 ∨ raw.kind = 1 ∨ raw.kind = 2 ∨ raw.kind = 3 := by bv_omega
    rcases kinds with kind | kind | kind | kind
    · simp [segment?_unused kind, kind]
    · rw [segment?_tone kind, bind_isSome_iff fun _ _ => bind_isSome_iff fun _ _ => bind_isSome_iff fun _ _ =>
        bind_isSome_iff fun _ _ => iff_true_intro rfl]
      simp [kind, pattern?_isSome_iff, inRange?_isSome_iff, next?_isSome_iff, and_assoc]
    · rw [segment?_clip kind, bind_isSome_iff fun _ _ => bind_isSome_iff fun _ _ => bind_isSome_iff fun _ _ =>
        bind_isSome_iff fun _ _ => iff_true_intro rfl]
      simp [kind, inRange?_isSome_iff, next?_isSome_iff, and_assoc]
    · rw [segment?_gap kind, bind_isSome_iff fun _ _ => bind_isSome_iff fun _ _ =>
        bind_isSome_iff fun _ _ => iff_true_intro rfl]
      simp [kind, inRange?_isSome_iff, next?_isSome_iff, and_assoc]

variable (read : segment? raw = some x)
include read

theorem segment?_tone_bytes (kind : raw.kind = 1) :
    x.bytes = segmentBytes { raw with start := 0xFFFF, pages := 0xFFFF, retries := 0xFF } := by
  rw [segment?_tone kind] at read
  simp only [Option.bind_eq_some_iff, Option.some.injEq] at read
  obtain ⟨pattern, hp, duration, hd, repeats, hr, next, hn, rfl⟩ := read
  simp only [Segment.bytes, segmentBytes, pattern?_code hp, inRange?_bytes2 hd, inRange?_byte hr, next?_code hn, kind]
  rfl

theorem segment?_clip_bytes (kind : raw.kind = 2) :
    x.bytes = segmentBytes { raw with pattern := 0xFF, duration := 0xFFFF } := by
  rw [segment?_clip kind] at read
  simp only [Option.bind_eq_some_iff, Option.some.injEq] at read
  obtain ⟨pages, hp, retries, ht, repeats, hr, next, hn, rfl⟩ := read
  simp only [Segment.bytes, segmentBytes, bytes2_toNat, inRange?_bytes2 hp, inRange?_byte ht, inRange?_byte hr,
    next?_code hn, kind]
  rfl

theorem segment?_gap_bytes (kind : raw.kind = 3) :
    x.bytes = segmentBytes { raw with pattern := 0xFF, start := 0xFFFF, pages := 0xFFFF, retries := 0xFF } := by
  rw [segment?_gap kind] at read
  simp only [Option.bind_eq_some_iff, Option.some.injEq] at read
  obtain ⟨duration, hd, repeats, hr, next, hn, rfl⟩ := read
  simp only [Segment.bytes, segmentBytes, inRange?_bytes2 hd, inRange?_byte hr, next?_code hn, kind]
  rfl

end Segment

/-! ### Zone lists (R192) -/

theorem zoneNumbers?_isSome_iff {l : List Byte} : (zoneNumbers? l).isSome = true ↔ ∀ b ∈ l, b.toNat ≤ 47 := by
  induction l with
  | nil => simp [zoneNumbers?]
  | cons b l ih =>
    have read : (zoneNumbers? (b :: l)).isSome = true ↔ _ :=
      bind_isSome_iff fun _ _ => bind_isSome_iff fun _ _ => iff_true_intro rfl
    rw [read, index?_isSome_iff, ih, and_true, List.forall_mem_cons, Nat.lt_succ_iff]

theorem zoneSet?_listed_isSome_iff {l : List Byte} :
    (zoneSet? (.listed l)).isSome = true ↔ 1 ≤ l.length ∧ l.length ≤ 48 ∧ ∀ b ∈ l, b.toNat ≤ 47 := by
  rw [zoneSet?, ← and_assoc]
  split
  · next count => rw [Option.isSome_map, zoneNumbers?_isSome_iff, and_iff_right count]
  · next count => exact iff_of_false Bool.false_ne_true fun ⟨inside, _⟩ => count inside

theorem zoneSet?_listed_some {l : List Byte} {set : List (Fin 48)} (read : zoneSet? (.listed l) = some set) :
    ∃ zs, l.map BitVec.toNat = zs.map Fin.val ∧ set = toSet zs := by
  rw [zoneSet?] at read
  split at read
  · obtain ⟨zs, numbers, rfl⟩ := Option.map_eq_some_iff.1 read
    exact ⟨zs, zoneNumbers?_some_iff.1 numbers, rfl⟩
  · cases read

/-- A zone is in the set of a list exactly when its number is listed. -/
theorem mem_zoneSet?_listed {l : List Byte} {set : List (Fin 48)} (read : zoneSet? (.listed l) = some set) (z : Fin 48) :
    z ∈ set ↔ byte z.val ∈ l := by
  obtain ⟨zs, numbers, rfl⟩ := zoneSet?_listed_some read
  have byNumber : byte z.val ∈ l ↔ z.val ∈ l.map BitVec.toNat := by
    rw [List.mem_map]
    constructor
    · exact fun listed => ⟨_, listed, byte_toNat (by omega)⟩
    · rintro ⟨b, listed, same⟩
      rwa [← same, byte_of_toNat]
  rw [mem_toSet, byNumber, numbers, List.mem_map_of_injective Fin.val_injective]

/-- Settles O22, record by record. -/
theorem recordFieldRanges : Obligations.RecordFieldRanges := by
  unfold Obligations.RecordFieldRanges
  refine ⟨fun floors raw => ⟨?entries, fun e read => ⟨(entry?_some_iff.1 read).1, entry?_bytes read⟩⟩,
    fun raw => ⟨profile?_isSome_iff, fun p => profile?_bytes⟩,
    fun raw => ⟨zoneConfig?_isSome_iff, fun c => zoneConfig?_bytes⟩,
    fun raw => ⟨segment?_isSome_iff, fun x read => ⟨fun kind => ?unused, segment?_tone_bytes read,
      segment?_clip_bytes read, segment?_gap_bytes read⟩⟩, rfl, fun l => ⟨zoneSet?_listed_isSome_iff, fun set read => ?sets⟩⟩
  case entries =>
    have zone : raw.zone ≠ 0 ↔ 1 ≤ raw.zone.toNat ∧ raw.zone.toNat ≤ 255 := by bv_omega
    rw [entry?_isSome_iff, zone, Nat.dvd_iff_mod_eq_zero, Nat.lt_succ_iff, and_assoc, and_assoc]
    rfl
  case unused =>
    rw [segment?_unused kind] at read
    exact (Option.some.inj read).symm
  case sets =>
    obtain ⟨zs, -, rfl⟩ := zoneSet?_listed_some read
    exact ⟨toSet_ascending zs, mem_zoneSet?_listed read⟩

end Sys2Proof.Machine
end

section
/-! SUPPORT. Zone tests (R109, R110) and the microphone sessions (R103 to R107). -/

namespace Sys2Proof.Machine

open Sys2Proof

/-! ### Requests that end in an input change (R96) -/

section Taken
variable {s u : State} {code : Byte} {serve : State → Served} {p : List Byte}

/-- A request that writes an input of resolution is answered, and every zone is resolved again. -/
theorem State.takeRequest_inputChange (served : serve s.linkValid = accept p u.inputChange) :
    ∃ t, s.takeRequest code serve = t ∧ t.resolver.tests = u.resolver.tests ∧ t.sessions = u.sessions ∧
      t.engine = u.engine ∧ t.Holds code .ok p ∧ t.RecordsResolved := by
  refine ⟨_, State.takeRequest_accept served, ?_, ?_, ?_, rfl, u.inputChange_recordsResolved.setLink _⟩
  · rw [State.respond_resolver, State.inputChange_tests]
  · rw [State.respond_sessions, State.inputChange_sessions]
  · rw [State.respond_engine, State.inputChange_engine]

end Taken

/-! ### Zone tests (R109, R110) -/

/-- An alarm stage or the saturation flag is active (R52, R109). -/
theorem Engine.alarmActive_iff {e : Engine} : e.alarmActive = true ↔
    e.saturated = true ∨ ∃ (k : Fin 32) (i : Incident), e.slots[k].incident = some i ∧
      (i.stage.name = .phased ∨ i.stage.name = .general ∨ i.stage.name = .silenced) := by
  rw [Engine.alarmActive, Bool.or_eq_true, or_comm, Vector.any_eq_true]
  simp only [Option.any_eq_true, Stage.alarm_iff, Fin.exists_iff, Fin.getElem_fin]

theorem Resolver.placeTests_get (r : Resolver) (zones : List (Fin 48)) (p : Fin 16) (z : Fin 48) :
    (r.placeTests zones p)[z] = if z ∈ zones then some p else r.tests[z] := by
  simp only [Resolver.placeTests, Fin.getElem_fin, Vector.getElem_ofFn, List.contains_iff_mem]

theorem Resolver.dropTests_get (r : Resolver) (gone : Fin 48 → Bool) (z : Fin 48) :
    (r.dropTests gone)[z] = if gone z = true then none else r.tests[z] := by
  simp only [Resolver.dropTests, Fin.getElem_fin, Vector.getElem_ofFn]

theorem State.linkValid_usedCount (s : State) (zones : List (Fin 48)) : s.linkValid.usedCount zones = s.usedCount zones := by
  unfold State.usedCount
  simp only [State.linkValid_used]

section Tests
variable {zones : ZoneList} {set : List (Fin 48)} {program : Byte} {p : Fin 16} {s : State}

theorem exec_zoneTestStart_outOfRange (bad : zoneSet? zones = none ∨ 15 < program.toNat) :
    exec (.zoneTestStart program zones) s = .next (s.answer 0x43 .outOfRange []) := by
  refine congrArg _ (State.takeRequest_refuse ?_)
  unfold serveZoneTestStart
  split
  · next hz hp =>
    have := index?_some_iff.1 hp
    rcases bad with none | big
    · rw [none] at hz; cases hz
    · omega
  · rfl

theorem serveZoneTestStart_of_fields (hz : zoneSet? zones = some set) (hp : program.toNat = p.val) :
    serveZoneTestStart program zones s =
      if s.engine.alarmActive then refuse .alarmActive s
      else accept [byte (s.usedCount set)] (s.setTests (s.resolver.placeTests set p)).inputChange := by
  simp only [serveZoneTestStart, hz, index?_some_iff.2 hp]

theorem exec_zoneTestStart_alarmActive (hz : zoneSet? zones = some set) (hp : program.toNat = p.val)
    (alarm : s.engine.alarmActive = true) :
    exec (.zoneTestStart program zones) s = .next (s.answer 0x43 .alarmActive []) := by
  refine congrArg _ (State.takeRequest_refuse ?_)
  rw [serveZoneTestStart_of_fields hz hp, State.linkValid_engine, if_pos alarm]

theorem exec_zoneTestStart (hz : zoneSet? zones = some set) (hp : program.toNat = p.val)
    (quiet : s.engine.alarmActive = false) :
    ∃ t, exec (.zoneTestStart program zones) s = .next t ∧
      (∀ z : Fin 48, t.resolver.tests[z] = if z ∈ set then some p else s.resolver.tests[z]) ∧
      t.Holds 0x43 .ok [byte (s.usedCount set)] ∧ t.engine = s.engine ∧ t.RecordsResolved ∧ s.OnlyIncidents t := by
  have served : serveZoneTestStart program zones s.linkValid = accept [byte (s.usedCount set)]
      (s.linkValid.setTests (s.resolver.placeTests set p)).inputChange := by
    rw [serveZoneTestStart_of_fields hz hp, State.linkValid_engine, if_neg (by rw [quiet]; exact Bool.false_ne_true),
      State.linkValid_usedCount, State.linkValid_resolver]
  obtain ⟨t, taken, tests, -, engine, answer, resolved⟩ := State.takeRequest_inputChange (code := 0x43) served
  refine ⟨t, congrArg _ taken, fun z => ?_, answer, engine.trans (by simp), resolved, ?_⟩
  · rw [tests]
    exact s.resolver.placeTests_get set p z
  · rw [← taken, State.takeRequest_accept served]
    constructor <;> simp

theorem exec_zoneTestStop_outOfRange (bad : zoneSet? zones = none) :
    exec (.zoneTestStop zones) s = .next (s.answer 0x44 .outOfRange []) :=
  congrArg _ (State.takeRequest_refuse (by simp only [serveZoneTestStop, bad]))

theorem State.linkValid_tested (s : State) (zones : List (Fin 48)) : s.linkValid.tested zones = s.tested zones := by
  unfold State.tested
  rw [State.linkValid_resolver]

theorem mem_tested {z : Fin 48} : z ∈ s.tested set ↔ z ∈ set ∧ s.resolver.tests[z] ≠ none := by
  rw [State.tested, List.mem_filter, Option.isSome_iff_ne_none]

theorem exec_zoneTestStop_none (hz : zoneSet? zones = some set) (untested : ∀ z ∈ set, s.resolver.tests[z] = none) :
    exec (.zoneTestStop zones) s = .next (s.answer 0x44 .ok [0]) := by
  have gone : s.tested set = [] :=
    List.eq_nil_iff_forall_not_mem.2 fun z listed => (mem_tested.1 listed).2 (untested z (mem_tested.1 listed).1)
  refine congrArg _ (State.takeRequest_read ?_)
  simp only [serveZoneTestStop, hz, State.linkValid_tested, gone]
  rfl

theorem exec_zoneTestStop (hz : zoneSet? zones = some set) (tested : ∃ z ∈ set, s.resolver.tests[z] ≠ none) :
    ∃ t, exec (.zoneTestStop zones) s = .next t ∧
      (∀ z : Fin 48, t.resolver.tests[z] = if z ∈ set then none else s.resolver.tests[z]) ∧
      t.Holds 0x44 .ok [byte (s.tested set).length] ∧ t.engine = s.engine ∧ t.RecordsResolved ∧ s.OnlyIncidents t := by
  obtain ⟨x, listed, claimed⟩ := tested
  have nonempty : ¬ (s.tested set).isEmpty = true := fun empty =>
    List.ne_nil_of_mem (mem_tested.2 ⟨listed, claimed⟩) (List.isEmpty_iff.1 empty)
  have served : serveZoneTestStop zones s.linkValid = accept [byte (s.tested set).length]
      (s.linkValid.setTests (s.resolver.dropTests fun z => (s.tested set).contains z)).inputChange := by
    simp only [serveZoneTestStop, hz, State.linkValid_tested, if_neg nonempty, State.linkValid_resolver]
  obtain ⟨t, taken, tests, -, engine, answer, resolved⟩ := State.takeRequest_inputChange (code := 0x44) served
  refine ⟨t, congrArg _ taken, fun z => ?_, answer, engine.trans (by simp), resolved, ?_⟩
  · rw [tests]
    refine (s.resolver.dropTests_get _ z).trans ?_
    simp only [List.contains_iff_mem, mem_tested]
    by_cases unclaimed : s.resolver.tests[z] = none
    · rw [unclaimed]; simp
    · simp only [ne_eq, unclaimed, not_false_eq_true, and_true]
  · rw [← taken, State.takeRequest_accept served]
    constructor <;> simp

end Tests

/-- Settles O42. -/
theorem zoneTests : Obligations.ZoneTests := by
  unfold Obligations.ZoneTests
  intro zones s
  refine ⟨exec_zoneTestStop_outOfRange, fun program => exec_zoneTestStart_outOfRange, fun set hz =>
    ⟨fun program p hp => ⟨fun alarm => ?alarm, fun quiet => ?start⟩, exec_zoneTestStop_none hz, fun tested => ?stop⟩⟩
  case alarm => exact exec_zoneTestStart_alarmActive hz hp (Engine.alarmActive_iff.2 alarm)
  case start =>
    rw [← Engine.alarmActive_iff, Bool.not_eq_true] at quiet
    exact exec_zoneTestStart hz hp quiet
  case stop =>
    have counted : (set.filter fun z => s.resolver.tests[z] ≠ none) = s.tested set :=
      List.filter_congr fun z _ => by cases s.resolver.tests[z] <;> rfl
    rw [counted]
    exact exec_zoneTestStop hz tested

/-! ### Microphone sessions (R103 to R107) -/

theorem mic?_code (m : Mic) : mic? (Mic.code m) = some m := by
  cases m <;> rfl

theorem mic?_none_iff {b : Byte} : mic? b = none ↔ 1 < b.toNat := by
  unfold mic?
  split <;> simp_all
  omega

section Mic
variable {mic : Byte} {limit : BitVec 16} {zones : ZoneList} {s : State} {m : Mic}

theorem exec_micOpen_outOfRange
    (bad : 1 < mic.toNat ∨ zoneSet? zones = none ∨ limit.toNat < 10 ∨ 600 < limit.toNat) :
    exec (.micOpen mic limit zones) s = .next (s.answer 0x48 .outOfRange []) := by
  refine congrArg _ (State.takeRequest_refuse ?_)
  unfold serveMicOpen
  split
  · next hm hz hl =>
    rcases bad with unknown | none | range
    · rw [mic?_none_iff.2 unknown] at hm; cases hm
    · rw [none] at hz; cases hz
    · obtain ⟨low, high, -⟩ := inRange?_some_iff.1 hl
      omega
  · rfl

theorem exec_micRefresh_outOfRange (unknown : 1 < mic.toNat) :
    exec (.micRefresh mic) s = .next (s.answer 0x49 .outOfRange []) :=
  congrArg _ (State.takeRequest_refuse (by simp only [serveMicRefresh, mic?_none_iff.2 unknown]))

theorem exec_micClose_outOfRange (unknown : 1 < mic.toNat) :
    exec (.micClose mic) s = .next (s.answer 0x4A .outOfRange []) :=
  congrArg _ (State.takeRequest_refuse (by simp only [serveMicClose, mic?_none_iff.2 unknown]))

theorem exec_micStatus_outOfRange (unknown : 1 < mic.toNat) :
    exec (.micStatus mic) s = .next (s.answer 0x4B .outOfRange []) :=
  congrArg _ (State.takeRequest_refuse (by simp only [serveMicStatus, mic?_none_iff.2 unknown]))

section Open
variable {set : List (Fin 48)} (hz : zoneSet? zones = some set) (low : 10 ≤ limit.toNat) (high : limit.toNat ≤ 600)
include hz low high

theorem exec_micOpen_busy (opened : s.sessions.of m ≠ none) :
    exec (.micOpen (Mic.code m) limit zones) s = .next (s.answer 0x48 .busy []) := by
  refine congrArg _ (State.takeRequest_refuse ?_)
  simp only [serveMicOpen, mic?_code, hz, inRange?_some_iff.2 ⟨low, high, rfl⟩, State.linkValid_sessions]
  exact if_pos (Option.isSome_iff_ne_none.2 opened)

theorem exec_micOpen (closed : s.sessions.of m = none) :
    ∃ t, exec (.micOpen (Mic.code m) limit zones) s = .next t ∧
      t.sessions = s.sessions.put m (some
        { zones := set, limit := limit.toNat, timer := limit.toNat * 10, openedAt := s.now }) ∧
      t.Holds 0x48 .ok (bytes4 s.now ++ [byte (s.usedCount set)]) ∧ t.engine = s.engine ∧
      t.resolver.tests = s.resolver.tests ∧ t.RecordsResolved := by
  have served : serveMicOpen (Mic.code m) limit zones s.linkValid =
      accept (bytes4 s.now ++ [byte (s.usedCount set)]) (s.linkValid.setSession m (some
        { zones := set, limit := limit.toNat, timer := limit.toNat * 10, openedAt := s.now })).inputChange := by
    simp only [serveMicOpen, mic?_code, hz, inRange?_some_iff.2 ⟨low, high, rfl⟩, State.linkValid_sessions, closed,
      State.linkValid_usedCount, State.linkValid_now]
    rfl
  obtain ⟨t, taken, tests, sessions, engine, answer, resolved⟩ := State.takeRequest_inputChange (code := 0x48) served
  refine ⟨t, congrArg _ taken, ?_, answer, ?_, ?_, resolved⟩
  · rw [sessions, State.setSession, State.setSessions_sessions, State.linkValid_sessions]
  · rw [engine, State.setSession, State.setSessions_engine, State.linkValid_engine]
  · rw [tests, State.setSession, State.setSessions_resolver, State.linkValid_resolver]

end Open

theorem exec_micRefresh_closed (closed : s.sessions.of m = none) :
    exec (.micRefresh (Mic.code m)) s = .next (s.answer 0x49 .notFound []) :=
  congrArg _ (State.takeRequest_refuse (by simp only [serveMicRefresh, mic?_code, State.linkValid_sessions, closed]))

theorem exec_micClose_closed (closed : s.sessions.of m = none) :
    exec (.micClose (Mic.code m)) s = .next (s.answer 0x4A .notFound []) :=
  congrArg _ (State.takeRequest_refuse (by simp only [serveMicClose, mic?_code, State.linkValid_sessions, closed]))

theorem exec_micStatus : exec (.micStatus (Mic.code m)) s = .next (s.answer 0x4B .ok (sessionBytes (s.sessions.of m))) :=
  congrArg _ (State.takeRequest_read (by simp only [serveMicStatus, mic?_code, State.linkValid_sessions]))

theorem exec_talkTimerExpiry_closed (closed : s.sessions.of m = none) : exec (.talkTimerExpiry m) s = .next s := by
  change execTalkTimerExpiry m s = _
  unfold execTalkTimerExpiry
  rw [closed]

variable {x : Session} (opened : s.sessions.of m = some x)
include opened

theorem exec_micRefresh_opened :
    exec (.micRefresh (Mic.code m)) s = .next { s.answer 0x49 .ok (bytes2 (x.limit * 10)) with
      sessions := s.sessions.put m (some { x with timer := x.limit * 10 }) } := by
  have served : serveMicRefresh (Mic.code m) s.linkValid = accept (bytes2 (x.limit * 10)) (s.linkValid.setSession m (some x.load)) := by
    simp only [serveMicRefresh, mic?_code, State.linkValid_sessions, opened]
    rfl
  refine congrArg _ ((State.takeRequest_accept served).trans ?_)
  rw [← State.linkValid_respond, State.setSession, State.linkValid_sessions]
  rfl

theorem exec_micClose_opened :
    ∃ t, exec (.micClose (Mic.code m)) s = .next t ∧ t.sessions = s.sessions.put m none ∧
      t.Holds 0x4A .ok (bytes4 (s.now - x.openedAt)) ∧ t.engine = s.engine ∧
      t.resolver.tests = s.resolver.tests ∧ t.RecordsResolved := by
  have served : serveMicClose (Mic.code m) s.linkValid =
      accept (bytes4 (s.now - x.openedAt)) (s.linkValid.setSession m none).inputChange := by
    simp only [serveMicClose, mic?_code, State.linkValid_sessions, opened, State.linkValid_now]
  obtain ⟨t, taken, tests, sessions, engine, answer, resolved⟩ := State.takeRequest_inputChange (code := 0x4A) served
  refine ⟨t, congrArg _ taken, ?_, answer, ?_, ?_, resolved⟩
  · rw [sessions, State.setSession, State.setSessions_sessions, State.linkValid_sessions]
  · rw [engine, State.setSession, State.setSessions_engine, State.linkValid_engine]
  · rw [tests, State.setSession, State.setSessions_resolver, State.linkValid_resolver]

theorem exec_talkTimerExpiry_running (running : x.timer ≠ 0) : exec (.talkTimerExpiry m) s = .next s := by
  change execTalkTimerExpiry m s = _
  unfold execTalkTimerExpiry
  rw [opened]
  exact if_neg running

theorem exec_talkTimerExpiry_due (zero : x.timer = 0) :
    exec (.talkTimerExpiry m) s =
      .next ((s.setSession m none).setNotices (s.notices.raiseMicTimeout m)).inputChange := by
  change execTalkTimerExpiry m s = _
  unfold execTalkTimerExpiry
  rw [opened]
  exact if_pos zero

end Mic

/-- A timed-out session raises MIC_TIMEOUT of its microphone, and the other microphone's stays (R104). -/
theorem Notices.raiseMicTimeout_flags (n : Notices) (m : Mic) :
    (n.raiseMicTimeout m).micTimeoutFire = (n.micTimeoutFire || decide (m = .fireService)) ∧
      (n.raiseMicTimeout m).micTimeoutManagement = (n.micTimeoutManagement || decide (m = .management)) := by
  cases m <;> simp [Notices.raiseMicTimeout]

/-- Settles O43. -/
theorem micSessionsRule : Obligations.MicSessionsRule := by
  unfold Obligations.MicSessionsRule
  intro mic limit zones s
  refine ⟨exec_micOpen_outOfRange, fun unknown => ⟨exec_micRefresh_outOfRange unknown, exec_micClose_outOfRange unknown,
    exec_micStatus_outOfRange unknown⟩, ?_⟩
  rintro m rfl
  refine ⟨fun set hz low high => ⟨exec_micOpen_busy hz low high, exec_micOpen hz low high⟩, fun closed => ?closed,
    fun x opened => ⟨exec_micRefresh_opened opened, ?status, exec_micClose_opened opened,
      exec_talkTimerExpiry_running opened, fun zero => ?expiry⟩⟩
  case closed =>
    refine ⟨exec_micRefresh_closed closed, exec_micClose_closed closed, ?_, exec_talkTimerExpiry_closed closed⟩
    rw [exec_micStatus, closed, sessionBytes]
  case status => rw [exec_micStatus, opened, sessionBytes]
  case expiry =>
    refine ⟨_, exec_talkTimerExpiry_due opened zero, ?_⟩
    have raised := State.inputChange_soundChange ((s.setSession m none).setNotices (s.notices.raiseMicTimeout m))
    obtain ⟨fire, management⟩ := s.notices.raiseMicTimeout_flags m
    refine ⟨?sessions, raised.micTimeoutFire.trans fire, raised.micTimeoutManagement.trans management, ?link, ?engine,
      ?tests, State.inputChange_recordsResolved _⟩
    case sessions => rw [State.inputChange_sessions]; rfl
    case link => rw [State.inputChange_link]; rfl
    case engine => rw [State.inputChange_engine]; rfl
    case tests => rw [State.inputChange_tests]; rfl

end Sys2Proof.Machine
end

section
/-! SUPPORT. The amplifiers one by one: what a switch, a boundary and a group move leave of each (R119, R120, R123, R125). -/

namespace Sys2Proof.Machine

open Sys2Proof

/-! ### Duty amplifiers and standbys (R123) -/

theorem dutyAmp_inj {j k : Fin 10} (same : dutyAmp j = dutyAmp k) : j = k :=
  Fin.ext (Fin.mk.inj same)

theorem mem_standbys {i : Fin 12} : i ∈ standbys ↔ 10 ≤ i.val := by
  simp only [standbys, List.mem_cons, List.not_mem_nil, or_false, Fin.ext_iff]
  omega

theorem dutyAmp_not_standby (k : Fin 10) : dutyAmp k ∉ standbys := by
  rw [mem_standbys, dutyAmp]
  exact Nat.not_le.2 k.isLt

theorem ne_dutyAmp_of_standby {i : Fin 12} (standby : i ∈ standbys) (k : Fin 10) : i ≠ dutyAmp k := fun same =>
  dutyAmp_not_standby k (same ▸ standby)

theorem duty_or_standby (i : Fin 12) : (∃ k, i = dutyAmp k) ∨ i ∈ standbys := by
  rw [mem_standbys]
  by_cases low : i.val < 10
  · exact .inl ⟨⟨i.val, low⟩, rfl⟩
  · exact .inr (Nat.le_of_not_lt low)

theorem standby_of_index? {i : Fin 12} (beyond : index? 10 i.val = none) : i ∈ standbys :=
  mem_standbys.2 (index?_none_iff.1 beyond)

theorem otherStandby_mem (i : Fin 12) : otherStandby i ∈ standbys := by
  unfold otherStandby
  split <;> decide

theorem eq_or_eq_other {i j : Fin 12} (hi : i ∈ standbys) (hj : j ∈ standbys) : j = i ∨ j = otherStandby i := by
  rw [mem_standbys] at hi hj
  unfold otherStandby
  split
  · next ten => simp only [Fin.ext_iff] at ten ⊢; omega
  · next notTen => simp only [Fin.ext_iff] at notTen ⊢; omega

theorem otherStandby_ne {i : Fin 12} (hi : i ∈ standbys) : otherStandby i ≠ i := by
  rw [mem_standbys] at hi
  unfold otherStandby
  split
  · next ten => rw [ten]; decide
  · next notTen => exact fun same => notTen same.symm

/-! ### One amplifier -/

/-- What an amplifier carries: its feed and its pending target (R119). -/
def Amp.carries (x : Amp) : Feed × Option Feed :=
  (x.feed, x.pending)

section OneAmp
variable (a : Audio) (i j : Fin 12)

theorem Audio.switchTo_amps (t : Feed) :
    (a.switchTo i t).amps[j] = if i = j then { a.amps[i] with feed := t, pending := none } else a.amps[j] :=
  a.setAmp_amps i j _

theorem Audio.setAmpState_amps (st : AmpState) :
    (a.setAmpState i st).amps[j] = if i = j then { a.amps[i] with state := st } else a.amps[j] :=
  a.setAmp_amps i j _

theorem Audio.setServer_amps (g : Fin 10) (x : Option (Fin 12)) :
    (a.setServer g x).amps[j] = if dutyAmp g = j then { a.amps[dutyAmp g] with server := x } else a.amps[j] :=
  a.setAmp_amps _ j _

theorem Audio.setServer_serverOf (g g' : Fin 10) (x : Option (Fin 12)) :
    (a.setServer g x).serverOf g' = if g' = g then x else a.serverOf g' := by
  rw [Audio.serverOf, Audio.setServer_amps]
  by_cases same : g' = g
  · rw [if_pos same, if_pos (congrArg dutyAmp same.symm)]
  · rw [if_neg same, if_neg fun eq => same (dutyAmp_inj eq.symm)]
    rfl

theorem Audio.setServer_carries (g : Fin 10) (x : Option (Fin 12)) : (a.setServer g x).amps[j].carries = a.amps[j].carries := by
  rw [Audio.setServer_amps]
  split
  · next same => rw [← same]; rfl
  · rfl

end OneAmp

/-! ### The feed table (R119) -/

theorem Feed.same_iff {t c : Feed} : t.same c = true ↔ t.rank = c.rank ∧ t.program? = c.program? := by
  cases t with
  | none => cases c with
    | none => exact iff_of_true rfl ⟨rfl, rfl⟩
    | mic m => cases m <;> exact iff_of_false Bool.false_ne_true (by rintro ⟨⟨⟩, -⟩)
    | program r p k => exact iff_of_false Bool.false_ne_true (by rintro ⟨-, ⟨⟩⟩)
  | mic m => cases c with
    | none => cases m <;> exact iff_of_false Bool.false_ne_true (by rintro ⟨⟨⟩, -⟩)
    | mic m' => cases m <;> cases m' <;> decide
    | program r p k => exact iff_of_false Bool.false_ne_true (by rintro ⟨-, ⟨⟩⟩)
  | program r p k => cases c with
    | none => exact iff_of_false Bool.false_ne_true (by rintro ⟨-, ⟨⟩⟩)
    | mic m' => exact iff_of_false Bool.false_ne_true (by rintro ⟨-, ⟨⟩⟩)
    | program r' p' k' =>
      have ranks : r = r' ↔ r.rank = r'.rank := by cases r <;> cases r' <;> decide
      simp only [Feed.same, Feed.rank, Feed.program?, Option.some.injEq, decide_eq_true_eq, ranks]

theorem Audio.delivererOf_isSome {a : Audio} {f : Feed} :
    (a.delivererOf f).isSome = true ↔ ∃ (j : Fin 6) (w : Walk), a.players[j].walk = some w ∧ f.program? = some w.program := by
  cases program : f.program? with
  | none => simp [Audio.delivererOf, program]
  | some p =>
    rw [Audio.delivererOf, program, Option.bind_some, Audio.playerOf_isSome]
    exact exists₂_congr fun j w => and_congr_right fun _ => by rw [Option.some.injEq, eq_comm]

section Apply
variable {a : Audio} {i : Fin 12} {t : Feed}

/-- A target that is the same feed, of higher rank, or against a feed no player delivers switches at once. -/
theorem Audio.applyTarget_switches (now : t.same a.amps[i].feed = true ∨ a.amps[i].feed.rank.value < t.rank.value ∨
    ¬ (a.delivererOf a.amps[i].feed).isSome = true) : a.applyTarget i t = a.switchTo i t := by
  unfold Audio.applyTarget
  dsimp only
  split_ifs with same higher delivered
  · rfl
  · rfl
  · exact absurd now (by rintro (h | h | h) <;> contradiction)
  · rfl

/-- Against a feed a player delivers, another target of no higher rank becomes pending. -/
theorem Audio.applyTarget_waits (other : ¬ t.same a.amps[i].feed = true)
    (low : ¬ a.amps[i].feed.rank.value < t.rank.value) (delivered : (a.delivererOf a.amps[i].feed).isSome = true) :
    a.applyTarget i t = a.setAmp i { a.amps[i] with pending := some t } := by
  unfold Audio.applyTarget
  dsimp only
  rw [if_neg other, if_neg low, if_pos delivered]

theorem Audio.applyTarget_cases (a : Audio) (i : Fin 12) (t : Feed) :
    a.applyTarget i t = a.switchTo i t ∨ a.applyTarget i t = a.setAmp i { a.amps[i] with pending := some t } := by
  by_cases now : t.same a.amps[i].feed = true ∨ a.amps[i].feed.rank.value < t.rank.value ∨
    ¬ (a.delivererOf a.amps[i].feed).isSome = true
  · exact .inl (Audio.applyTarget_switches now)
  · obtain ⟨other, rest⟩ := not_or.1 now
    obtain ⟨low, delivered⟩ := not_or.1 rest
    exact .inr (Audio.applyTarget_waits other low (not_not.1 delivered))

end Apply

/-! ### Folds over the amplifiers (R118, R120) -/

/-- A fold of operations that each touch one amplifier, as that one's operation leaves it. -/
theorem foldl_amps {f : Audio → Fin 12 → Audio} {g : Fin 12 → Amp → Amp}
    (touches : ∀ (b : Audio) (i j : Fin 12), (f b i).amps[j] = if i = j then g i b.amps[i] else b.amps[j])
    {l : List (Fin 12)} (once : l.Nodup) (a : Audio) (j : Fin 12) :
    (l.foldl f a).amps[j] = if j ∈ l then g j a.amps[j] else a.amps[j] := by
  induction l generalizing a with
  | nil => simp
  | cons i l ih =>
    obtain ⟨fresh, once⟩ := List.nodup_cons.1 once
    rw [List.foldl_cons, ih once, touches]
    by_cases same : i = j
    · subst same
      simp [fresh]
    · simp [same, Ne.symm same]

/-- An operation has changed the amplifier records alone. -/
structure Audio.OnlyAmps (a b : Audio) : Prop where
  eq : b = { a with amps := b.amps }

theorem Audio.OnlyAmps.refl (a : Audio) : a.OnlyAmps a := ⟨rfl⟩

theorem Audio.OnlyAmps.trans {a b c : Audio} (h : a.OnlyAmps b) (g : b.OnlyAmps c) : a.OnlyAmps c := by
  refine ⟨?_⟩
  rw [g.eq, h.eq]

theorem Audio.OnlyAmps.foldl {α : Type} {f : Audio → α → Audio} (h : ∀ (a : Audio) (x : α), a.OnlyAmps (f a x)) (l : List α)
    (a : Audio) : a.OnlyAmps (l.foldl f a) :=
  List.foldlRecOn (motive := a.OnlyAmps) l f (.refl a) fun _ only x _ => only.trans (h _ x)

theorem Audio.setAmp_onlyAmps (a : Audio) (i : Fin 12) (x : Amp) : a.OnlyAmps (a.setAmp i x) := ⟨rfl⟩

theorem Audio.applyTarget_onlyAmps (a : Audio) (i : Fin 12) (t : Feed) : a.OnlyAmps (a.applyTarget i t) := by
  rcases a.applyTarget_cases i t with eq | eq
  · rw [eq]; exact a.setAmp_onlyAmps i _
  · rw [eq]; exact a.setAmp_onlyAmps i _

/-- What a boundary of player `k` makes of a record of amplifier `i` (R120). -/
def Audio.pastBoundary (a : Audio) (k : Fin 6) (i : Fin 12) (x : Amp) : Amp :=
  match a.amps[i].pending with
  | some t => if a.delivererOf a.amps[i].feed = some k then { x with feed := t, pending := none } else x
  | none => x

theorem Audio.pastBoundary_switches {a : Audio} {k : Fin 6} {i : Fin 12} {t : Feed} (pending : a.amps[i].pending = some t)
    (delivers : a.delivererOf a.amps[i].feed = some k) (x : Amp) :
    a.pastBoundary k i x = { x with feed := t, pending := none } := by
  rw [Audio.pastBoundary, pending]
  exact if_pos delivers

theorem Audio.pastBoundary_stays {a : Audio} {k : Fin 6} {i : Fin 12}
    (stays : a.amps[i].pending = none ∨ a.delivererOf a.amps[i].feed ≠ some k) (x : Amp) : a.pastBoundary k i x = x := by
  rw [Audio.pastBoundary]
  rcases stays with none | other
  · rw [none]
  · cases a.amps[i].pending with
    | none => rfl
    | some t => exact if_neg other

/-- A boundary switches the servers that the player feeds and that hold a pending target, and no other (R120). -/
theorem Audio.boundary_amps (a : Audio) (k : Fin 6) (j : Fin 12) :
    (a.boundary k).amps[j] = a.pastBoundary k j a.amps[j] := by
  unfold Audio.boundary
  refine (foldl_amps (g := a.pastBoundary k) (fun b i j => ?_) (List.nodup_finRange 12) a j).trans
    (if_pos (List.mem_finRange j))
  unfold Audio.pastBoundary
  cases a.amps[i].pending with
  | none => exact (ite_eq_right_iff.2 fun same => by rw [same]).symm
  | some t =>
    dsimp only
    split
    · exact b.switchTo_amps i j t
    · exact (ite_eq_right_iff.2 (by rintro rfl; rfl)).symm

theorem Audio.boundary_onlyAmps (a : Audio) (k : Fin 6) : a.OnlyAmps (a.boundary k) := by
  refine Audio.OnlyAmps.foldl (fun b i => ?_) _ a
  split
  · split
    · exact b.setAmp_onlyAmps i _
    · exact .refl b
  · exact .refl b

/-- Settles O44, by the four lines of the feed table and the boundary amplifier by amplifier. -/
theorem feedSwitching : Obligations.FeedSwitching := by
  unfold Obligations.FeedSwitching
  intro a i target k c delivered
  have delivers : delivered ↔ (a.delivererOf c).isSome = true := Audio.delivererOf_isSome.symm
  refine ⟨fun now => ?switches, fun other low waits => ?pends, (a.boundary_onlyAmps k).eq, fun x pending feeds => ?boundary,
    fun stays => ?stays⟩
  case switches =>
    refine Audio.applyTarget_switches ?_
    rwa [Feed.same_iff, ← delivers]
  case pends =>
    exact Audio.applyTarget_waits (by rwa [Feed.same_iff]) (Nat.not_lt.2 low) (delivers.1 waits)
  case boundary => rw [a.boundary_amps, Audio.pastBoundary_switches pending feeds]
  case stays => rw [a.boundary_amps, Audio.pastBoundary_stays stays]

/-! ### Group moves (R125) -/

section Move
variable {a : Audio} {v : View} {g : Fin 10} {i : Fin 12}

theorem Audio.moveGroup_server (served : a.serverOf g = some i) (j : Fin 12) :
    a.moveGroup v g (some j) =
      ((a.switchTo i .none).setAmp j { (a.switchTo i .none).amps[j] with
        feed := a.amps[i].feed, pending := a.amps[i].pending }).setServer g (some j) := by
  unfold Audio.moveGroup
  rw [served]

theorem Audio.moveGroup_none (served : a.serverOf g = some i) :
    a.moveGroup v g none = (a.switchTo i .none).setServer g none := by
  unfold Audio.moveGroup
  rw [served]

theorem Audio.moveGroup_fromNone (unserved : a.serverOf g = none) (j : Fin 12) :
    a.moveGroup v g (some j) = ((a.switchTo j .none).setServer g (some j)).retarget v g := by
  unfold Audio.moveGroup
  rw [unserved]

theorem Audio.setAmp_serverOf (h : Fin 10) {j : Fin 12} {x : Amp} (server : x.server = a.amps[j].server) :
    (a.setAmp j x).serverOf h = a.serverOf h := by
  rw [Audio.serverOf, Audio.setAmp_amps]
  split
  · next same => rw [server, same]; rfl
  · rfl

theorem Audio.switchTo_serverOf (h : Fin 10) (j : Fin 12) (t : Feed) : (a.switchTo j t).serverOf h = a.serverOf h :=
  Audio.setAmp_serverOf h rfl

theorem Audio.setCarried_serverOf (h : Fin 10) (j : Fin 12) (f : Feed) (p : Option Feed) :
    (a.setAmp j { a.amps[j] with feed := f, pending := p }).serverOf h = a.serverOf h :=
  Audio.setAmp_serverOf h rfl

theorem Audio.setAmp_state (k : Fin 12) {j : Fin 12} {x : Amp} (state : x.state = a.amps[j].state) :
    (a.setAmp j x).amps[k].state = a.amps[k].state := by
  rw [Audio.setAmp_amps]
  split
  · next same => rw [state, same]
  · rfl

theorem Audio.switchTo_state (k j : Fin 12) (t : Feed) : (a.switchTo j t).amps[k].state = a.amps[k].state :=
  Audio.setAmp_state k rfl

theorem Audio.setServer_state (k : Fin 12) (h : Fin 10) (x : Option (Fin 12)) :
    (a.setServer h x).amps[k].state = a.amps[k].state :=
  Audio.setAmp_state k rfl

theorem Audio.setCarried_state (k j : Fin 12) (f : Feed) (p : Option Feed) :
    (a.setAmp j { a.amps[j] with feed := f, pending := p }).amps[k].state = a.amps[k].state :=
  Audio.setAmp_state k rfl

section Served
variable (served : a.serverOf g = some i)
include served

theorem Audio.moveGroup_serverOf (dst : Option (Fin 12)) (h : Fin 10) :
    (a.moveGroup v g dst).serverOf h = if h = g then dst else a.serverOf h := by
  cases dst with
  | none => rw [Audio.moveGroup_none served, Audio.setServer_serverOf, Audio.switchTo_serverOf]
  | some j =>
    rw [Audio.moveGroup_server served, Audio.setServer_serverOf,
      Audio.setCarried_serverOf, Audio.switchTo_serverOf]

theorem Audio.moveGroup_state (dst : Option (Fin 12)) (k : Fin 12) :
    (a.moveGroup v g dst).amps[k].state = a.amps[k].state := by
  cases dst with
  | none =>
    rw [Audio.moveGroup_none served, Audio.setServer_state, Audio.switchTo_state]
  | some j =>
    rw [Audio.moveGroup_server served, Audio.setServer_state, Audio.setCarried_state, Audio.switchTo_state]

/-- The new server carries what the old one carried, which carries nothing any more. -/
theorem Audio.moveGroup_carries (j k : Fin 12) :
    (a.moveGroup v g (some j)).amps[k].carries =
      if k = j then a.amps[i].carries else if k = i then (.none, none) else a.amps[k].carries := by
  rw [Audio.moveGroup_server served, Audio.setServer_carries, Audio.setAmp_amps]
  by_cases new : k = j
  · rw [if_pos new, if_pos new.symm]
    rfl
  · rw [if_neg new, if_neg (Ne.symm new), Audio.switchTo_amps]
    by_cases old : k = i
    · rw [if_pos old, if_pos old.symm]
      rfl
    · rw [if_neg old, if_neg (Ne.symm old)]

theorem Audio.moveGroup_none_carries (k : Fin 12) :
    (a.moveGroup v g none).amps[k].carries = if k = i then (.none, none) else a.amps[k].carries := by
  rw [Audio.moveGroup_none served, Audio.setServer_carries, Audio.switchTo_amps]
  by_cases old : k = i
  · rw [if_pos old, if_pos old.symm]
    rfl
  · rw [if_neg old, if_neg (Ne.symm old)]

end Served

theorem Audio.retarget_onlyAmps (v : View) (g : Fin 10) (a : Audio) : a.OnlyAmps (a.retarget v g) := by
  unfold Audio.retarget
  split
  · exact a.applyTarget_onlyAmps _ _
  · exact .refl a

theorem Audio.moveGroup_onlyAmps (v : View) (g : Fin 10) (dst : Option (Fin 12)) (a : Audio) :
    a.OnlyAmps (a.moveGroup v g dst) := by
  unfold Audio.moveGroup
  split
  · exact ⟨rfl⟩
  · exact ⟨rfl⟩
  · exact Audio.OnlyAmps.trans (b := (a.switchTo _ .none).setServer g _) ⟨rfl⟩ (Audio.retarget_onlyAmps v g _)
  · exact .refl a

end Move

theorem Amp.carries_eq {x : Amp} {f : Feed} {p : Option Feed} (carries : x.carries = (f, p)) : x.feed = f ∧ x.pending = p :=
  Prod.mk.inj carries

/-- Settles O46, by what a move leaves of servers, states and feeds. -/
theorem groupMoves : Obligations.GroupMoves := by
  unfold Obligations.GroupMoves
  intro v a g i served
  refine ⟨fun j apart => ?moved, ?dropped⟩
  case moved =>
    intro b
    have carries := Audio.moveGroup_carries (v := v) served j
    have new := Amp.carries_eq ((carries j).trans (if_pos rfl))
    have old := Amp.carries_eq ((carries i).trans ((if_neg apart).trans (if_pos rfl)))
    refine ⟨(Audio.moveGroup_serverOf served (some j) g).trans (if_pos rfl), new.1, new.2, old.1, old.2,
      fun h other => (Audio.moveGroup_serverOf served (some j) h).trans (if_neg other),
      fun k => ⟨Audio.moveGroup_state served (some j) k, fun notOld notNew => ?_⟩, (Audio.moveGroup_onlyAmps v g _ a).eq⟩
    exact Amp.carries_eq ((carries k).trans ((if_neg notNew).trans (if_neg notOld)))
  case dropped =>
    intro b
    have carries := Audio.moveGroup_none_carries (v := v) served
    have old := Amp.carries_eq ((carries i).trans (if_pos rfl))
    refine ⟨(Audio.moveGroup_serverOf served none g).trans (if_pos rfl), old.1, old.2,
      fun h other => (Audio.moveGroup_serverOf served none h).trans (if_neg other),
      fun k => ⟨Audio.moveGroup_state served none k, fun notOld => ?_⟩, (Audio.moveGroup_onlyAmps v g _ a).eq⟩
    exact Amp.carries_eq ((carries k).trans (if_neg notOld))

end Sys2Proof.Machine
end

section
/-! SUPPORT. Visits of the line scanner, declarations, and the line commands (R160 to R170). -/

namespace Sys2Proof.Machine

open Sys2Proof

/-! ### The order of visits (R161) -/

/-- The turns from 0 up of the 48 lines, counted from the one after the last visited. -/
theorem turnDistance_lt_iff (last i j : Fin 48) :
    turnDistance last i < turnDistance last j ↔ (i.val + 47 - last.val) % 48 < (j.val + 47 - last.val) % 48 := by
  unfold turnDistance
  simp only [Fin.lt_def]
  split_ifs <;> omega

theorem State.nextLine_none_iff {s : State} :
    s.nextLine = none ↔ ∀ n : Fin 48, ¬ s.resolver.configs[n].kind ≠ .unused := by
  rw [State.nextLine, firstAfter_none_iff]
  exact forall_congr' fun n => by rw [← State.used_iff, Bool.not_eq_true]

theorem State.nextLine_some_iff {s : State} {n : Fin 48} :
    s.nextLine = some n ↔ s.resolver.configs[n].kind ≠ .unused ∧ ∀ j : Fin 48,
      (j.val + 47 - s.scanner.last.val) % 48 < (n.val + 47 - s.scanner.last.val) % 48 →
        ¬ s.resolver.configs[j].kind ≠ .unused := by
  rw [State.nextLine, firstAfter_some_iff, State.used_iff]
  refine and_congr_right fun _ => forall_congr' fun j => ?_
  rw [turnDistance_lt_iff, ← State.used_iff, Bool.not_eq_true]

/-! ### Visits -/

theorem Audio.Shifted.lineSelect_of_refresh (a : Audio) : a.refresh.image = a.image := by
  unfold Audio.refresh
  split <;> rfl

theorem Audio.selectLine_lineSelect (a : Audio) (n : Fin 48) : (a.selectLine n).image.lineSelect = some n := by
  rw [Audio.selectLine, Audio.Shifted.lineSelect_of_refresh]

theorem Audio.clearLine_lineSelect (a : Audio) : a.clearLine.image.lineSelect = none := by
  unfold Audio.clearLine Audio.setImage
  split
  · next same => rw [← same]
  · rw [Audio.Shifted.lineSelect_of_refresh]

theorem exec_visitStart_none {s : State} (none : s.scanner.visit ≠ none ∨ ∀ n : Fin 48, ¬ s.resolver.configs[n].kind ≠ .unused) :
    exec .visitStart s = .next s := by
  change execVisitStart s = _
  unfold execVisitStart
  split
  · next free next =>
    rcases none with busy | unused
    · exact absurd free busy
    · rw [State.nextLine_none_iff.2 unused] at next
      cases next
  · rfl

theorem exec_visitStart_begins {s : State} {n : Fin 48} (free : s.scanner.visit = none) (next : s.nextLine = some n) :
    exec .visitStart s = .next (s.beginVisit n) := by
  change execVisitStart s = _
  unfold execVisitStart
  rw [free, next]

/-- The state whose visit has just ended, its reading taken unless it is to be discarded. -/
def State.visitTaken (s : State) (v : Visit) (c : LineClass) : State :=
  let free := s.setScanner { s.scanner with visit := none }
  if v.discard then free else free.takeReading v.line c

theorem exec_visitEnd_none {s : State} (none : s.scanner.visit = none) (cls1 cls0 : Bool) :
    exec (.visitEnd cls1 cls0) s = .next s := by
  change execVisitEnd cls1 cls0 s = _
  unfold execVisitEnd
  rw [none]

theorem exec_visitEnd {s : State} {v : Visit} (visit : s.scanner.visit = some v) (cls1 cls0 : Bool) :
    exec (.visitEnd cls1 cls0) s = .next (s.visitTaken v (readClass cls1 cls0)).afterVisit := by
  change execVisitEnd cls1 cls0 s = _
  unfold execVisitEnd
  rw [visit]
  rfl

theorem State.afterVisit_begins {s : State} {n : Fin 48} (next : s.nextLine = some n) : s.afterVisit = s.beginVisit n := by
  unfold State.afterVisit
  rw [next]

theorem State.afterVisit_clears {s : State} (none : s.nextLine = none) : s.afterVisit = s.onAudio Audio.clearLine := by
  unfold State.afterVisit
  rw [none]

/-! ### The reading of a visit (R162 to R164, R169) -/

theorem Line.enter_eq (x : Line) (c : LineClass) :
    x.enter c = { x with reading := some c, run := if x.reading = some c then min 3 (x.run + 1) else 1 } := by
  unfold Line.enter
  split
  · next same => rw [← same]; rfl
  · rfl

/-- A class is declared after three readings in a row that differ from the class declared (R163). -/
theorem Line.declares_some_iff {x : Line} {c d : LineClass} (reading : x.reading = some c) :
    x.declares = some d ↔ d = c ∧ x.run = 3 ∧ ∃ d, x.state.declared = some d ∧ d ≠ c := by
  unfold Line.declares
  rw [reading]
  cases x.state.declared with
  | none => simp
  | some e =>
    simp only [Option.ite_none_right_eq_some, Bool.and_eq_true, decide_eq_true_eq, Option.some.injEq, exists_eq_left']
    constructor
    · rintro ⟨⟨run, apart⟩, rfl⟩
      exact ⟨rfl, run, apart.symm⟩
    · rintro ⟨rfl, run, apart⟩
      exact ⟨⟨run, apart.symm⟩, rfl⟩

theorem State.takeReading_quiet {s : State} {n : Fin 48} {c : LineClass} (quiet : (s.scanner.lines[n].enter c).declares = none) :
    s.takeReading n c = s.setLine n (s.scanner.lines[n].enter c) := by
  unfold State.takeReading
  dsimp only
  rw [quiet]

theorem State.takeReading_declares {s : State} {n : Fin 48} {c d : LineClass}
    (declares : (s.scanner.lines[n].enter c).declares = some d) :
    s.takeReading n c = ((s.setLine n ((s.scanner.lines[n].enter c).declare (s.audio.connections[n] = .connected) d)).setNotices
      (s.notices.raiseLineFault n)).lineChanged n (s.scanner.lines[n].enter c).state := by
  unfold State.takeReading
  dsimp only
  rw [declares]
  rfl

/-- A changed line state reaches the audio side and AMP_FAULT and PROGRAM_BROKEN alone. -/
theorem State.lineChanged_onlyAudio (s : State) (n : Fin 48) (old : LineState) :
    s.lineChanged n old = { s with audio := (s.lineChanged n old).audio, notices := (s.lineChanged n old).notices } := by
  unfold State.lineChanged
  split <;> rfl

theorem State.takeReading_frame (s : State) (n : Fin 48) (c : LineClass) :
    ∃ x a m, s.takeReading n c = { s with
      scanner := { s.scanner with lines := s.scanner.lines.set n x }, audio := a, notices := m } := by
  cases declares : (s.scanner.lines[n].enter c).declares with
  | none => exact ⟨_, _, _, State.takeReading_quiet declares⟩
  | some d =>
    rw [State.takeReading_declares declares, State.lineChanged_onlyAudio]
    exact ⟨_, _, _, rfl⟩

/-- Nothing but the visit's own line record, the audio side and the notice set has changed when its reading is taken. -/
theorem State.visitTaken_frame (s : State) (v : Visit) (c : LineClass) :
    ∃ lines a m, (∀ n, n ≠ v.line → lines[n] = s.scanner.lines[n]) ∧ s.visitTaken v c = { s with
      scanner := { s.scanner with lines := lines, visit := none }, audio := a, notices := m } := by
  unfold State.visitTaken
  dsimp only
  split
  · exact ⟨_, _, _, fun _ _ => rfl, rfl⟩
  · obtain ⟨x, a, m, taken⟩ := State.takeReading_frame (s.setScanner { s.scanner with visit := none }) v.line c
    refine ⟨s.scanner.lines.set v.line x, a, m, fun n other => ?_, taken⟩
    exact Vector.getElem_set_ne v.line.isLt n.isLt fun same => other (Fin.ext same.symm)

theorem State.afterVisit_frame (s : State) : ∃ visit last a,
    s.afterVisit = { s with scanner := { s.scanner with visit := visit, last := last }, audio := a } := by
  unfold State.afterVisit
  split
  · exact ⟨_, _, _, rfl⟩
  · exact ⟨_, _, _, rfl⟩

theorem Line.shorted_isolated {x : Line} (left : 0 < x.allowance) :
    x.shorted true = { x with state := .isolated, allowance := x.allowance - 1 } := by
  rw [Line.shorted, if_pos rfl, if_neg left.ne']

theorem Line.shorted_lockedOut {x : Line} (spent : x.allowance = 0) : x.shorted true = { x with state := .lockedOut } := by
  rw [Line.shorted, if_pos rfl, if_pos spent]

theorem readClass_eq (cls1 cls0 : Bool) :
    readClass cls1 cls0 = if cls1 then (if cls0 then .earth else .short) else if cls0 then .opened else .normal := by
  cases cls1 <;> cases cls0 <;> rfl

section Reading
variable {s : State} {v : Visit} {c : LineClass}

theorem State.visitTaken_discarded (discard : v.discard = true) :
    s.visitTaken v c = s.setScanner { s.scanner with visit := none } := if_pos discard

theorem State.visitTaken_reading (kept : v.discard = false) :
    s.visitTaken v c = (s.setScanner { s.scanner with visit := none }).takeReading v.line c :=
  if_neg (by rw [kept]; exact Bool.false_ne_true)

theorem State.visitTaken_quiet (kept : v.discard = false) (quiet : (s.scanner.lines[v.line].enter c).declares = none) :
    (s.visitTaken v c).scanner.lines[v.line] = s.scanner.lines[v.line].enter c ∧
      (s.visitTaken v c).notices = s.notices := by
  rw [State.visitTaken_reading kept,
    State.takeReading_quiet (s := s.setScanner { s.scanner with visit := none }) quiet]
  exact ⟨(State.setLine_lines _ _ _ _).trans (if_pos rfl), rfl⟩

theorem State.visitTaken_declares {d : LineClass} (kept : v.discard = false)
    (declares : (s.scanner.lines[v.line].enter c).declares = some d) :
    (s.visitTaken v c).scanner.lines[v.line] =
        (s.scanner.lines[v.line].enter c).declare (s.audio.connections[v.line] = .connected) d ∧
      (s.visitTaken v c).notices.lineFault = addMember v.line s.notices.lineFault := by
  rw [State.visitTaken_reading kept,
    State.takeReading_declares (s := s.setScanner { s.scanner with visit := none }) declares]
  refine ⟨?_, (State.lineChanged_soundChange _ _ _).lineFault⟩
  rw [State.lineChanged_scanner]
  exact (State.setLine_lines _ _ _ _).trans (if_pos rfl)

end Reading

/-- Settles O54. -/
theorem visitsRule : Obligations.VisitsRule := by
  unfold Obligations.VisitsRule
  intro s cls1 cls0 used comes
  refine ⟨exec_visitStart_none, fun n free next => ?start, fun none => exec_visitEnd_none none cls1 cls0, fun v visit => ?visitEnd⟩
  case start =>
    refine ⟨_, exec_visitStart_begins free (State.nextLine_some_iff.2 next), rfl, s.audio.selectLine_lineSelect n, ?_⟩
    change (s.audio.selectLine n).amps = _ ∧ (s.audio.selectLine n).connections = _ ∧ (s.audio.selectLine n).players = _
    rw [(s.audio.selectLine_shifted n).eq]
    exact ⟨rfl, rfl, rfl⟩
  case visitEnd =>
    generalize hc : readClass cls1 cls0 = c
    obtain ⟨lines, a, m, others, taken⟩ := s.visitTaken_frame v c
    obtain ⟨visit', last, b, after⟩ := (s.visitTaken v c).afterVisit_frame
    have next : (s.visitTaken v c).nextLine = s.nextLine := by rw [taken]; rfl
    refine ⟨_, hc ▸ exec_visitEnd visit cls1 cls0, ?frame, fun n comes => ?begins, fun unused => ?clears, fun n other => ?others,
      fun discard => ?discard, fun kept => ?reading⟩
    case frame => rw [after, taken]
    case begins =>
      rw [State.afterVisit_begins (next.trans (State.nextLine_some_iff.2 comes))]
      exact ⟨rfl, rfl, Audio.selectLine_lineSelect _ n⟩
    case clears =>
      rw [State.afterVisit_clears (next.trans (State.nextLine_none_iff.2 unused)), taken]
      exact ⟨rfl, rfl, Audio.clearLine_lineSelect _⟩
    case others =>
      rw [State.afterVisit_lines, taken]
      exact others n other
    case discard =>
      rw [State.afterVisit_lines, State.afterVisit_notices, State.visitTaken_discarded discard]
      exact ⟨rfl, rfl⟩
    case reading =>
      intro x c' y declares connected
      have same : c' = c := (readClass_eq cls1 cls0).symm.trans hc
      have entered : s.scanner.lines[v.line].enter c = y := same ▸ Line.enter_eq x c'
      have declaration (d : LineClass) : y.declares = some d ↔ d = c ∧ declares := same ▸ Line.declares_some_iff rfl
      rw [State.afterVisit_lines, State.afterVisit_notices]
      refine ⟨fun quiet => ?_, fun said => ?_⟩
      · have none : y.declares = none :=
          Option.eq_none_iff_forall_ne_some.2 fun d some => quiet ((declaration d).1 some).2
        have left := State.visitTaken_quiet (c := c) kept (entered.symm ▸ none)
        rwa [entered] at left
      · obtain ⟨line, raised⟩ := State.visitTaken_declares (c := c) kept (entered.symm ▸ (declaration c).2 ⟨rfl, said⟩)
        rw [entered] at line
        rw [same]
        refine ⟨raised, ?_, ?_, ?_, ?_, ?_, ?_⟩
        · rintro rfl; exact line
        · rintro rfl; exact line
        · rintro rfl; exact line
        · rintro rfl isolates left
          exact line.trans (by rw [decide_eq_true isolates]; exact Line.shorted_isolated left)
        · rintro rfl isolates spent
          exact line.trans (by rw [decide_eq_true isolates]; exact Line.shorted_lockedOut spent)
        · rintro rfl open_
          exact line.trans (by rw [decide_eq_false open_]; rfl)

/-! ### LINE_RECONNECT and LINE_STATUS (R167, R168) -/

section Commands
variable {line : Byte} {s : State} {n : Fin 48}

theorem exec_lineReconnect_outOfRange (big : 47 < line.toNat) :
    exec (.lineReconnect line) s = .next (s.answer 0x70 .outOfRange []) :=
  congrArg _ (State.takeRequest_refuse (by simp only [serveLineReconnect, index?_none_iff.2 big]))

theorem exec_lineStatus_outOfRange (big : 47 < line.toNat) :
    exec (.lineStatus line) s = .next (s.answer 0x71 .outOfRange []) :=
  congrArg _ (State.takeRequest_refuse (by simp only [serveLineStatus, index?_none_iff.2 big]))

theorem exec_lineReconnect_refused (hn : line.toNat = n.val) (other : s.scanner.lines[n].state ≠ .lockedOut) :
    exec (.lineReconnect line) s = .next (s.answer 0x70 .refusedState []) := by
  refine congrArg _ (State.takeRequest_refuse ?_)
  simp only [serveLineReconnect, index?_some_iff.2 hn, State.linkValid_scanner, if_neg other]

/-- The state of a line given back by LINE_RECONNECT. -/
def State.reconnected (s : State) (n : Fin 48) : LineState :=
  if s.used n then .normal else .notScanned

theorem serveLineReconnect_locked (hn : line.toNat = n.val) (locked : s.scanner.lines[n].state = .lockedOut) :
    serveLineReconnect line s.linkValid = accept [(s.reconnected n).code]
      ((s.linkValid.setLine n { s.scanner.lines[n] with state := s.reconnected n, allowance := 3 }).lineChanged n .lockedOut) := by
  simp only [serveLineReconnect, index?_some_iff.2 hn, State.linkValid_scanner, State.linkValid_used, State.reconnected, locked,
    if_pos]

theorem exec_lineStatus (hn : line.toNat = n.val) :
    exec (.lineStatus line) s = .next (s.answer 0x71 .ok (s.lineBytes n)) := by
  refine congrArg _ (State.takeRequest_read ?_)
  simp only [serveLineStatus, index?_some_iff.2 hn, State.lineBytes, State.visiting, State.linkValid_scanner]

end Commands

/-- Settles O55. -/
theorem lineCommands : Obligations.LineCommands := by
  unfold Obligations.LineCommands
  intro line s
  refine ⟨fun big => ⟨exec_lineReconnect_outOfRange big, exec_lineStatus_outOfRange big⟩, fun n hn => ?_⟩
  intro x
  refine ⟨exec_lineReconnect_refused hn, fun locked => ?reconnect, flagByte (s.visiting n), ?visiting, ?flag, ?status⟩
  case reconnect =>
    have taken := State.takeRequest_accept (code := 0x70) (serveLineReconnect_locked hn locked)
    refine ⟨_, s.reconnected n, congrArg Host.Outcome.next taken, fun used => if_pos (State.used_iff.2 used),
      fun unused => if_neg fun used => State.used_iff.1 used unused, ?_, ?_, ?_, ?_, ?_, ?_⟩
    · rw [State.respond_scanner, State.lineChanged_scanner, State.setLine, State.linkValid_scanner]
      rfl
    · rw [← State.linkValid_respond, State.respond, State.setLink_link, State.lineChanged_link]
      rfl
    · rw [State.respond_engine, State.lineChanged_engine]
      exact s.linkValid_engine
    · rw [State.respond_resolver, State.lineChanged_resolver]
      exact s.linkValid_resolver
    · rw [State.respond_sessions, State.lineChanged_sessions]
      exact s.linkValid_sessions
    · rw [State.respond_notices, (State.lineChanged_soundChange _ _ _).lineFault]
      change s.linkValid.notices.lineFault = _
      rw [State.linkValid_notices_eq]
  case visiting =>
    rw [State.visiting]
    cases s.scanner.visit with
    | none => exact iff_of_false (show ¬ flagByte false = 1 by decide) (by rintro ⟨v, ⟨⟩, -⟩)
    | some v =>
      rw [Option.any_some]
      by_cases here : v.line = n
      · rw [decide_eq_true here]; exact iff_of_true rfl ⟨v, rfl, here⟩
      · rw [decide_eq_false here]
        exact iff_of_false (by decide) fun ⟨w, same, line⟩ => here (Option.some.inj same ▸ line)
  case flag => cases s.visiting n <;> decide
  case status =>
    rw [exec_lineStatus hn]
    rfl

end Sys2Proof.Machine
end

section
/-! SUPPORT. The miss list's resolution and the two commands that write the map (R17 to R23, R26, R31 to R33). -/

namespace Sys2Proof.Machine

open Sys2Proof

/-! ### Bound reports one after another (R31, R34) -/

theorem State.boundReport_autonomous (s : State) (r : BoundReport) : (s.boundReport r).autonomous = s.autonomous := by
  rw [State.autonomous, State.boundReport_link]
  rfl

theorem State.boundReports_engine (s : State) (rs : List BoundReport) :
    (s.boundReports rs).engine = rs.foldl (fun e r => e.takeReport s.now s.autonomous r) s.engine := by
  induction rs generalizing s with
  | nil => rfl
  | cons r rs ih =>
    rw [State.boundReports, List.foldl_cons, ← State.boundReports, ih, State.boundReport_now,
      State.boundReport_autonomous, State.boundReport_engine, List.foldl_cons]

/-- The reports of the entries that leave the miss list go to the engine in list order. -/
theorem State.resolveMisses_engine (s : State) (p : Miss → Bool) (b : Binding) :
    (s.resolveMisses p b).engine =
      ((s.map.misses.filter p).flatMap fun x => x.reports b).foldl (fun e r => e.takeReport s.now s.autonomous r) s.engine :=
  State.boundReports_engine _ _

theorem State.resolveMisses_none {s : State} {p : Miss → Bool} (none : s.map.misses.filter p = []) (b : Binding) :
    s.resolveMisses p b = s := by
  have kept : (s.map.misses.filter fun x => !p x) = s.map.misses :=
    List.filter_eq_self.2 fun x listed => by
      rw [Bool.not_eq_true']
      exact Bool.eq_false_iff.2 (List.filter_eq_nil_iff.1 none x listed)
  rw [State.resolveMisses, none, State.onMap, kept]
  rfl

/-! ### One device's entry (R31 to R33) -/

theorem Miss.isFor_iff {x : Miss} {loop : Fin 4} {address : Byte} :
    x.isFor loop address = true ↔ x.loop = loop ∧ x.address = address := by
  rw [Miss.isFor, Bool.and_eq_true, decide_eq_true_eq, decide_eq_true_eq]

section OneEntry
variable {before after : List Miss} {x : Miss} {p : Miss → Bool}

theorem filter_alone (chosen : p x = true) (others : ∀ y ∈ before ++ after, p y = false) :
    (before ++ x :: after).filter p = [x] := by
  obtain ⟨earlier, later⟩ := List.forall_mem_append.1 others
  rw [List.filter_append, List.filter_cons_of_pos chosen, List.filter_eq_nil_iff.2 fun y listed => by simp [earlier y listed],
    List.filter_eq_nil_iff.2 fun y listed => by simp [later y listed]]
  rfl

theorem filter_others (chosen : p x = true) (others : ∀ y ∈ before ++ after, p y = false) :
    ((before ++ x :: after).filter fun y => !p y) = before ++ after := by
  obtain ⟨earlier, later⟩ := List.forall_mem_append.1 others
  rw [List.filter_append, List.filter_cons_of_neg (by simp [chosen]),
    List.filter_eq_self.2 fun y listed => by simp [earlier y listed],
    List.filter_eq_self.2 fun y listed => by simp [later y listed]]

end OneEntry

/-- Settles O26, by the resolution of the one entry chosen. -/
theorem missResolvesUnderDefault : Obligations.MissResolvesUnderDefault := by
  unfold Obligations.MissResolvesUnderDefault
  intro l address s
  refine ⟨fun quiet => ?idle, fun loop bad => ?outOfRange, fun loop hl low high absent => ?notFound, ?resolves⟩
  case idle =>
    refine congrArg Host.Outcome.next (State.resolveMisses_none (List.filter_eq_nil_iff.2 fun x listed due => ?_) _)
    rw [Bool.and_eq_true, Miss.isFor_iff, decide_eq_true_eq] at due
    obtain ⟨⟨here, device⟩, zero⟩ := due
    exact quiet x listed here device zero
  case outOfRange =>
    refine congrArg Host.Outcome.next (State.takeRequest_refuse ?_)
    unfold serveMissDefault
    split
    · next hl ha =>
      have := index?_some_iff.1 hl
      obtain ⟨low, high, -⟩ := deviceAddress?_some_iff.1 ha
      omega
    · rfl
  case notFound =>
    refine congrArg Host.Outcome.next (State.takeRequest_refuse ?_)
    simp only [serveMissDefault, index?_some_iff.2 hl, deviceAddress?_some_iff.2 ⟨low, high, rfl⟩, State.linkValid_map]
    refine if_neg fun found => ?_
    obtain ⟨x, listed, device⟩ := List.any_eq_true.1 found
    exact absent x listed (Miss.isFor_iff.1 device)
  case resolves =>
    rintro before after x listed others rfl rfl bound reports taken
    have chosen : x.isFor x.loop x.address = true := Miss.isFor_iff.2 ⟨rfl, rfl⟩
    have rest (y : Miss) (mem : y ∈ before ++ after) : y.isFor x.loop x.address = false :=
      Bool.eq_false_iff.2 fun device => others y mem (Miss.isFor_iff.1 device)
    have handed : ([x].flatMap fun x => x.reports s.map.defaultBinding) = reports := by
      rw [List.flatMap_singleton]
      rfl
    refine ⟨fun zero => ?expiry, fun loop hl low high => ?command⟩
    case expiry =>
      have due : (x.isFor x.loop x.address && decide (x.deadline = 0)) = true := by rw [chosen, zero]; rfl
      have notDue (y : Miss) (mem : y ∈ before ++ after) :
          (y.isFor x.loop x.address && decide (y.deadline = 0)) = false := by
        rw [rest y mem, Bool.false_and]
      refine ⟨_, rfl, ?_, ?_, State.resolveMisses_link .., State.resolveMisses_loops .., State.resolveMisses_sessions ..,
        State.resolveMisses_scanner ..⟩
      · rw [State.resolveMisses_map, listed, filter_others due notDue]
      · rw [State.resolveMisses_engine, listed, filter_alone due notDue, handed]
    case command =>
      have served : serveMissDefault loop x.address s.linkValid =
          accept [] (s.linkValid.resolveMisses (fun y => y.isFor x.loop x.address) s.map.defaultBinding) := by
        simp only [serveMissDefault, index?_some_iff.2 hl, deviceAddress?_some_iff.2 ⟨low, high, rfl⟩, State.linkValid_map]
        refine if_pos (List.any_eq_true.2 ⟨x, ?_, chosen⟩)
        rw [listed]
        exact List.mem_append_right _ (List.mem_cons_self ..)
      refine ⟨_, congrArg Host.Outcome.next (State.takeRequest_accept (code := 0x29) served), ?_, ?_, rfl, ?_, ?_, ?_⟩
      · rw [State.respond_map, State.resolveMisses_map, State.linkValid_map, listed, filter_others chosen rest]
      · rw [State.respond_engine, State.resolveMisses_engine, State.linkValid_map, State.linkValid_now,
          State.linkValid_autonomous, State.linkValid_engine, listed, filter_alone chosen rest, handed]
      · rw [State.respond_loops, State.resolveMisses_loops, State.linkValid_loops]
      · rw [State.respond_sessions, State.resolveMisses_sessions, State.linkValid_sessions]
      · rw [State.respond_scanner, State.resolveMisses_scanner, State.linkValid_scanner]

/-! ### The writes of the map (R17 to R23) -/

theorem CauseMap.overlaps_iff {m : CauseMap} {i : Fin 96} {e : MapEntry} : m.overlaps i e = true ↔
    ∃ j : Fin 96, j ≠ i ∧ m.entries[j].valid = true ∧
      (e.selector = m.entries[j].selector ∨ e.selector = none ∨ m.entries[j].selector = none) ∧
      e.base ≤ m.entries[j].base + m.entries[j].span - 1 ∧ m.entries[j].base ≤ e.base + e.span - 1 := by
  simp only [CauseMap.overlaps, MapEntry.collides, List.any_eq_true, List.mem_finRange, true_and, Bool.and_eq_true,
    Bool.or_eq_true, decide_eq_true_eq, and_assoc]
  refine exists_congr fun j => and_congr_right fun _ => and_congr_right fun _ => ?_
  rw [eq_comm (a := e.selector)]
  tauto

theorem CauseMap.conflicts_iff {m : CauseMap} {i : Fin 96} {e : MapEntry} : m.conflicts i e = true ↔
    ∃ j : Fin 96, j ≠ i ∧ m.entries[j].valid = true ∧ m.entries[j].zone = e.zone ∧
      (m.entries[j].floor ≠ e.floor ∨ m.entries[j].profile ≠ e.profile) := by
  simp only [CauseMap.conflicts, List.any_eq_true, List.mem_finRange, true_and, Bool.and_eq_true, Bool.or_eq_true,
    decide_eq_true_eq, and_assoc]

/-- The waiting devices that an entry matches, and the others. -/
def CauseMap.matched (m : CauseMap) (e : MapEntry) : List Miss :=
  m.misses.filter fun x => decide (e.Matches x.loop x.address.toNat)

def CauseMap.unmatched (m : CauseMap) (e : MapEntry) : List Miss :=
  m.misses.filter fun x => decide (¬ e.Matches x.loop x.address.toNat)

theorem MapEntry.covers_eq_decide (e : MapEntry) (loop : Fin 4) (address : Nat) :
    e.covers loop address = decide (e.Matches loop address) := by
  rw [Bool.eq_iff_iff, MapEntry.covers_iff, decide_eq_true_eq]

section Write
variable {s : State} {raw : RawEntry} {i : Fin 96} {e : MapEntry} {place : Bool} {code : Byte}

theorem State.writeEntry_unread (unread : entry? s.engine.floors raw = none) (index : Option (Fin 96)) :
    s.writeEntry index raw place = refuse .outOfRange s := by
  unfold State.writeEntry
  rw [unread]
  cases index <;> rfl

theorem State.writeEntry_noIndex : s.writeEntry none raw place = refuse .outOfRange s := by
  unfold State.writeEntry
  cases entry? s.engine.floors raw <;> rfl

section Read
variable (read : entry? s.engine.floors raw = some e)
include read

theorem State.writeEntry_overlap (overlaps : s.map.overlaps i e = true) :
    s.writeEntry (some i) raw place = refuse .overlap s := by
  unfold State.writeEntry
  rw [read]
  exact if_pos overlaps

theorem State.writeEntry_conflict (apart : ¬ s.map.overlaps i e = true) (conflicts : s.map.conflicts i e = true) :
    s.writeEntry (some i) raw place = refuse .conflict s := by
  unfold State.writeEntry
  rw [read]
  exact (if_neg apart).trans (if_pos conflicts)

theorem State.writeEntry_stores (apart : ¬ s.map.overlaps i e = true) (agree : ¬ s.map.conflicts i e = true) :
    s.writeEntry (some i) raw place =
      accept ((if place then [byte i.val] else []) ++ [byte (s.map.matched e).length]) (s.storeEntry i e place).2 := by
  unfold State.writeEntry
  rw [read]
  refine ((if_neg apart).trans (if_neg agree)).trans ?_
  simp only [State.storeEntry, CauseMap.matched, MapEntry.covers_eq_decide]

end Read

/-- The map with an entry stored, before the misses it matches leave the list. -/
def CauseMap.store (m : CauseMap) (i : Fin 96) (e : MapEntry) (place : Bool) : CauseMap :=
  if place then { m with entries := m.entries.set i e }.moveCursor else { m with entries := m.entries.set i e }

theorem CauseMap.store_eq (m : CauseMap) (i : Fin 96) (e : MapEntry) (place : Bool) :
    m.store i e place = { m with entries := m.entries.set i e, cursor := (m.store i e place).cursor } := by
  cases place <;> rfl

theorem State.storeEntry_eq (s : State) (i : Fin 96) (e : MapEntry) (place : Bool) :
    (s.storeEntry i e place).2 = (s.setMap (s.map.store i e place)).resolveMisses
      (fun x => e.covers x.loop x.address.toNat) e.binding := by
  cases place <;> rfl

/-- A placed entry moves the cursor one index down, from W to 95 (R21, R23). -/
theorem CauseMap.store_cursor (m : CauseMap) (i : Fin 96) (e : MapEntry) :
    (m.store i e true).cursor.val = if m.cursor.val ≤ m.wired.val then 95 else m.cursor.val - 1 :=
  apply_ite Fin.val (m.cursor.val ≤ m.wired.val) 95 _

theorem CauseMap.store_misses (m : CauseMap) (i : Fin 96) (e : MapEntry) (place : Bool) :
    (m.store i e place).misses = m.misses := by
  rw [CauseMap.store_eq]

/-- What an accepted write leaves: the entry stored, the devices it matches resolved under it, the response. -/
theorem State.stored (s : State) (i : Fin 96) (e : MapEntry) (place : Bool) (code : Byte) (p : List Byte) :
    let t := (s.linkValid.storeEntry i e place).2.respond code .ok p
    t.map = { s.map.store i e place with misses := s.map.unmatched e } ∧
    t.engine = ((s.map.matched e).flatMap fun x => x.reports e.binding).foldl
      (fun g r => g.takeReport s.now false r) s.engine ∧
    t.now = s.now ∧ t.loops = s.loops ∧ t.sessions = s.sessions ∧ t.scanner = s.scanner ∧ t.pins = s.pins ∧
    t.pending = s.pending ∧ t.resolver.configs = s.resolver.configs := by
  intro t
  have left : t = ((s.linkValid.setMap (s.map.store i e place)).resolveMisses
      (fun x => e.covers x.loop x.address.toNat) e.binding).respond code .ok p := by
    rw [← State.linkValid_map, ← State.storeEntry_eq]
  rw [left]
  refine ⟨?_, ?_, by simp, by simp, by simp, by simp, by simp, by simp, ?_⟩
  · rw [State.respond_map, State.resolveMisses_map, State.setMap_map, CauseMap.store_misses, CauseMap.unmatched]
    simp only [MapEntry.covers_eq_decide, decide_not]
  · rw [State.respond_engine, State.resolveMisses_engine, State.setMap_map, CauseMap.store_misses, CauseMap.matched]
    have quiet : (s.linkValid.setMap (s.map.store i e place)).autonomous = false := s.linkValid_autonomous
    simp only [MapEntry.covers_eq_decide, quiet, State.setMap_engine, State.setMap_now, State.linkValid_engine,
      State.linkValid_now]
  · rw [State.respond_resolver, State.resolveMisses_configs]
    exact congrArg Resolver.configs s.linkValid_resolver

theorem State.stored_unmatched (none : s.map.matched e = []) (p : List Byte) :
    (s.linkValid.storeEntry i e place).2.respond code .ok p =
      { s.answer code .ok p with map := ((s.linkValid.storeEntry i e place).2.respond code .ok p).map } := by
  have nothing : ((s.linkValid.setMap (s.linkValid.map.store i e place)).map.misses.filter
      fun x => e.covers x.loop x.address.toNat) = [] := by
    rw [State.setMap_map, CauseMap.store_misses, State.linkValid_map]
    simp only [MapEntry.covers_eq_decide]
    exact none
  rw [State.storeEntry_eq, State.resolveMisses_none nothing, ← State.linkValid_respond]
  rfl

end Write

theorem CauseMap.matched_nil_iff {m : CauseMap} {e : MapEntry} (none : m.matched e = []) :
    byte (m.matched e).length = 0 := by
  rw [none]
  rfl

/-- Settles O24, by the checks in their order and what the stored entry resolves. -/
theorem mapWriteAndPlace : Obligations.MapWriteAndPlace := by
  unfold Obligations.MapWriteAndPlace
  intro raw s overlap conflict matched unmatched handed frame
  have overlaps (i : Fin 96) (e : MapEntry) : overlap i e ↔ s.linkValid.map.overlaps i e = true := by
    rw [State.linkValid_map, CauseMap.overlaps_iff]
  have conflicts (i : Fin 96) (e : MapEntry) : conflict i e ↔ s.linkValid.map.conflicts i e = true := by
    rw [State.linkValid_map, CauseMap.conflicts_iff]
  have floors : s.linkValid.engine.floors = s.engine.floors := by rw [State.linkValid_engine]
  rw [← floors]
  have listed (e : MapEntry) : s.linkValid.map.matched e = s.map.matched e := by rw [State.linkValid_map]
  refine ⟨fun index => ⟨fun bad => ?unread, fun i e hi read => ⟨fun clash => ?overlap, fun apart differs => ?conflict,
    fun apart agree => ?stores⟩⟩, fun unread => ?unreadPlace, fun e read => ⟨fun clash => ?overlapPlace,
    fun apart differs => ?conflictPlace, fun apart agree => ?places⟩⟩
  case unread =>
    refine congrArg Host.Outcome.next (State.takeRequest_refuse ?_)
    rcases bad with big | unread
    · rw [serveMapWrite, index?_none_iff.2 big, State.writeEntry_noIndex]
    · exact State.writeEntry_unread unread _
  case overlap =>
    refine congrArg Host.Outcome.next (State.takeRequest_refuse ?_)
    rw [serveMapWrite, index?_some_iff.2 hi, State.writeEntry_overlap read ((overlaps i e).1 clash)]
  case conflict =>
    refine congrArg Host.Outcome.next (State.takeRequest_refuse ?_)
    rw [serveMapWrite, index?_some_iff.2 hi,
      State.writeEntry_conflict read (fun clash => apart ((overlaps i e).2 clash)) ((conflicts i e).1 differs)]
  case stores =>
    have served : serveMapWrite index raw s.linkValid =
        accept [byte (s.map.matched e).length] (s.linkValid.storeEntry i e false).2 := by
      rw [serveMapWrite, index?_some_iff.2 hi, State.writeEntry_stores read (fun clash => apart ((overlaps i e).2 clash))
        (fun differs => agree ((conflicts i e).2 differs)), listed]
      rfl
    obtain ⟨map, rest⟩ := s.stored i e false 0x20 [byte (s.map.matched e).length]
    refine ⟨_, congrArg Host.Outcome.next (State.takeRequest_accept (code := 0x20) served), map, rfl, rest, fun none => ?_⟩
    exact CauseMap.matched_nil_iff none ▸ State.stored_unmatched none _
  case unreadPlace =>
    exact congrArg Host.Outcome.next (State.takeRequest_refuse (State.writeEntry_unread unread _))
  case overlapPlace =>
    refine congrArg Host.Outcome.next (State.takeRequest_refuse ?_)
    rw [serveMapPlace, State.writeEntry_overlap read]
    exact (overlaps _ e).1 (by rwa [State.linkValid_map])
  case conflictPlace =>
    refine congrArg Host.Outcome.next (State.takeRequest_refuse ?_)
    rw [serveMapPlace, State.linkValid_map,
      State.writeEntry_conflict read (fun clash => apart ((overlaps _ e).2 clash)) ((conflicts _ e).1 differs)]
  case places =>
    have served : serveMapPlace raw s.linkValid =
        accept [byte s.map.cursor.val, byte (s.map.matched e).length] (s.linkValid.storeEntry s.map.cursor e true).2 := by
      rw [serveMapPlace, State.linkValid_map, State.writeEntry_stores read (fun clash => apart ((overlaps _ e).2 clash))
        (fun differs => agree ((conflicts _ e).2 differs)), listed]
      rfl
    obtain ⟨map, rest⟩ := s.stored s.map.cursor e true 0x21 [byte s.map.cursor.val, byte (s.map.matched e).length]
    refine ⟨_, congrArg Host.Outcome.next (State.takeRequest_accept (code := 0x21) served), ?_, ?_, rfl, rest, fun none => ?_⟩
    · rw [map]
      rfl
    · rw [map]
      exact CauseMap.store_cursor s.map s.map.cursor e
    · exact CauseMap.matched_nil_iff none ▸ State.stored_unmatched none _

end Sys2Proof.Machine
end

section
/-! SUPPORT. The entry to AUTONOMOUS mode (R34, R75, R179) and the take of a report (R10, R27 to R30). -/

namespace Sys2Proof.Machine

open Sys2Proof

/-! ### Every INVESTIGATING incident enters PHASED (R75) -/

/-- What the entry to AUTONOMOUS mode does to one slot. -/
def Engine.phaseSlot (now : Tick) (e : Engine) (k : Fin 32) : Engine :=
  match e.slots[k].incident with
  | some i =>
    match i.stage with
    | .investigating _ _ => e.put now k i (e.phasedEntry i)
    | _ => e
  | none => e

theorem Engine.autonomousEntry_eq (e : Engine) (now : Tick) : e.autonomousEntry now = e.ages.foldl (Engine.phaseSlot now) e := by
  unfold Engine.autonomousEntry
  congr 1
  funext f k
  unfold Engine.phaseSlot
  simp only [Incident.enterPhased_eq]
    <;> rfl

theorem Engine.phasedEntry_not_investigating (e : Engine) (i : Incident) :
    (e.phasedEntry i).stage.name ≠ .investigating := by
  intro named
  have claiming := Stage.claiming_iff.1 (e.phasedEntry_claiming i)
  rw [named] at claiming
  rcases claiming with phased | general
  · cases phased
  · cases general

section PhaseSlot
variable {now : Tick} {e : Engine} {j k : Fin 32}

theorem Engine.phaseSlot_investigating {i : Incident} (live : e.slots[k].incident = some i)
    (investigating : i.stage.name = .investigating) : e.phaseSlot now k = { e with
      slots := e.slots.set k { e.slots[k] with incident := some { e.phasedEntry i with changedAt := now } }
      changed := addMember k e.changed } := by
  have moved : e.phasedEntry i ≠ i := fun same =>
    e.phasedEntry_not_investigating i (by rw [same, investigating])
  rw [Engine.phaseSlot, live]
  obtain ⟨q, n, stage⟩ : ∃ q n, i.stage = .investigating q n := by
    cases stage : i.stage with
    | investigating q n => exact ⟨q, n, rfl⟩
    | _ => rw [stage] at investigating; cases investigating
  dsimp only
  rw [stage]
  exact Engine.put_of_ne now moved

theorem Engine.phaseSlot_idle (idle : ∀ i, e.slots[k].incident = some i → i.stage.name ≠ .investigating) :
    e.phaseSlot now k = e := by
  rw [Engine.phaseSlot]
  cases live : e.slots[k].incident with
  | none => rfl
  | some i =>
    dsimp only
    split
    · next stage => exact absurd (by rw [stage]; rfl) (idle i live)
    · rfl

theorem Engine.phaseSlot_cases (now : Tick) (e : Engine) (k : Fin 32) :
    e.phaseSlot now k = e ∨ ∃ x, e.phaseSlot now k = { e with slots := e.slots.set k x, changed := addMember k e.changed } := by
  by_cases idle : ∀ i, e.slots[k].incident = some i → i.stage.name ≠ .investigating
  · exact .inl (Engine.phaseSlot_idle idle)
  · push Not at idle
    obtain ⟨i, live, investigating⟩ := idle
    exact .inr ⟨_, Engine.phaseSlot_investigating live investigating⟩

theorem Engine.phaseSlot_frame (now : Tick) (e : Engine) (k : Fin 32) :
    e.phaseSlot now k = { e with slots := (e.phaseSlot now k).slots, changed := (e.phaseSlot now k).changed } := by
  rcases e.phaseSlot_cases now k with same | ⟨x, moved⟩
  · rw [same]
  · rw [moved]

theorem Engine.phaseSlot_other (other : k ≠ j) : (e.phaseSlot now j).slots[k] = e.slots[k] ∧
    (k ∈ (e.phaseSlot now j).changed ↔ k ∈ e.changed) := by
  rcases e.phaseSlot_cases now j with same | ⟨x, moved⟩
  · rw [same]
    exact ⟨rfl, Iff.rfl⟩
  · rw [moved]
    exact ⟨Vector.getElem_set_ne j.isLt k.isLt fun same => other (Fin.ext same.symm),
      (mem_addMember j k e.changed).trans (or_iff_right other)⟩

end PhaseSlot

section Entry
variable (now : Tick)

theorem Engine.phaseSlots_frame (l : List (Fin 32)) (e : Engine) :
    l.foldl (Engine.phaseSlot now) e =
      { e with slots := (l.foldl (Engine.phaseSlot now) e).slots, changed := (l.foldl (Engine.phaseSlot now) e).changed } := by
  induction l generalizing e with
  | nil => rfl
  | cons k l ih =>
    rw [List.foldl_cons, ih, Engine.phaseSlot_frame]

/-- A slot outside the list, or without an investigation, stays as it is. -/
theorem Engine.phaseSlots_idle {k : Fin 32} {l : List (Fin 32)} {e : Engine}
    (idle : k ∉ l ∨ ∀ i, e.slots[k].incident = some i → i.stage.name ≠ .investigating) :
    (l.foldl (Engine.phaseSlot now) e).slots[k] = e.slots[k] ∧
      (k ∈ (l.foldl (Engine.phaseSlot now) e).changed ↔ k ∈ e.changed) := by
  induction l generalizing e with
  | nil => exact ⟨rfl, Iff.rfl⟩
  | cons j l ih =>
    rw [List.foldl_cons]
    by_cases same : k = j
    · subst same
      have quiet := idle.resolve_left (not_not.2 (List.mem_cons_self ..))
      rw [Engine.phaseSlot_idle quiet]
      exact ih (.inr quiet)
    · obtain ⟨slot, changed⟩ := Engine.phaseSlot_other (now := now) (e := e) same
      obtain ⟨slot', changed'⟩ := ih (e := e.phaseSlot now j)
        (idle.imp (fun outside listed => outside (List.mem_cons_of_mem _ listed)) fun quiet => by rwa [slot])
      exact ⟨slot'.trans slot, changed'.trans changed⟩

theorem Engine.phasedEntry_phaseSlot (e : Engine) (j : Fin 32) (i : Incident) :
    (e.phaseSlot now j).phasedEntry i = e.phasedEntry i := by
  rw [Engine.phaseSlot_frame]
  rfl

/-- An investigation in a slot listed enters PHASED. -/
theorem Engine.phaseSlots_investigating {k : Fin 32} {l : List (Fin 32)} {e : Engine} {i : Incident} (listed : k ∈ l)
    (live : e.slots[k].incident = some i) (investigating : i.stage.name = .investigating) :
    (l.foldl (Engine.phaseSlot now) e).slots[k] =
        { e.slots[k] with incident := some { e.phasedEntry i with changedAt := now } } ∧
      k ∈ (l.foldl (Engine.phaseSlot now) e).changed := by
  induction l generalizing e with
  | nil => cases listed
  | cons j l ih =>
    rw [List.foldl_cons]
    by_cases same : k = j
    · subst same
      have entered : (e.phaseSlot now k).slots[k] =
          { e.slots[k] with incident := some { e.phasedEntry i with changedAt := now } } := by
        rw [Engine.phaseSlot_investigating live investigating]
        exact Vector.getElem_set_self k.isLt
      have joined : k ∈ (e.phaseSlot now k).changed := by
        rw [Engine.phaseSlot_investigating live investigating]
        exact (mem_addMember k k _).2 (.inl rfl)
      obtain ⟨slot, changed⟩ := Engine.phaseSlots_idle now (l := l) (e := e.phaseSlot now k) (k := k) (.inr fun x stands => by
        rw [entered] at stands
        obtain rfl := Option.some.inj stands
        exact e.phasedEntry_not_investigating i)
      exact ⟨slot.trans entered, changed.2 joined⟩
    · obtain ⟨slot, -⟩ := Engine.phaseSlot_other (now := now) (e := e) same
      obtain ⟨entered, joined⟩ := ih (e := e.phaseSlot now j) ((List.mem_cons.1 listed).resolve_left same) (by rwa [slot])
      rw [slot, Engine.phasedEntry_phaseSlot] at entered
      exact ⟨entered, joined⟩

end Entry

/-- The engine after the flush and the entry to PHASED (R34, R75). -/
theorem State.enterAutonomous_engine (s : State) :
    s.enterAutonomous.engine = ((s.map.misses.flatMap fun x => x.reports s.map.defaultBinding).foldl
      (fun e r => e.takeReport s.now true r) s.engine).autonomousEntry s.now := by
  have everything : (s.map.misses.filter fun _ => true) = s.map.misses := List.filter_true _
  rw [State.enterAutonomous, State.engineEvent_engine, State.flushMisses, State.resolveMisses_now,
    State.resolveMisses_engine]
  simp only [State.setLink_map, everything]
  rfl

/-- Settles O16: the flush as bound reports one after another, then the entry to PHASED slot by slot. -/
theorem supervisionExpiry : Obligations.SupervisionExpiry := by
  unfold Obligations.SupervisionExpiry
  intro s
  refine ⟨fun linked zero => ?expires, fun idle => ?idle⟩
  case expires =>
    have fires : exec .supervisionTimerExpiry s = .next s.enterAutonomous := by
      change execSupervisionTimerExpiry s = _
      unfold execSupervisionTimerExpiry
      rw [linked, zero]
      rfl
    have entered := s.enterAutonomous_engine
    rw [Engine.autonomousEntry_eq] at entered
    refine ⟨_, fires, ?link, ?map, ⟨?frame, fun k => ⟨fun i listed live investigating => ?phased, fun quiet => ?kept⟩⟩, ?_, ?_,
      ?_, ?_, ?_, ?_, ?_⟩
    case link => rw [State.enterAutonomous, State.engineEvent_link, State.flushMisses, State.resolveMisses_link]; rfl
    case map =>
      rw [State.enterAutonomous, State.engineEvent_map, State.flushMisses, State.resolveMisses_map]
      simp only [Bool.not_true, List.filter_false]
      rfl
    case frame =>
      rw [entered]
      exact Engine.phaseSlots_frame s.now _ _
    case phased =>
      rw [entered]
      exact Engine.phaseSlots_investigating s.now listed live investigating
    case kept =>
      rw [entered]
      exact Engine.phaseSlots_idle s.now quiet
    all_goals simp [State.enterAutonomous, State.flushMisses, State.resolveMisses_configs]
  case idle =>
    change execSupervisionTimerExpiry s = _
    unfold execSupervisionTimerExpiry
    split
    · next linked zero =>
      rcases idle with autonomous | running
      · rw [linked] at autonomous
        cases autonomous
      · exact absurd zero running
    · rfl

/-! ### A report handed to the engine (R47, R96, R111) -/

theorem Engine.entered_tells {e e' : Engine} (entered : e.entered e' = true) : e.tells e' = true := by
  obtain ⟨k, i, stands, claiming, idle⟩ := Engine.entered_iff.1 entered
  refine Engine.tells_of_slotKey_ne (k := k) fun same => ?_
  rw [Engine.slotKey, Engine.slotKey, stands, Option.map_some] at same
  obtain ⟨old, live, key⟩ := Option.map_eq_some_iff.1 same
  have name : old.stage.name = i.stage.name := congrArg Prod.fst key
  have alarm := Stage.alarm_of_claiming claiming
  have quiet := idle old live
  rw [Stage.alarm_iff, ← name, ← Stage.alarm_iff, quiet] at alarm
  cases alarm

theorem Engine.saturates_iff {e : Engine} {r : BoundReport} : e.saturates r = true ↔
    r.kind = .alarm ∧ ∀ k : Fin 32, ∃ i, e.slots[k].incident = some i ∧ i.zone ≠ r.binding.zone := by
  simp only [Engine.saturates, Bool.and_eq_true, decide_eq_true_eq, Option.isNone_iff_eq_none, Engine.findZone_none_iff,
    Engine.freeSlot_none_iff, and_assoc]
  refine and_congr_right fun _ => ⟨fun ⟨apart, full⟩ k => ?_, fun each => ⟨fun k i live => ?_, fun k => ?_⟩⟩
  · obtain ⟨i, live⟩ := Option.ne_none_iff_exists'.1 (full k)
    exact ⟨i, live, apart k i live⟩
  · obtain ⟨x, stands, apart⟩ := each k
    rw [stands] at live
    exact Option.some.inj live ▸ apart
  · obtain ⟨x, stands, -⟩ := each k
    rw [stands]
    exact Option.some_ne_none x

theorem State.boundReport_eq (s : State) (r : BoundReport) : ∃ n, s.boundReport r =
    (s.setNotices n).engineEvent (s.engine.takeReport s.now s.autonomous r) := by
  unfold State.boundReport
  dsimp only
  split
  · exact ⟨_, rfl⟩
  · exact ⟨s.notices, rfl⟩

/-- The test claims fall where an incident enters an alarm stage or the saturation flag is newly set (R111). -/
theorem State.boundReport_withdraws {s : State} {r : BoundReport}
    (alarming : s.engine.entered (s.boundReport r).engine = true ∨
      ((s.boundReport r).engine.saturated = true ∧ s.engine.saturated = false)) (z : Fin 48) :
    (s.boundReport r).resolver.tests[z] = none := by
  rw [State.boundReport_engine] at alarming
  have told : s.engine.tells (s.engine.takeReport s.now s.autonomous r) = true := by
    rcases alarming with entered | ⟨set, clear⟩
    · exact Engine.entered_tells entered
    · exact Engine.tells_of_saturated_ne (by rw [set, clear]; exact Bool.false_ne_true)
  obtain ⟨n, eq⟩ := s.boundReport_eq r
  rw [eq]
  exact State.engineEvent_withdraws (s := s.setNotices n) told (alarming.imp_right And.left) z

theorem State.boundReport_tests {s : State} {r : BoundReport} (quiet : s.engine.entered (s.boundReport r).engine = false)
    (flag : (s.boundReport r).engine.saturated = false) : (s.boundReport r).resolver.tests = s.resolver.tests := by
  rw [State.boundReport_engine] at quiet flag
  obtain ⟨n, eq⟩ := s.boundReport_eq r
  rw [eq]
  exact State.engineEvent_tests (s := s.setNotices n) quiet flag

theorem State.boundReport_saturation (s : State) (r : BoundReport) :
    (s.boundReport r).notices.saturation = true ↔ s.notices.saturation = true ∨ s.engine.saturates r = true := by
  rw [(s.boundReport_soundChange r).saturation]
  split
  · next saturates => exact iff_of_true rfl (.inr saturates)
  · next quiet => exact (or_iff_left quiet).symm

theorem State.boundReport_bindingMiss (s : State) (r : BoundReport) :
    (s.boundReport r).notices.bindingMiss = s.notices.bindingMiss := by
  rw [(s.boundReport_soundChange r).bindingMiss]
  split <;> rfl

/-- What the take of a report hands to the engine, from a state that differs in the receivers, the map and BINDING_MISS. -/
theorem State.boundReport_reported {s u : State} (now : u.now = s.now) (engine : u.engine = s.engine)
    (link : u.link = s.link) (resolver : u.resolver = s.resolver) (saturation : u.notices.saturation = s.notices.saturation)
    (r : BoundReport) : s.Reported (u.boundReport r) r where
  engine := by
    rw [State.boundReport_engine, State.autonomous, now, engine, link]
    rfl
  saturation := by rw [State.boundReport_saturation, saturation, engine, Engine.saturates_iff]
  withdrawn alarming := by
    refine State.boundReport_withdraws ?_
    rw [engine]
    refine alarming.imp_left fun ⟨k, i, stands, claiming, idle⟩ => ?_
    exact Engine.entered_iff.2 ⟨k, i, stands, Stage.claiming_iff.2 claiming, fun old live => Stage.not_alarm_iff.2 (idle old live)⟩
  kept alarming flag := by
    refine (State.boundReport_tests ?_ flag).trans (congrArg Resolver.tests resolver)
    rw [engine, ← Bool.not_eq_true, Engine.entered_iff]
    rintro ⟨k, i, stands, claiming, idle⟩
    obtain ⟨old, live, alarm⟩ := alarming k i stands (Stage.claiming_iff.1 claiming)
    have quiet := idle old live
    rw [Stage.alarm_iff.2 alarm] at quiet
    cases quiet

/-! ### The take (R10, R27 to R30) -/

theorem CauseMap.takeDue_iff {m : CauseMap} {moment : Nat} :
    m.takeDue moment = true ↔ ∀ t, m.lastTake = some t → t + 3000000 ≤ moment := by
  unfold CauseMap.takeDue
  cases m.lastTake with
  | none => simp
  | some t => 
    simp only [Config.takeNs, Option.some.injEq, forall_eq']
    exact decide_eq_true_iff

theorem takeTurn_lt_iff (last i j : Fin 4) :
    turnDistance last i < turnDistance last j ↔ (i.val + 3 - last.val) % 4 < (j.val + 3 - last.val) % 4 := by
  unfold turnDistance
  simp only [Fin.lt_def]
  split_ifs <;> omega

theorem State.takeLoop_none {s : State} (empty : ∀ l : Fin 4, s.loops[l].buffer = []) : s.takeLoop = none :=
  firstAfter_none_iff.2 fun l => by rw [empty l]; rfl

theorem State.Turn.takeLoop {s : State} {moment : Nat} {l : Fin 4} {r : Report} {rest : List Report}
    (turn : s.Turn moment l r rest) : s.takeLoop = some l := by
  refine firstAfter_some_iff.2 ⟨by rw [turn.buffer]; rfl, fun j sooner => ?_⟩
  rw [turn.passed j ((takeTurn_lt_iff _ _ _).1 sooner)]
  rfl

/-- The state with a report taken out of its buffer, before its fate is decided. -/
def State.takenOut (s : State) (moment : Nat) (l : Fin 4) (rest : List Report) : State :=
  (s.setLoops (s.loops.set l { s.loops[l] with buffer := rest })).onMap fun m =>
    { m.moveCursor with lastLoop := l, lastTake := some moment }

theorem exec_reportTake_idle {moment : Nat} {s : State}
    (idle : (∃ n, s.map.lastTake = some n ∧ moment < n + 3000000) ∨ ∀ l : Fin 4, s.loops[l].buffer = []) :
    exec (.reportTake moment) s = .next s := by
  change execReportTake moment s = _
  unfold execReportTake
  split
  · next due turn =>
    rcases idle with ⟨n, last, early⟩ | empty
    · exact absurd (CauseMap.takeDue_iff.1 due n last) (Nat.not_le.2 early)
    · rw [State.takeLoop_none empty] at turn
      cases turn
  · rfl

section Turn
variable {s : State} {moment : Nat} {l : Fin 4} {r : Report} {rest : List Report} (turn : s.Turn moment l r rest)
include turn

theorem State.Turn.exec : exec (.reportTake moment) s = .next ((s.takenOut moment l rest).lookupReport r) := by
  change execReportTake moment s = _
  unfold execReportTake State.takeFrom
  rw [CauseMap.takeDue_iff.2 turn.due, turn.takeLoop]
  dsimp only
  rw [turn.buffer]
  rfl

end Turn

section Fate
variable {s : State} {moment : Nat} {l : Fin 4} {r : Report} {rest : List Report}

theorem Report.waits_iff {r : Report} {misses : List Miss} : (misses.any fun x => x.isFor r.loop r.address) = true ↔
    ∃ x ∈ misses, x.loop = r.loop ∧ x.address = r.address := by
  simp only [List.any_eq_true, Miss.isFor_iff]

theorem State.lookupReport_merges (waits : ∃ x ∈ s.map.misses, x.loop = r.loop ∧ x.address = r.address) :
    s.lookupReport r = s.onMap fun m => m.merge r :=
  if_pos (Report.waits_iff.2 waits)

section New
variable (new : ∀ x ∈ s.map.misses, ¬ (x.loop = r.loop ∧ x.address = r.address))
include new

theorem State.lookupReport_new : s.lookupReport r =
    match s.map.lookup r.loop r.address.toNat with
    | some i =>
      s.boundReport { loop := r.loop, address := r.address, kind := r.kind, binding := s.map.entries[i].binding }
    | none =>
      if s.autonomous then
        s.boundReport { loop := r.loop, address := r.address, kind := r.kind, binding := s.map.defaultBinding }
      else s.newMiss r := by
  refine (if_neg fun waits => ?_).trans ?_
  · obtain ⟨x, listed, device⟩ := Report.waits_iff.1 waits
    exact new x listed device
  · cases s.map.lookup r.loop r.address.toNat <;> rfl

theorem State.lookupReport_hit {i : Fin 96} (hit : s.map.lookup r.loop r.address.toNat = some i) :
    s.lookupReport r =
      s.boundReport { loop := r.loop, address := r.address, kind := r.kind, binding := s.map.entries[i].binding } := by
  rw [State.lookupReport_new new, hit]

theorem State.lookupReport_autonomous (missed : s.map.lookup r.loop r.address.toNat = none)
    (autonomous : s.autonomous = true) : s.lookupReport r =
      s.boundReport { loop := r.loop, address := r.address, kind := r.kind, binding := s.map.defaultBinding } := by
  rw [State.lookupReport_new new, missed]
  exact if_pos autonomous

theorem State.lookupReport_missed (missed : s.map.lookup r.loop r.address.toNat = none)
    (linked : s.autonomous = false) : s.lookupReport r = s.newMiss r := by
  rw [State.lookupReport_new new, missed]
  exact if_neg (by rw [linked]; exact Bool.false_ne_true)

end New

theorem State.newMiss_room (room : s.map.misses.length < 4) :
    s.newMiss r = (s.setNotices s.notices.raiseBindingMiss).onMap fun m => { m with
      misses := m.misses ++
        [{ loop := r.loop, address := r.address, first := r.kind, last := r.kind, deadline := m.deadline }] } :=
  if_pos room

theorem State.newMiss_full (full : 4 ≤ s.map.misses.length) :
    s.newMiss r = (s.setNotices s.notices.raiseBindingMiss).boundReport
      { loop := r.loop, address := r.address, kind := r.kind, binding := s.map.defaultBinding } :=
  if_neg (Nat.not_lt.2 full)

/-- What a take leaves of the map where the miss list becomes the one given (R10, R21). -/
theorem State.takenOut_taken (rest : List Report) {t : State} {misses : List Miss}
    (map : t.map = { (s.takenOut moment l rest).map with misses := misses }) : s.Taken moment l t misses := by
  have cursor : t.map.cursor = s.map.moveCursor.cursor := by rw [map]; rfl
  refine ⟨?_, ?_⟩
  · rw [cursor, map]
    rfl
  · rw [cursor]
    exact apply_ite Fin.val (s.map.cursor.val ≤ s.map.wired.val) 95 _

theorem State.takenOut_reported (b : BoundReport) : s.Reported ((s.takenOut moment l rest).boundReport b) b :=
  State.boundReport_reported (s := s) (u := s.takenOut moment l rest) rfl rfl rfl rfl rfl b

end Fate

/-- Nothing outside the engine's reach has changed but the map, and the notice set. -/
structure State.TakeFrame (s t : State) : Prop where
  loops : t.loops = s.loops
  now : t.now = s.now
  sessions : t.sessions = s.sessions
  scanner : t.scanner = s.scanner
  link : t.link = s.link
  pins : t.pins = s.pins
  pending : t.pending = s.pending
  configs : t.resolver.configs = s.resolver.configs

theorem State.boundReport_frame (s : State) (r : BoundReport) : s.TakeFrame (s.boundReport r) := by
  constructor <;> simp

theorem State.newMiss_frame (s : State) (r : Report) : s.TakeFrame (s.newMiss r) := by
  unfold State.newMiss
  dsimp only
  split
  · exact ⟨rfl, rfl, rfl, rfl, rfl, rfl, rfl, rfl⟩
  · constructor <;> simp

theorem State.lookupReport_frame (s : State) (r : Report) : s.TakeFrame (s.lookupReport r) := by
  unfold State.lookupReport
  split
  · exact ⟨rfl, rfl, rfl, rfl, rfl, rfl, rfl, rfl⟩
  · split
    · exact s.boundReport_frame _
    · split
      · exact s.boundReport_frame _
      · exact s.newMiss_frame r

/-- Settles O23, by the fate of the report taken: merged, hit, or missed. -/
theorem reportTakeRule : Obligations.ReportTakeRule := by
  unfold Obligations.ReportTakeRule
  refine ⟨fun moment s => ⟨exec_reportTake_idle, fun l r rest turn => ?known⟩, fun moment s l r rest turn new unmatched => ?unknown⟩
  case known =>
    have frame := (s.takenOut moment l rest).lookupReport_frame r
    refine ⟨_, turn.exec, frame.loops, frame.now, frame.sessions, frame.scanner, frame.link, frame.pins, frame.pending,
      frame.configs, fun waits => ?merged, fun new i hit first => ?hit⟩
    case merged =>
      rw [State.lookupReport_merges (s := s.takenOut moment l rest) waits]
      refine ⟨State.takenOut_taken rest ?_, rfl, rfl, rfl, rfl⟩
      simp only [State.onMap, State.setMap_map, CauseMap.merge, Miss.isFor_iff]
      rfl
    case hit =>
      have found : (s.takenOut moment l rest).map.lookup r.loop r.address.toNat = some i :=
        CauseMap.lookup_some_iff.2 ⟨hit, first⟩
      rw [State.lookupReport_hit (s := s.takenOut moment l rest) new found]
      exact ⟨State.takenOut_taken rest (State.boundReport_map _ _), State.takenOut_reported _⟩
  case unknown =>
    intro bound
    have missed : (s.takenOut moment l rest).map.lookup r.loop r.address.toNat = none := CauseMap.lookup_none_iff.2 unmatched
    have mode : (s.takenOut moment l rest).autonomous = decide (s.link.mode = .autonomous) := rfl
    refine ⟨_, turn.exec, fun linked room => ?room, fun linked full => ?full, fun autonomous => ?autonomous⟩
    case room =>
      rw [State.lookupReport_missed (s := s.takenOut moment l rest) new missed (by rw [mode, linked]; rfl),
        State.newMiss_room (s := s.takenOut moment l rest) room]
      exact ⟨State.takenOut_taken rest rfl, rfl⟩
    case full =>
      rw [State.lookupReport_missed (s := s.takenOut moment l rest) new missed (by rw [mode, linked]; rfl),
        State.newMiss_full (s := s.takenOut moment l rest) full]
      refine ⟨State.takenOut_taken rest (State.boundReport_map _ _), ?_, ?_⟩
      · exact State.boundReport_bindingMiss _ _
      · exact State.boundReport_reported (s := s)
          (u := (s.takenOut moment l rest).setNotices (s.takenOut moment l rest).notices.raiseBindingMiss) rfl rfl rfl rfl rfl _
    case autonomous =>
      rw [State.lookupReport_autonomous (s := s.takenOut moment l rest) new missed (by rw [mode, autonomous]; rfl)]
      refine ⟨State.takenOut_taken rest (State.boundReport_map _ _), ?_, State.takenOut_reported _⟩
      exact State.boundReport_bindingMiss _ _

end Sys2Proof.Machine
end

section
/-! SUPPORT. The tick: timer by timer, sample by sample, and the events that fall due at it (00, Time). -/

namespace Sys2Proof.Machine

open Sys2Proof

/-! ### The events that fall due -/

/-- The two events a slot can bring: the expiry of a step timer and that of an investigation timer that runs. -/
theorem Slot.mem_due_iff {x : Slot} {k : Fin 32} {c : Instr} : c ∈ x.due k ↔
    (∃ i, x.incident = some i ∧ i.stage = .phased (some 0) ∧ c = .stepTimerExpiry k) ∨
    (∃ i p, x.incident = some i ∧ i.stage = .investigating p 0 ∧ i.allClear = false ∧ c = .investigationTimerExpiry k) := by
  unfold Slot.due
  cases live : x.incident with
  | none => simp
  | some i =>
    dsimp only
    split
    · next p stage =>
      cases clear : i.allClear <;> simp [stage, clear]
    · next stage => simp [stage]
    · next notInvestigating notPhased =>
      refine iff_of_false List.not_mem_nil ?_
      rintro (⟨j, same, stage, -⟩ | ⟨j, p, same, stage, -⟩)
      · exact notPhased (Option.some.inj same ▸ stage)
      · exact notInvestigating p (Option.some.inj same ▸ stage)

theorem State.mem_visitDue_iff {s : State} {c : Instr} : c ∈ s.visitDue ↔
    (s.scanner.visit.isSome = true ∧ c = .visitEnd s.pins.cls1 s.pins.cls0) ∨
    (s.scanner.visit = none ∧ s.nextLine.isSome = true ∧ c = .visitStart) := by
  unfold State.visitDue
  cases s.scanner.visit with
  | some v => simp
  | none => cases s.nextLine <;> simp

theorem State.mem_due_iff {before s : State} {c : Instr} : c ∈ State.due before s ↔
    (∃ l : Fin 4, s.loops[l].due = true ∧ c = .silenceTimerExpiry l) ∨
    (∃ x ∈ s.map.misses, x.deadline = 0 ∧ c = .deadlineExpiry x.loop x.address) ∨
    (∃ k : Fin 32, c ∈ s.engine.slots[k].due k) ∨
    (∃ i : Fin 12, before.audio.amps[i].fifth s.pins.ampFaultLow[i] = true ∧ c = .debouncedFaultChange i) ∨
    (∃ m : Mic, s.sessions.due m = true ∧ c = .talkTimerExpiry m) ∨
    (s.link.due = true ∧ c = .supervisionTimerExpiry) ∨
    c ∈ s.visitDue := by
  have mics (m : Mic) : m ∈ [Mic.fireService, Mic.management] := by cases m <;> decide
  have link : c ∈ (if s.link.due then [Instr.supervisionTimerExpiry] else []) ↔
      s.link.due = true ∧ c = .supervisionTimerExpiry := by
    split <;> simp_all
  simp only [State.due, List.mem_append, link, List.mem_map, List.mem_filter, List.mem_flatten, List.mem_finRange, mics,
    true_and, decide_eq_true_eq, or_assoc, and_assoc, eq_comm (b := c), exists_exists_eq_and]

section Each
variable {before s : State}

theorem State.silenceTimer_mem_due {l : Fin 4} :
    .silenceTimerExpiry l ∈ State.due before s ↔ s.loops[l].due = true := by
  simp [State.mem_due_iff, Slot.mem_due_iff, State.mem_visitDue_iff]

theorem State.deadline_mem_due {l : Fin 4} {a : Byte} : .deadlineExpiry l a ∈ State.due before s ↔
    ∃ x ∈ s.map.misses, x.deadline = 0 ∧ l = x.loop ∧ a = x.address := by
  simp [State.mem_due_iff, Slot.mem_due_iff, State.mem_visitDue_iff]

theorem State.stepTimer_mem_due {k : Fin 32} : .stepTimerExpiry k ∈ State.due before s ↔
    ∃ i, s.engine.slots[k].incident = some i ∧ i.stage = .phased (some 0) := by
  simp [State.mem_due_iff, Slot.mem_due_iff, State.mem_visitDue_iff]

theorem State.investigationTimer_mem_due {k : Fin 32} : .investigationTimerExpiry k ∈ State.due before s ↔
    ∃ i p, s.engine.slots[k].incident = some i ∧ i.stage = .investigating p 0 ∧ i.allClear = false := by
  simp [State.mem_due_iff, Slot.mem_due_iff, State.mem_visitDue_iff]

theorem State.faultChange_mem_due {i : Fin 12} : .debouncedFaultChange i ∈ State.due before s ↔
    before.audio.amps[i].fifth s.pins.ampFaultLow[i] = true := by
  simp [State.mem_due_iff, Slot.mem_due_iff, State.mem_visitDue_iff]

theorem State.talkTimer_mem_due {m : Mic} : .talkTimerExpiry m ∈ State.due before s ↔ s.sessions.due m = true := by
  simp [State.mem_due_iff, Slot.mem_due_iff, State.mem_visitDue_iff]

theorem State.supervisionTimer_mem_due : .supervisionTimerExpiry ∈ State.due before s ↔ s.link.due = true := by
  simp [State.mem_due_iff, Slot.mem_due_iff, State.mem_visitDue_iff]

theorem State.visitEnd_mem_due {a b : Bool} : .visitEnd a b ∈ State.due before s ↔
    s.scanner.visit.isSome = true ∧ a = s.pins.cls1 ∧ b = s.pins.cls0 := by
  simp [State.mem_due_iff, Slot.mem_due_iff, State.mem_visitDue_iff]

theorem State.visitStart_mem_due : .visitStart ∈ State.due before s ↔
    s.scanner.visit = none ∧ s.nextLine.isSome = true := by
  simp [State.mem_due_iff, Slot.mem_due_iff, State.mem_visitDue_iff]

end Each

/-! ### One tick on -/

theorem step_tick {s : State} (empty : s.pending = []) : step s = .next s.tick := by
  unfold step
  rw [empty]

theorem State.tick_pending {s : State} (empty : s.pending = []) : s.tick.pending = State.due s s.advance := by
  change s.pending ++ State.due s s.advance = _
  rw [empty, List.nil_append]

theorem State.advance_loop (s : State) (l : Fin 4) : s.advance.loops[l] = s.loops[l].tick := by
  change (Vector.ofFn fun l : Fin 4 => s.loops[l].tick)[l] = _
  simp only [Fin.getElem_fin, Vector.getElem_ofFn]

theorem Engine.tick_slot (e : Engine) (k : Fin 32) :
    e.tick.slots[k] = { e.slots[k] with incident := e.slots[k].incident.map Incident.tick } := by
  simp only [Engine.tick, Fin.getElem_fin, Vector.getElem_ofFn]

theorem Receiver.due_iff {r : Receiver} :
    r.due = true ↔ (r.state = .awaiting ∨ r.state = .live) ∧ r.timer = some 0 := by
  simp only [Receiver.due, Bool.and_eq_true, Bool.or_eq_true, decide_eq_true_eq]

/-- A timer that falls to 0 at the tick. -/
theorem falls_to_zero_iff {x : Option Nat} : x.map (fun n => n - 1) = some 0 ↔ ∃ n, x = some n ∧ n ≤ 1 := by
  rw [Option.map_eq_some_iff]
  exact exists_congr fun n => and_congr_right fun _ => Nat.sub_eq_zero_iff_le

theorem Receiver.due_tick {r : Receiver} : r.tick.due = true ↔
    (r.state = .awaiting ∨ r.state = .live) ∧ ∃ n, r.timer = some n ∧ n ≤ 1 :=
  Receiver.due_iff.trans (and_congr Iff.rfl falls_to_zero_iff)

theorem Link.due_iff {l : Link} : l.due = true ↔ l.mode = .linked ∧ l.supervision = some 0 := by
  simp only [Link.due, Bool.and_eq_true, decide_eq_true_eq]

theorem Link.due_tick {l : Link} : l.tick.due = true ↔ l.mode = .linked ∧ ∃ n, l.supervision = some n ∧ n ≤ 1 :=
  Link.due_iff.trans (and_congr Iff.rfl falls_to_zero_iff)

theorem Sessions.due_iff {x : Sessions} {m : Mic} : x.due m = true ↔ ∃ y, x.of m = some y ∧ y.timer = 0 := by
  simp only [Sessions.due, Option.any_eq_true, decide_eq_true_eq]

theorem Sessions.due_tick {x : Sessions} {m : Mic} : x.tick.due m = true ↔ ∃ y, x.of m = some y ∧ y.timer ≤ 1 := by
  rw [Sessions.due_iff, Sessions.of_tick]
  constructor
  · rintro ⟨z, ticked, zero⟩
    obtain ⟨y, opened, rfl⟩ := Option.map_eq_some_iff.1 ticked
    exact ⟨y, opened, Nat.sub_eq_zero_iff_le.1 zero⟩
  · rintro ⟨y, opened, low⟩
    exact ⟨y.tick, by rw [opened]; rfl, Nat.sub_eq_zero_of_le low⟩

/-! ### An incident at a tick (R59, R65) -/

section IncidentTick
variable {i : Incident}

theorem Incident.tick_phased {n : Nat} (stage : i.stage = .phased (some n)) :
    i.tick = { i with stage := .phased (some (n - 1)) } := by
  rw [Incident.tick, stage]

theorem Incident.tick_investigating {p : Phase} {n : Nat} (stage : i.stage = .investigating p n) (active : i.allClear = false) :
    i.tick = { i with stage := .investigating p (n - 1) } := by
  rw [Incident.tick, stage]
  exact if_neg (by rw [active]; exact Bool.false_ne_true)

theorem Incident.tick_paused {p : Phase} {n : Nat} (stage : i.stage = .investigating p n) (clear : i.allClear = true) :
    i.tick = i := by
  rw [Incident.tick, stage]
  exact if_pos clear

theorem Incident.tick_still (investigating : ∀ p n, i.stage ≠ .investigating p n) (phased : ∀ n, i.stage ≠ .phased (some n)) :
    i.tick = i := by
  unfold Incident.tick
  split
  · next p n stage => exact absurd stage (investigating p n)
  · next n stage => exact absurd stage (phased n)
  · rfl

/-- A timer that runs falls to 0 at the tick where it held at most 1. -/
theorem Incident.tick_stepDue : i.tick.stage = .phased (some 0) ↔ ∃ n, i.stage = .phased (some n) ∧ n ≤ 1 := by
  cases stage : i.stage with
  | investigating p n =>
    cases clear : i.allClear with
    | true => simp [Incident.tick_paused stage clear, stage]
    | false => simp [Incident.tick_investigating stage clear]
  | phased t =>
    cases t with
    | some n => simp [Incident.tick_phased stage]; omega
    | none => simp [Incident.tick, stage]
  | _ => simp [Incident.tick, stage]

theorem Incident.tick_investigationDue {p : Phase} : i.tick.stage = .investigating p 0 ∧ i.tick.allClear = false ↔
    ∃ n, i.stage = .investigating p n ∧ n ≤ 1 ∧ i.allClear = false := by
  cases stage : i.stage with
  | investigating q n =>
    cases clear : i.allClear with
    | true => simp [Incident.tick_paused stage clear, clear]
    | false =>
      rw [Incident.tick_investigating stage clear]
      constructor
      · rintro ⟨due, -⟩
        obtain ⟨rfl, zero⟩ := Stage.investigating.inj due
        exact ⟨n, rfl, Nat.sub_eq_zero_iff_le.1 zero, rfl⟩
      · rintro ⟨m, same, low, -⟩
        obtain ⟨rfl, rfl⟩ := Stage.investigating.inj same
        exact ⟨congrArg _ (Nat.sub_eq_zero_of_le low), clear⟩
  | phased t =>
    cases t with
    | some n => simp [Incident.tick_phased stage]
    | none => simp [Incident.tick, stage]
  | _ => simp [Incident.tick, stage]

end IncidentTick

/-! ### A fault line sampled (R124) -/

section Sample
variable {x : Amp} {low : Bool}

theorem Amp.sample_agrees (same : low = x.fault) : x.sample low = { x with run := 0 } := if_pos same

theorem Amp.sample_differs (differs : low ≠ x.fault) (room : x.run < 4) : x.sample low = { x with run := x.run + 1 } := by
  rw [Amp.sample, if_neg differs, satSucc_of_lt room]

theorem Amp.sample_fifth (differs : low ≠ x.fault) (four : x.run = 4) : x.sample low = x := by
  rw [Amp.sample, if_neg differs, four]
  exact congrArg (fun n => { x with run := n }) four.symm

theorem Amp.fifth_iff : x.fifth low = true ↔ low ≠ x.fault ∧ 4 ≤ x.run := by
  rw [Amp.fifth, Bool.and_eq_true, decide_eq_true_eq, decide_eq_true_eq]

end Sample

/-- Settles O2, timer by timer and sample by sample. -/
theorem emptyQueueStepIsOneTick : Obligations.EmptyQueueStepIsOneTick := by
  unfold Obligations.EmptyQueueStepIsOneTick
  intro s empty
  refine ⟨s.tick, step_tick empty, rfl, s.advance_loop, rfl, s.sessions.of_tick, rfl, rfl, rfl, s.audio.tick_players s.pins, rfl,
    rfl, rfl, rfl, fun k => ?slots, fun i => ?amps⟩
  case slots =>
    have slot : s.tick.engine.slots[k] = { s.engine.slots[k] with incident := s.engine.slots[k].incident.map Incident.tick } :=
      s.engine.tick_slot k
    rw [slot]
    refine ⟨rfl, fun free => by rw [free]; rfl, fun i live => ?_⟩
    dsimp only
    rw [live, Option.map_some]
    refine ⟨fun n stage => congrArg some (Incident.tick_phased stage),
      fun p n stage active => congrArg some (Incident.tick_investigating stage active),
      fun p n stage clear => congrArg some (Incident.tick_paused stage clear),
      fun untimed => congrArg some (Incident.tick_still ?_ ?_), fun n stage => congrArg some (Incident.tick_still ?_ ?_)⟩
    · rintro p n stage
      rw [stage] at untimed
      cases untimed
    · rintro n stage
      rw [stage] at untimed
      cases untimed
    · rintro p m other
      rw [stage] at other
      cases other
    · rintro m other
      rw [stage] at other
      cases other
  case amps =>
    have amp : s.tick.audio.amps[i] = s.audio.amps[i].sample s.pins.ampFaultLow[i] := s.audio.tick_amps s.pins i
    rw [amp, State.tick_pending empty, State.faultChange_mem_due]
    change (_ → _ ∧ ¬ s.audio.amps[i].fifth s.pins.ampFaultLow[i] = true) ∧
      (_ → _ → _ ∧ ¬ s.audio.amps[i].fifth s.pins.ampFaultLow[i] = true) ∧
      (_ → _ → _ ∧ s.audio.amps[i].fifth s.pins.ampFaultLow[i] = true)
    rw [Amp.fifth_iff]
    exact ⟨fun same => ⟨Amp.sample_agrees same, fun fifth => fifth.1 same⟩,
      fun differs room => ⟨Amp.sample_differs differs room, fun fifth => absurd room (Nat.not_lt.2 fifth.2)⟩,
      fun differs four => ⟨Amp.sample_fifth differs four, differs, four.ge⟩⟩

/-- Settles O3, event by event. -/
theorem tickQueuesWhatFallsDue : Obligations.TickQueuesWhatFallsDue := by
  unfold Obligations.TickQueuesWhatFallsDue
  intro s empty
  refine ⟨s.tick, step_tick empty, ?_⟩
  rw [State.tick_pending empty]
  have slot (k : Fin 32) : s.advance.engine.slots[k].incident = s.engine.slots[k].incident.map Incident.tick :=
    congrArg Slot.incident (s.engine.tick_slot k)
  refine ⟨fun l => ?silence, fun l a => ?deadline, fun k => ?step, fun k => ?investigation,
    fun m => State.talkTimer_mem_due.trans Sessions.due_tick, State.supervisionTimer_mem_due.trans Link.due_tick,
    fun a b => State.visitEnd_mem_due, ?start⟩
  case silence => rw [State.silenceTimer_mem_due, State.advance_loop, Receiver.due_tick]
  case deadline =>
    rw [State.deadline_mem_due]
    constructor
    · rintro ⟨x, ticked, zero, rfl, rfl⟩
      obtain ⟨y, listed, rfl⟩ := List.mem_map.1 ticked
      exact ⟨y, listed, rfl, rfl, Nat.sub_eq_zero_iff_le.1 zero⟩
    · rintro ⟨y, listed, rfl, rfl, low⟩
      exact ⟨_, List.mem_map.2 ⟨y, listed, rfl⟩, Nat.sub_eq_zero_of_le low, rfl, rfl⟩
  case step =>
    rw [State.stepTimer_mem_due, slot]
    constructor
    · rintro ⟨x, ticked, stage⟩
      obtain ⟨i, live, rfl⟩ := Option.map_eq_some_iff.1 ticked
      obtain ⟨n, phased, low⟩ := Incident.tick_stepDue.1 stage
      exact ⟨i, n, live, phased, low⟩
    · rintro ⟨i, n, live, phased, low⟩
      exact ⟨i.tick, by rw [live]; rfl, Incident.tick_stepDue.2 ⟨n, phased, low⟩⟩
  case investigation =>
    rw [State.investigationTimer_mem_due, slot]
    constructor
    · rintro ⟨x, p, ticked, due⟩
      obtain ⟨i, live, rfl⟩ := Option.map_eq_some_iff.1 ticked
      obtain ⟨n, stage, low, active⟩ := Incident.tick_investigationDue.1 due
      exact ⟨i, p, n, live, stage, low, active⟩
    · rintro ⟨i, p, n, live, stage, low, active⟩
      exact ⟨i.tick, p, by rw [live]; rfl, Incident.tick_investigationDue.2 ⟨n, stage, low, active⟩⟩
  case start =>
    rw [State.visitStart_mem_due]
    refine and_congr Iff.rfl ?_
    change s.nextLine.isSome = true ↔ _
    rw [Option.isSome_iff_ne_none, Ne, State.nextLine_none_iff, not_forall]
    exact exists_congr fun z => not_not

end Sys2Proof.Machine
end

section
/-! SUPPORT. The invariants after power-on reset. -/

namespace Sys2Proof.Machine

open Sys2Proof

/-- The candidate zones of a group (R117). -/
theorem View.mem_candidates_iff {v : View} {g : Fin 10} {z : Fin 48} : z ∈ v.candidates g ↔
    v.configs[z].duty = g ∧ v.configs[z].kind ≠ .unused ∧ v.records[z].rank ≠ .none ∧ v.lines[z].state.eligible = true := by
  simp only [View.candidates, List.mem_filter, List.mem_finRange, true_and, Bool.and_eq_true, decide_eq_true_eq, and_assoc]

/-! ### The amplifiers and the feeds at power-on (R139) -/

theorem Audio.reset_duty (k : Fin 10) : Audio.reset.amps[dutyAmp k].state = .normal := by
  have below : (dutyAmp k).val < 10 := k.isLt
  rw [Audio.reset_amp]
  exact if_pos below

theorem Audio.reset_standby {i : Fin 12} (standby : i ∈ standbys) : Audio.reset.amps[i].state = .idle := by
  rw [Audio.reset_amp]
  exact if_neg (Nat.not_lt.2 (mem_standbys.1 standby))

theorem Audio.reset_serverOf (k : Fin 10) : Audio.reset.serverOf k = some (dutyAmp k) := by
  have below : (dutyAmp k).val < 10 := k.isLt
  rw [Audio.serverOf, Audio.reset_amp]
  exact if_pos below

theorem Audio.reset_carries (i : Fin 12) : Audio.reset.amps[i].feed = .none ∧ Audio.reset.amps[i].pending = none := by
  rw [Audio.reset_amp]
  exact ⟨rfl, rfl⟩

theorem Audio.reset_ampsAgree : Audio.reset.AmpsAgree where
  duty k := .inl (Audio.reset_duty k)
  standby i standby := .inl (Audio.reset_standby standby)
  faults i := by
    have state : Audio.reset.amps[i].state ≠ .failed := by
      rcases duty_or_standby i with ⟨k, rfl⟩ | standby
      · rw [Audio.reset_duty]; rintro ⟨⟩
      · rw [Audio.reset_standby standby]; rintro ⟨⟩
    refine iff_of_false ?_ state
    rw [Audio.reset_amp]
    exact Bool.false_ne_true
  normal k _ := Audio.reset_serverOf k
  recovered k recovered := by rw [Audio.reset_duty] at recovered; cases recovered
  failed k failed := by rw [Audio.reset_duty] at failed; cases failed
  standing i standby k standing := by rw [Audio.reset_standby standby] at standing; cases standing
  spare i _ := Audio.reset_carries i
  queue := ⟨List.nodup_nil, fun k waits => by cases waits⟩
  waiting waits := absurd rfl waits
  order := ⟨List.nodup_nil, fun k failed => by rw [Audio.reset_duty] at failed; cases failed⟩

theorem State.reset_unused (z : Fin 48) : State.reset.resolver.configs[z].kind = .unused := by
  simp [State.reset, Resolver.reset, ZoneConfig.reset]

theorem State.reset_target (g : Fin 10) : State.reset.view.target g = .none := by
  have none : State.reset.view.candidates g = [] := List.eq_nil_iff_forall_not_mem.2 fun z candidate => by
    obtain ⟨-, used, -⟩ := View.mem_candidates_iff.1 candidate
    exact used (State.reset_unused z)
  rw [View.target, none]
  rfl

theorem State.reset_feedsFollow : State.reset.FeedsFollow where
  wanted g i _ := by
    obtain ⟨feed, pending⟩ := Audio.reset_carries i
    rw [State.reset_target, show State.reset.audio = Audio.reset from rfl, pending, feed]
    rfl
  held i x pending := by
    rw [show State.reset.audio = Audio.reset from rfl, (Audio.reset_carries i).2] at pending
    cases pending
  connections z := by
    have open_ : Audio.reset.connections[z] = .disconnected := by simp [Audio.reset]
    refine open_.trans (if_pos ?_).symm
    exact State.reset_unused z

theorem State.reset_connectedHear : State.reset.ConnectedHear := fun z connected => by
  have open_ : Audio.reset.connections[z] = .disconnected := by simp [Audio.reset]
  rw [show State.reset.audio = Audio.reset from rfl, open_] at connected
  cases connected

/-- Settles O60. -/
theorem invariantsHoldAtReset : Obligations.InvariantsHoldAtReset := by
  unfold Obligations.InvariantsHoldAtReset
  refine ⟨State.reset_bounded, State.reset_recordsResolved, ?_, ?_, ?_, Audio.reset_bounded, ?_, Audio.reset_ampsAgree,
    State.reset_feedsFollow, State.reset_connectedHear⟩
  · exact State.reset_planned.consistent
  · exact State.reset_planned.inside
  · exact State.reset_planned.lines
  · exact (State.imageFollows_iff _).2 imageTrue_unitInvariant.reset

end Sys2Proof.Machine
end

section
/-! SUPPORT. The choice of a server's target, and zone connection (R114, R116, R117). -/

namespace Sys2Proof.Machine

open Sys2Proof

/-! ### The rank of the target (R117) -/

section Rank
variable (v : View) (zones : List (Fin 48))

theorem View.topRank_eq : v.topRank zones = (zones.map fun z => v.records[z].rank).foldl Rank.max .none := by
  rw [View.topRank, List.foldl_map]

theorem View.le_topRank {z : Fin 48} (mem : z ∈ zones) : v.records[z].rank.value ≤ (v.topRank zones).value := by
  obtain ⟨-, members⟩ := le_foldl_max (zones.map fun z => v.records[z].rank) .none
  rw [View.topRank_eq]
  exact members _ (List.mem_map.2 ⟨z, mem, rfl⟩)

theorem View.topRank_mem : v.topRank zones = .none ∨ ∃ z ∈ zones, v.records[z].rank = v.topRank zones := by
  rw [View.topRank_eq]
  exact (foldl_max_mem _ _).imp_right List.mem_map.1

end Rank

/-! ### The program of the target (R117) -/

/-- The zones of one rank. -/
def View.atRank (v : View) (r : Rank) (zones : List (Fin 48)) : List (Fin 48) :=
  zones.filter fun z => v.records[z].rank = r

theorem View.mem_atRank {v : View} {r : Rank} {zones : List (Fin 48)} {z : Fin 48} :
    z ∈ v.atRank r zones ↔ z ∈ zones ∧ v.records[z].rank = r := by
  rw [View.atRank, List.mem_filter, decide_eq_true_eq]

/-- The key and program that a live incident gives a feed, where it governs one of the zones. -/
def View.keyed (v : View) (top : List (Fin 48)) (h : Nat) : Option (Nat × Fin 16) :=
  (top.find? fun z => v.records[z].governing = some h).bind fun z => v.records[z].program.map fun p => (h, p)

theorem View.programTarget_eq (v : View) (r : ProgramRank) (zones : List (Fin 48)) :
    v.programTarget r zones =
      match v.ages.findSome? (v.keyed (v.atRank r.rank zones)),
        (v.atRank r.rank zones).findSome? fun z => v.records[z].program with
      | some (h, p), _ => .program r p (some h)
      | none, some p => .program r p none
      | none, none => .none := by
  unfold View.programTarget
  dsimp only [View.atRank, View.keyed]
    <;> rfl

section Keyed
variable {v : View} {top : List (Fin 48)}

theorem View.keyed_some {h k : Nat} {p : Fin 16} (found : v.keyed top h = some (k, p)) :
    k = h ∧ ∃ z ∈ top, v.records[z].governing = some h ∧ v.records[z].program = some p := by
  obtain ⟨z, first, named⟩ := Option.bind_eq_some_iff.1 found
  obtain ⟨q, program, same⟩ := Option.map_eq_some_iff.1 named
  obtain ⟨rfl, rfl⟩ := Prod.mk.inj same
  have governs := List.find?_some first
  exact ⟨rfl, z, List.mem_of_find?_eq_some first, of_decide_eq_true governs, program⟩

theorem View.keyed_ne_none {h : Nat} {z : Fin 48} (named : ∀ z ∈ top, v.records[z].program ≠ none) (mem : z ∈ top)
    (governs : v.records[z].governing = some h) : v.keyed top h ≠ none := by
  unfold View.keyed
  cases first : top.find? fun z => v.records[z].governing = some h with
  | none => exact absurd (decide_eq_true governs) (List.find?_eq_none.1 first z mem)
  | some y =>
    obtain ⟨p, program⟩ := Option.ne_none_iff_exists'.1 (named y (List.mem_of_find?_eq_some first))
    rw [Option.bind_some, program]
    exact Option.some_ne_none _

end Keyed

/-- The first of a list that a search finds stands before every other that it would find. -/
theorem idxOf_findSome?_le {α β : Type} [DecidableEq α] {f : α → Option β} {l : List α} {x : β}
    (found : l.findSome? f = some x) : ∃ a ∈ l, f a = some x ∧ ∀ b, f b ≠ none → l.idxOf a ≤ l.idxOf b := by
  obtain ⟨before, a, after, rfl, value, passed⟩ := List.findSome?_eq_some_iff.1 found
  refine ⟨a, by simp, value, fun b other => ?_⟩
  have fresh (c : α) (some : f c ≠ none) : c ∉ before := fun earlier => some (passed c earlier)
  rw [List.idxOf_append_of_notMem (fresh a (by rw [value]; exact Option.some_ne_none x)),
    List.idxOf_append_of_notMem (fresh b other), List.idxOf_cons_self]
  exact Nat.add_le_add_left (Nat.zero_le _) _

/-- A program feed of one rank keyed by the oldest live incident that governs a zone there (R117). -/
structure View.KeyedFeed (v : View) (r : ProgramRank) (zones : List (Fin 48)) (p : Fin 16) (h : Nat) : Prop where
  live : h ∈ v.ages
  zone : ∃ z ∈ zones, v.records[z].rank = r.rank ∧ v.records[z].governing = some h ∧ v.records[z].program = some p
  oldest : ∀ (z : Fin 48) (h' : Nat), z ∈ zones → v.records[z].rank = r.rank → v.records[z].governing = some h' →
    v.ages.idxOf h ≤ v.ages.idxOf h'

/-- A program feed of one rank without a key: no live incident governs a zone there (R117). -/
structure View.UnkeyedFeed (v : View) (r : ProgramRank) (zones : List (Fin 48)) (p : Fin 16) : Prop where
  zone : ∃ z ∈ zones, v.records[z].rank = r.rank ∧ v.records[z].program = some p
  orphaned : ∀ (z : Fin 48) (h : Nat), z ∈ zones → v.records[z].rank = r.rank → v.records[z].governing = some h → h ∉ v.ages

section Targets
variable {v : View} (named : ∀ (z : Fin 48) (r : ProgramRank), v.records[z].rank = r.rank → v.records[z].program ≠ none)
  {zones : List (Fin 48)}
include named

theorem View.programTarget_cases {r : ProgramRank} {x : Fin 48} (mem : x ∈ zones) (at_ : v.records[x].rank = r.rank) :
    (∃ p h, v.programTarget r zones = .program r p (some h) ∧ v.KeyedFeed r zones p h) ∨
      ∃ p, v.programTarget r zones = .program r p none ∧ v.UnkeyedFeed r zones p := by
  have programs : ∀ z ∈ v.atRank r.rank zones, v.records[z].program ≠ none :=
    fun z top => named z r (View.mem_atRank.1 top).2
  rw [View.programTarget_eq]
  cases search : v.ages.findSome? (v.keyed (v.atRank r.rank zones)) with
  | some found =>
    obtain ⟨h, p⟩ := found
    left
    refine ⟨p, h, rfl, ?_⟩
    obtain ⟨a, live, value, first⟩ := idxOf_findSome?_le search
    obtain ⟨rfl, z, top, governs, program⟩ := View.keyed_some value
    obtain ⟨listed, rank⟩ := View.mem_atRank.1 top
    exact ⟨live, ⟨z, listed, rank, governs, program⟩, fun y h' mem' rank' governs' =>
      first h' (View.keyed_ne_none programs (View.mem_atRank.2 ⟨mem', rank'⟩) governs')⟩
  | none =>
    right
    cases any : (v.atRank r.rank zones).findSome? fun z => v.records[z].program with
    | none => exact absurd (List.findSome?_eq_none_iff.1 any x (View.mem_atRank.2 ⟨mem, at_⟩)) (named x r at_)
    | some p =>
      refine ⟨p, rfl, ?_, fun y h mem' rank' governs' live => ?_⟩
      · obtain ⟨z, top, program⟩ := List.exists_of_findSome?_eq_some any
        obtain ⟨listed, rank⟩ := View.mem_atRank.1 top
        exact ⟨z, listed, rank, program⟩
      · exact View.keyed_ne_none programs (View.mem_atRank.2 ⟨mem', rank'⟩) governs'
          (List.findSome?_eq_none_iff.1 search h live)

theorem View.testTarget_eq {x : Fin 48} (mem : x ∈ zones) (at_ : v.records[x].rank = .test) :
    ∃ p, v.testTarget zones = .program .test p none ∧
      (∃ z ∈ zones, v.records[z].rank = .test ∧ v.records[z].program = some p) ∧
      ∀ (z : Fin 48) (q : Fin 16), z ∈ zones → v.records[z].rank = .test → v.records[z].program = some q → p ≤ q := by
  have tested (q : Fin 16) : (zones.any fun z => v.records[z].rank = .test && v.records[z].program = some q) = true ↔
      ∃ z ∈ zones, v.records[z].rank = .test ∧ v.records[z].program = some q := by
    simp only [List.any_eq_true, Bool.and_eq_true, decide_eq_true_eq]
  have lowest := Fin.find?_eq_find?_finRange
    (p := fun q : Fin 16 => zones.any fun z => v.records[z].rank = .test && v.records[z].program = some q)
  unfold View.testTarget
  dsimp only
  rw [← lowest]
  cases search : Fin.find? fun q : Fin 16 => zones.any fun z => v.records[z].rank = .test && v.records[z].program = some q with
  | some p =>
    obtain ⟨found, first⟩ := Fin.find?_eq_some_iff.1 search
    refine ⟨p, rfl, (tested p).1 found, fun z q mem' rank' program' => not_lt.1 fun lower => ?_⟩
    have none := first q lower
    rw [(tested q).2 ⟨z, mem', rank', program'⟩] at none
    cases none
  | none =>
    obtain ⟨q, program⟩ := Option.ne_none_iff_exists'.1 (named x .test at_)
    have none := Fin.find?_eq_none_iff.1 search q
    rw [(tested q).2 ⟨x, mem, at_, program⟩] at none
    cases none

end Targets

/-- The target of a group, by the highest rank among its candidate zones (R117). -/
theorem View.target_cases (v : View) (g : Fin 10) :
    ((∀ z, z ∉ v.candidates g) ∧ v.target g = .none) ∨
    ∃ x ∈ v.candidates g, (∀ z ∈ v.candidates g, v.records[z].rank.value ≤ v.records[x].rank.value) ∧
      ((v.records[x].rank = .liveFire ∧ v.target g = .mic .fireService) ∨
      (v.records[x].rank = .liveMgmt ∧ v.target g = .mic .management) ∨
      (∃ r : ProgramRank, r ≠ .test ∧ v.records[x].rank = r.rank ∧ v.target g = v.programTarget r (v.candidates g)) ∨
      (v.records[x].rank = .test ∧ v.target g = v.testTarget (v.candidates g))) := by
  have higher (z : Fin 48) (mem : z ∈ v.candidates g) := v.le_topRank (v.candidates g) mem
  unfold View.target
  dsimp only
  rcases v.topRank_mem (v.candidates g) with none | ⟨x, mem, top⟩
  · left
    rw [none] at higher ⊢
    refine ⟨fun z mem => ?_, rfl⟩
    obtain ⟨-, -, ranked, -⟩ := View.mem_candidates_iff.1 mem
    exact ranked (Rank.value_injective (Nat.le_zero.1 (higher z mem)))
  · right
    rw [← top] at higher ⊢
    refine ⟨x, mem, higher, ?_⟩
    cases rank : v.records[x].rank with
    | none =>
      obtain ⟨-, -, ranked, -⟩ := View.mem_candidates_iff.1 mem
      exact absurd rank ranked
    | liveFire => exact .inl ⟨rfl, rfl⟩
    | liveMgmt => exact .inr (.inl ⟨rfl, rfl⟩)
    | evacuate => exact .inr (.inr (.inl ⟨.evacuate, by rintro ⟨⟩, rfl, rfl⟩))
    | alert => exact .inr (.inr (.inl ⟨.alert, by rintro ⟨⟩, rfl, rfl⟩))
    | test => exact .inr (.inr (.inr ⟨rfl, rfl⟩))

/-- What a group's server should carry, once its candidate zones of program ranks name their programs (R117). -/
inductive View.Wants (v : View) (g : Fin 10) : Feed → Prop where
  | nothing (none : ∀ z, z ∉ v.candidates g) : v.Wants g .none
  | mic (m : Mic) {x : Fin 48} (mem : x ∈ v.candidates g) (rank : v.records[x].rank = (Feed.mic m).rank)
      (top : ∀ z ∈ v.candidates g, v.records[z].rank.value ≤ (Feed.mic m).rank.value) : v.Wants g (.mic m)
  | keyed (r : ProgramRank) (p : Fin 16) (h : Nat) (alarm : r ≠ .test) (key : v.KeyedFeed r (v.candidates g) p h)
      (top : ∀ z ∈ v.candidates g, v.records[z].rank.value ≤ r.rank.value) : v.Wants g (.program r p (some h))
  | unkeyed (r : ProgramRank) (p : Fin 16) (alarm : r ≠ .test) (key : v.UnkeyedFeed r (v.candidates g) p)
      (top : ∀ z ∈ v.candidates g, v.records[z].rank.value ≤ r.rank.value) : v.Wants g (.program r p none)
  | test (p : Fin 16) (zone : ∃ z ∈ v.candidates g, v.records[z].rank = .test ∧ v.records[z].program = some p)
      (lowest : ∀ (z : Fin 48) (q : Fin 16), z ∈ v.candidates g → v.records[z].rank = .test →
        v.records[z].program = some q → p ≤ q)
      (top : ∀ z ∈ v.candidates g, v.records[z].rank.value ≤ Rank.value .test) : v.Wants g (.program .test p none)

section Wanted
variable {v : View} (named : ∀ (z : Fin 48) (r : ProgramRank), v.records[z].rank = r.rank → v.records[z].program ≠ none)
  (g : Fin 10)
include named

theorem View.target_wants : v.Wants g (v.target g) := by
  rcases v.target_cases g with ⟨none, target⟩ | ⟨x, mem, top, target⟩
  · rw [target]
    exact .nothing none
  · rcases target with ⟨rank, target⟩ | ⟨rank, target⟩ | ⟨r, alarm, rank, target⟩ | ⟨rank, target⟩
    · rw [target]
      rw [rank] at top
      exact .mic .fireService mem rank top
    · rw [target]
      rw [rank] at top
      exact .mic .management mem rank top
    · rw [target]
      rw [rank] at top
      rcases View.programTarget_cases named mem rank with ⟨p, h, eq, key⟩ | ⟨p, eq, key⟩
      · rw [eq]; exact .keyed r p h alarm key top
      · rw [eq]; exact .unkeyed r p alarm key top
    · rw [target]
      rw [rank] at top
      obtain ⟨p, eq, zone, lowest⟩ := View.testTarget_eq named mem rank
      rw [eq]
      exact .test p zone lowest top

theorem View.le_target {z : Fin 48} (mem : z ∈ v.candidates g) : v.records[z].rank.value ≤ (v.target g).rank.value := by
  have wants := View.target_wants named g
  generalize v.target g = f at wants
  cases wants with
  | nothing none => exact absurd mem (none z)
  | mic m _ _ top => exact top z mem
  | keyed r p h _ _ top => exact top z mem
  | unkeyed r p _ _ top => exact top z mem
  | test p _ _ top => exact top z mem

/-- A zone of the target's rank with the target's program, where the group has a candidate. -/
theorem View.target_zone {x : Fin 48} (mem : x ∈ v.candidates g) : ∃ z ∈ v.candidates g,
    v.records[z].rank = (v.target g).rank ∧ ∀ p, (v.target g).program? = some p → v.records[z].program = some p := by
  have wants := View.target_wants named g
  generalize v.target g = f at wants
  cases wants with
  | nothing none => exact absurd mem (none x)
  | mic m listed rank _ => exact ⟨_, listed, rank, nofun⟩
  | keyed r p h _ key _ =>
    obtain ⟨z, listed, rank, -, program⟩ := key.zone
    exact ⟨z, listed, rank, fun q same => Option.some.inj same ▸ program⟩
  | unkeyed r p _ key _ =>
    obtain ⟨z, listed, rank, program⟩ := key.zone
    exact ⟨z, listed, rank, fun q same => Option.some.inj same ▸ program⟩
  | test p zone _ _ =>
    obtain ⟨z, listed, rank, program⟩ := zone
    exact ⟨z, listed, rank, fun q same => Option.some.inj same ▸ program⟩

end Wanted

theorem View.target_none {v : View} {g : Fin 10} (none : ∀ z, z ∉ v.candidates g) : v.target g = .none := by
  rcases v.target_cases g with ⟨-, target⟩ | ⟨x, mem, -⟩
  · exact target
  · exact absurd mem (none x)

/-! ### Zone connection (R114, R116) -/

theorem LineState.eligible_false_iff {x : LineState} :
    x.eligible = false ↔ x = .short ∨ x = .isolated ∨ x = .lockedOut := by
  cases x <;> simp [LineState.eligible]

theorem LineState.eligible_iff {x : LineState} :
    x.eligible = true ↔ ¬ (x = .short ∨ x = .isolated ∨ x = .lockedOut) := by
  rw [← LineState.eligible_false_iff, Bool.not_eq_false]

theorem Audio.groupPending_iff {a : Audio} {g : Fin 10} :
    a.groupPending g = true ↔ ∃ i, a.serverOf g = some i ∧ a.amps[i].pending ≠ none := by
  unfold Audio.groupPending
  cases a.serverOf g with
  | none => simp
  | some i => simp [Option.isSome_iff_ne_none]

section Decide
variable {v : View} {a : Audio} {z : Fin 48}

theorem Audio.decide_unused (unused : v.configs[z].kind = .unused) : a.decide v z = .disconnected := if_pos unused

section Used
variable (used : v.configs[z].kind ≠ .unused)
include used

theorem Audio.decide_out (out : v.lines[z].state.eligible = false) :
    a.decide v z = if v.records[z].rank = .none then .disconnected else .isolated := by
  unfold Audio.decide
  rw [if_neg used, out]
  rfl

theorem Audio.decide_silent (eligible : v.lines[z].state.eligible = true) (silent : v.records[z].rank = .none) :
    a.decide v z = if a.connections[z] = .connected ∧ a.groupPending v.configs[z].duty = true then .connected
      else .disconnected := by
  unfold Audio.decide
  rw [if_neg used, eligible, silent]
  simp only [Bool.not_true, Bool.false_eq_true, if_false, if_true, Bool.and_eq_true, decide_eq_true_eq]

theorem Audio.decide_ranked (eligible : v.lines[z].state.eligible = true) (ranked : v.records[z].rank ≠ .none) :
    a.decide v z = if a.serverOf v.configs[z].duty = none then .unserved else .connected := by
  unfold Audio.decide
  rw [if_neg used, eligible, if_neg (by decide), if_neg ranked]
  simp only [Option.isNone_iff_eq_none]

end Used

theorem Audio.carriedFlag_iff {c : Connection} : a.carriedFlag v z c = true ↔ c = .connected ∧
    ∃ i, a.serverOf v.configs[z].duty = some i ∧ (v.records[z].rank.value < a.amps[i].feed.rank.value ∨
      (v.records[z].rank = a.amps[i].feed.rank ∧ a.amps[i].feed.program? ≠ v.records[z].program)) := by
  unfold Audio.carriedFlag
  cases c with
  | connected =>
    cases a.serverOf v.configs[z].duty with
    | none => simp
    | some i => simp
  | _ => simp

end Decide

/-- Settles O45, by what the choice of a target gives and the connection table line by line. -/
theorem targetAndConnection : Obligations.TargetAndConnection := by
  unfold Obligations.TargetAndConnection
  refine ⟨fun v g programs => ?target, fun v a z => ?connection⟩
  case target =>
    intro candidate
    have member (z : Fin 48) : z ∈ v.candidates g ↔ candidate z := View.mem_candidates_iff
    have named (z : Fin 48) (r : ProgramRank) (rank : v.records[z].rank = r.rank) : v.records[z].program ≠ none := by
      refine Option.isSome_iff_ne_none.1 (programs z ?_)
      rw [rank]
      cases r with
      | test => exact .inl rfl
      | alert => exact .inr (.inl rfl)
      | evacuate => exact .inr (.inr rfl)
    have wants := View.target_wants named g
    refine ⟨fun none => View.target_none fun z mem => none z ((member z).1 mem),
      fun z mem => View.le_target named g ((member z).2 mem), fun ⟨x, mem⟩ => ?zone, fun r p h target => ?keyed,
      fun r p target alarm => ?unkeyed, fun p key target => ?tested⟩
    case zone =>
      obtain ⟨z, listed, rank, program⟩ := View.target_zone named g ((member x).2 mem)
      exact ⟨z, (member z).1 listed, rank, program⟩
    case keyed =>
      rw [target] at wants
      cases wants with
      | keyed _ _ _ _ key _ =>
        obtain ⟨z, listed, zone⟩ := key.zone
        exact ⟨key.live, ⟨z, (member z).1 listed, zone⟩, fun y h' mem rank governs _ =>
          key.oldest y h' ((member y).2 mem) rank governs⟩
    case unkeyed =>
      rw [target] at wants
      cases wants with
      | unkeyed _ _ _ key _ => exact fun z h mem rank governs => key.orphaned z h ((member z).2 mem) rank governs
      | test => exact absurd rfl alarm
    case tested =>
      rw [target] at wants
      cases wants with
      | keyed _ _ _ alarm => exact absurd rfl alarm
      | unkeyed _ _ alarm => exact absurd rfl alarm
      | test _ _ lowest _ => exact ⟨rfl, fun z q mem rank program => lowest z q ((member z).2 mem) rank program⟩
  case connection =>
    intro rank server held out
    have isOut : v.lines[z].state.eligible = false ↔ out := LineState.eligible_false_iff
    have isIn : v.lines[z].state.eligible = true ↔ ¬ out := LineState.eligible_iff
    have isHeld : (a.connections[z] = .connected ∧ a.groupPending v.configs[z].duty = true) ↔ held :=
      and_congr Iff.rfl Audio.groupPending_iff
    refine ⟨Audio.decide_unused, fun used => ⟨fun ineligible ranked => ?_, fun ineligible silent => ?_,
      fun eligible silent keeps => ?_, fun eligible silent drops => ?_, fun eligible ranked unserved => ?_,
      fun eligible ranked served => ?_⟩, fun c => Audio.carriedFlag_iff⟩
    · exact (Audio.decide_out used (isOut.2 ineligible)).trans (if_neg ranked)
    · exact (Audio.decide_out used (isOut.2 ineligible)).trans (if_pos silent)
    · exact (Audio.decide_silent used (isIn.2 eligible) silent).trans (if_pos (isHeld.2 keeps))
    · exact (Audio.decide_silent used (isIn.2 eligible) silent).trans (if_neg fun keeps => drops (isHeld.1 keeps))
    · exact (Audio.decide_ranked used (isIn.2 eligible) ranked).trans (if_pos unserved)
    · exact (Audio.decide_ranked used (isIn.2 eligible) ranked).trans (if_neg served)

end Sys2Proof.Machine
end

section
/-! SUPPORT. The roster of the amplifier switching unit (R123 to R131): states, servers and the unserved queue, apart from
what the amplifiers carry; each operation of the unit on it; and what an event leaves of it once the pool has settled. -/

namespace Sys2Proof.Machine

open Sys2Proof Function

/-! ### The roster -/

/-- Who serves whom: the part of the amplifier records that no feed enters, with the two lists of failed groups. -/
@[ext]
structure Roster where
  state : Fin 12 → AmpState
  fault : Fin 12 → Bool
  failedAt : Fin 12 → Option Tick
  server : Fin 10 → Option (Fin 12)
  unserved : List (Fin 10)
  failOrder : List (Fin 10)

/-- The roster of an audio side. -/
def Audio.roster (a : Audio) : Roster where
  state i := a.amps[i].state
  fault i := a.amps[i].fault
  failedAt i := a.amps[i].failedAt
  server := a.serverOf
  unserved := a.unserved
  failOrder := a.failOrder

theorem Audio.roster_state (a : Audio) (i : Fin 12) : a.roster.state i = a.amps[i].state := rfl

theorem Audio.roster_failedAt (a : Audio) (i : Fin 12) : a.roster.failedAt i = a.amps[i].failedAt := rfl

theorem Audio.roster_server (a : Audio) (k : Fin 10) : a.roster.server k = a.serverOf k := rfl

theorem Audio.roster_unserved (a : Audio) : a.roster.unserved = a.unserved := rfl

/-- An amplifier's state written. -/
def Roster.setState (r : Roster) (i : Fin 12) (st : AmpState) : Roster :=
  { r with state := update r.state i st }

/-- A group given to a server, or to none. -/
def Roster.move (r : Roster) (g : Fin 10) (dst : Option (Fin 12)) : Roster :=
  { r with server := update r.server g dst }

/-- A standby stands in for the group at the head of the queue. -/
def Roster.standIn (r : Roster) (i : Fin 12) (k : Fin 10) (rest : List (Fin 10)) : Roster :=
  (({ r with unserved := rest } : Roster).setState i (.standingIn k)).move k (some i)

/-- An IDLE standby serves the queue (R129). -/
def Roster.serveQueue (r : Roster) (i : Fin 12) : Roster :=
  match r.state i, r.unserved with
  | .idle, k :: rest => r.standIn i k rest
  | _, _ => r

/-- The group of a RECOVERED amplifier given back, before its standby serves the queue (R130). -/
def Roster.returned (r : Roster) (k : Fin 10) (i : Fin 12) : Roster :=
  ((r.move k (some (dutyAmp k))).setState (dutyAmp k) .normal).setState i .idle

/-- The group of a RECOVERED amplifier given back (R130, R131). -/
def Roster.giveBack (r : Roster) (k : Fin 10) (i : Fin 12) : Roster :=
  (r.returned k i).serveQueue i

/-- A duty amplifier FAILED now (R126). -/
def Roster.markFailed (r : Roster) (k : Fin 10) (now : Tick) : Roster :=
  { r.setState (dutyAmp k) .failed with
    failedAt := update r.failedAt (dutyAmp k) (some now)
    failOrder := (r.failOrder.filter fun j => j ≠ k) ++ [k] }

/-- An amplifier's debounced fault has changed (R124). -/
def Roster.noteFault (r : Roster) (i : Fin 12) : Roster :=
  { r with fault := update r.fault i (!r.fault i) }

section Operations
variable (a : Audio)

theorem update_at_eq {α β : Type} [DecidableEq α] (f : α → β) (i : α) (y : β) {g : α → β}
    (h : ∀ j, g j = if i = j then y else f j) : g = update f i y := by
  funext j
  rw [h, update_apply]
  by_cases same : j = i
  · rw [if_pos same, if_pos same.symm]
  · rw [if_neg same, if_neg (Ne.symm same)]

/-- A record replaced that stays the server it was. -/
theorem Audio.setAmp_roster (i : Fin 12) {x : Amp} (server : x.server = a.amps[i].server) :
    (a.setAmp i x).roster = { a.roster with
      state := update a.roster.state i x.state
      fault := update a.roster.fault i x.fault
      failedAt := update a.roster.failedAt i x.failedAt } := by
  have at_ {β : Type} (f : Amp → β) (j : Fin 12) :
      f (a.setAmp i x).amps[j] = if i = j then f x else f a.amps[j] := by
    rw [Audio.setAmp_amps, apply_ite f]
  refine Roster.ext (update_at_eq _ _ _ (at_ Amp.state)) (update_at_eq _ _ _ (at_ Amp.fault))
    (update_at_eq _ _ _ (at_ Amp.failedAt)) (funext fun g => Audio.setAmp_serverOf g server) rfl rfl

theorem Audio.setCarried_roster (i : Fin 12) (f : Feed) (p : Option Feed) :
    (a.setAmp i { a.amps[i] with feed := f, pending := p }).roster = a.roster :=
  (a.setAmp_roster i (by rfl)).trans
    (Roster.ext (update_eq_self i _) (update_eq_self i _) (update_eq_self i _) rfl rfl rfl)

theorem Audio.switchTo_roster (i : Fin 12) (t : Feed) : (a.switchTo i t).roster = a.roster := a.setCarried_roster i t none

theorem Audio.setAmpState_roster (i : Fin 12) (st : AmpState) : (a.setAmpState i st).roster = a.roster.setState i st :=
  (a.setAmp_roster i (by rfl)).trans (Roster.ext rfl (update_eq_self i _) (update_eq_self i _) rfl rfl rfl)

theorem Audio.setServer_roster (g : Fin 10) (x : Option (Fin 12)) : (a.setServer g x).roster = a.roster.move g x := by
  have kept {β : Type} (f : Amp → β) (j : Fin 12) (blind : f { a.amps[dutyAmp g] with server := x } = f a.amps[dutyAmp g]) :
      f (a.setServer g x).amps[j] = f a.amps[j] := by
    rw [Audio.setServer_amps]
    split
    · next same => rw [← same, blind]
    · rfl
  refine Roster.ext (funext fun j => kept Amp.state j rfl) (funext fun j => kept Amp.fault j rfl)
    (funext fun j => kept Amp.failedAt j rfl) (update_at_eq _ _ _ fun h => ?_) rfl rfl
  have server := a.setServer_serverOf g h x
  simp only [@eq_comm _ h g] at server
  exact server

theorem Audio.setPending_roster (i : Fin 12) (p : Option Feed) :
    (a.setAmp i { a.amps[i] with pending := p }).roster = a.roster := a.setCarried_roster i a.amps[i].feed p

theorem Audio.applyTarget_roster (i : Fin 12) (t : Feed) : (a.applyTarget i t).roster = a.roster := by
  rcases a.applyTarget_cases i t with eq | eq
  · rw [eq, Audio.switchTo_roster]
  · rw [eq, Audio.setPending_roster]

theorem Audio.retarget_roster (v : View) (g : Fin 10) : (a.retarget v g).roster = a.roster := by
  unfold Audio.retarget
  split
  · exact a.applyTarget_roster _ _
  · rfl

theorem Roster.move_self (r : Roster) (g : Fin 10) : r.move g (r.server g) = r :=
  Roster.ext rfl rfl rfl (update_eq_self g _) rfl rfl

theorem Audio.moveGroup_roster (v : View) (g : Fin 10) (dst : Option (Fin 12)) :
    (a.moveGroup v g dst).roster = a.roster.move g dst := by
  cases served : a.serverOf g with
  | some i =>
    cases dst with
    | none => rw [Audio.moveGroup_none served, Audio.setServer_roster, Audio.switchTo_roster]
    | some j =>
      rw [Audio.moveGroup_server served, Audio.setServer_roster, Audio.setCarried_roster, Audio.switchTo_roster]
  | none =>
    cases dst with
    | none =>
      have kept : a.moveGroup v g none = a := by
        unfold Audio.moveGroup
        rw [served]
      have server : a.roster.server g = none := served
      rw [kept, ← server, Roster.move_self]
    | some j =>
      rw [Audio.moveGroup_fromNone served, Audio.retarget_roster, Audio.setServer_roster, Audio.switchTo_roster]

theorem Audio.serveQueue_roster (v : View) (i : Fin 12) : (a.serveQueue v i).roster = a.roster.serveQueue i := by
  unfold Audio.serveQueue Roster.serveQueue
  show Audio.roster (match a.amps[i].state, a.unserved with | .idle, k :: rest => _ | _, _ => a) =
    match a.amps[i].state, a.unserved with | .idle, k :: rest => _ | _, _ => _
  split
  · next k rest _ _ =>
    rw [Audio.moveGroup_roster, Audio.setAmpState_roster]
    rfl
  · rfl

theorem Audio.giveBack_roster (v : View) (k : Fin 10) (i : Fin 12) : (a.giveBack v k i).roster = a.roster.giveBack k i := by
  rw [Audio.giveBack, Audio.serveQueue_roster, Audio.setAmpState_roster, Audio.setAmpState_roster,
    Audio.moveGroup_roster, Roster.giveBack, Roster.returned]

theorem Audio.markFailed_roster (v : View) (k : Fin 10) : (a.markFailed v k).roster = a.roster.markFailed k v.now := by
  have failed : (a.setAmp (dutyAmp k) { a.amps[dutyAmp k] with state := .failed, failedAt := some v.now }).roster =
      { a.roster.setState (dutyAmp k) .failed with failedAt := update a.roster.failedAt (dutyAmp k) (some v.now) } :=
    (a.setAmp_roster _ (by rfl)).trans (Roster.ext rfl (update_eq_self (dutyAmp k) _) rfl rfl rfl rfl)
  exact congrArg (fun r : Roster => { r with failOrder := (a.failOrder.filter fun j => j ≠ k) ++ [k] }) failed

theorem Desk.noteFault_roster (i : Fin 12) (d : Desk) : (d.noteFault i).audio.roster = d.audio.roster.noteFault i :=
  (d.audio.setAmp_roster i (by rfl)).trans (Roster.ext (update_eq_self i _) rfl (update_eq_self i _) rfl rfl rfl)

end Operations

/-! ### What the roster's operations leave -/

section Leaves
variable (r : Roster)

theorem Roster.setState_state (i j : Fin 12) (st : AmpState) :
    (r.setState i st).state j = if j = i then st else r.state j := update_apply ..

theorem Roster.move_server (g h : Fin 10) (dst : Option (Fin 12)) :
    (r.move g dst).server h = if h = g then dst else r.server h := update_apply ..

theorem Roster.standIn_state (i j : Fin 12) (k : Fin 10) (rest : List (Fin 10)) :
    (r.standIn i k rest).state j = if j = i then .standingIn k else r.state j := update_apply ..

theorem Roster.standIn_server (i : Fin 12) (k h : Fin 10) (rest : List (Fin 10)) :
    (r.standIn i k rest).server h = if h = k then some i else r.server h := update_apply ..

/-- An IDLE standby takes the head of the queue; otherwise nothing happens. -/
theorem Roster.serveQueue_cases (i : Fin 12) :
    (∃ k rest, r.state i = .idle ∧ r.unserved = k :: rest ∧ r.serveQueue i = r.standIn i k rest) ∨
      ((r.unserved = [] ∨ r.state i ≠ .idle) ∧ r.serveQueue i = r) := by
  unfold Roster.serveQueue
  split
  · next k rest idle queue => exact .inl ⟨k, rest, idle, queue, rfl⟩
  · next waits =>
    refine .inr ⟨?_, rfl⟩
    cases queue : r.unserved with
    | nil => exact .inl rfl
    | cons k rest => exact .inr fun idle => waits k rest idle queue

theorem Roster.returned_state (k : Fin 10) (i j : Fin 12) :
    (r.returned k i).state j = if j = i then .idle else if j = dutyAmp k then .normal else r.state j := by
  rw [Roster.returned, Roster.setState_state, Roster.setState_state]
  rfl

theorem Roster.returned_server (k h : Fin 10) (i : Fin 12) :
    (r.returned k i).server h = if h = k then some (dutyAmp k) else r.server h := r.move_server k h _

/-- A group given back: its standby is IDLE when the queue is empty, and takes the head of the queue otherwise. -/
theorem Roster.giveBack_cases (k : Fin 10) (i : Fin 12) :
    (∃ h rest, r.unserved = h :: rest ∧ r.giveBack k i = (r.returned k i).standIn i h rest) ∨
      (r.unserved = [] ∧ r.giveBack k i = r.returned k i) := by
  have idle : (r.returned k i).state i = .idle := (r.returned_state k i i).trans (if_pos rfl)
  rcases (r.returned k i).serveQueue_cases i with ⟨h, rest, -, queue, eq⟩ | ⟨empty, eq⟩
  · exact .inl ⟨h, rest, queue, eq⟩
  · exact .inr ⟨empty.resolve_right (absurd idle), eq⟩

variable {k : Fin 10} {i : Fin 12}

theorem Roster.giveBack_empty (empty : r.unserved = []) : r.giveBack k i = r.returned k i := by
  rcases r.giveBack_cases k i with ⟨h, rest, queue, -⟩ | ⟨-, eq⟩
  · rw [empty] at queue
    cases queue
  · exact eq

theorem Roster.giveBack_cons {h : Fin 10} {rest : List (Fin 10)} (queue : r.unserved = h :: rest) :
    r.giveBack k i = (r.returned k i).standIn i h rest := by
  rcases r.giveBack_cases k i with ⟨h', rest', queue', eq⟩ | ⟨empty, -⟩
  · rw [queue] at queue'
    cases queue'
    exact eq
  · rw [queue] at empty
    cases empty

theorem Roster.giveBack_state {j : Fin 12} (other : j ≠ i) :
    (r.giveBack k i).state j = if j = dutyAmp k then .normal else r.state j := by
  have returned := (r.returned_state k i j).trans (if_neg other)
  rcases r.giveBack_cases k i with ⟨h, rest, -, eq⟩ | ⟨-, eq⟩
  · rw [eq, Roster.standIn_state, if_neg other, returned]
  · rw [eq, returned]

theorem Roster.giveBack_server {h : Fin 10} (served : h ∉ r.unserved) :
    (r.giveBack k i).server h = if h = k then some (dutyAmp k) else r.server h := by
  rcases r.giveBack_cases k i with ⟨h', rest, queue, eq⟩ | ⟨-, eq⟩
  · rw [queue, List.mem_cons, not_or] at served
    rw [eq, Roster.standIn_server, if_neg served.1, Roster.returned_server]
  · rw [eq, Roster.returned_server]

theorem Roster.giveBack_unserved : (r.giveBack k i).unserved = r.unserved.tail := by
  rcases r.giveBack_cases k i with ⟨h, rest, queue, eq⟩ | ⟨empty, eq⟩
  · rw [eq, queue]
    rfl
  · rw [eq, empty]
    exact empty

theorem Roster.giveBack_fault : (r.giveBack k i).fault = r.fault := by
  rcases r.giveBack_cases k i with ⟨h, rest, queue, eq⟩ | ⟨empty, eq⟩
  · rw [eq]; rfl
  · rw [eq]; rfl

theorem Roster.giveBack_failedAt : (r.giveBack k i).failedAt = r.failedAt := by
  rcases r.giveBack_cases k i with ⟨h, rest, queue, eq⟩ | ⟨empty, eq⟩
  · rw [eq]; rfl
  · rw [eq]; rfl

theorem Roster.giveBack_failOrder : (r.giveBack k i).failOrder = r.failOrder := by
  rcases r.giveBack_cases k i with ⟨h, rest, queue, eq⟩ | ⟨empty, eq⟩
  · rw [eq]; rfl
  · rw [eq]; rfl

end Leaves

/-! ### Pending targets taken -/

/-- The record has taken its pending target, and nothing else of it has changed (R119). -/
def Amp.Took (x y : Amp) : Prop :=
  ∃ t, x.pending = some t ∧ y = { x with feed := t, pending := none }

/-- Some amplifiers have taken their pending target, and nothing else of what the unit knows of them has changed. -/
structure Audio.FeedStep (a b : Audio) : Prop where
  amps : ∀ i : Fin 12, b.amps[i] = a.amps[i] ∨ a.amps[i].Took b.amps[i]
  unserved : b.unserved = a.unserved
  failOrder : b.failOrder = a.failOrder

theorem Audio.FeedStep.of_amps {a b : Audio} (amps : b.amps = a.amps) (unserved : b.unserved = a.unserved)
    (failOrder : b.failOrder = a.failOrder) : a.FeedStep b :=
  ⟨fun i => .inl (by rw [amps]), unserved, failOrder⟩

theorem Audio.FeedStep.refl (a : Audio) : a.FeedStep a := .of_amps rfl rfl rfl

theorem Audio.FeedStep.of_same {a b : Audio} (same : a.UnitSame b) : a.FeedStep b :=
  .of_amps same.amps same.unserved same.failOrder

theorem Audio.FeedStep.trans {a b c : Audio} (h : a.FeedStep b) (g : b.FeedStep c) : a.FeedStep c := by
  refine ⟨fun i => ?_, g.unserved.trans h.unserved, g.failOrder.trans h.failOrder⟩
  rcases h.amps i with same | ⟨t, pending, took⟩
  · rw [← same]
    exact g.amps i
  · rcases g.amps i with same | ⟨t', pending', -⟩
    · exact .inr ⟨t, pending, same.trans took⟩
    · rw [took] at pending'
      cases pending'

section FeedStep
variable {a b : Audio} (step : a.FeedStep b)
include step

theorem Audio.FeedStep.field {β : Type} (f : Amp → β) (blind : ∀ (x : Amp) (t : Feed), f { x with feed := t, pending := none } = f x)
    (i : Fin 12) : f b.amps[i] = f a.amps[i] := by
  rcases step.amps i with same | ⟨t, -, took⟩
  · rw [same]
  · rw [took, blind]

theorem Audio.FeedStep.roster : b.roster = a.roster :=
  Roster.ext (funext (step.field Amp.state fun _ _ => rfl)) (funext (step.field Amp.fault fun _ _ => rfl))
    (funext (step.field Amp.failedAt fun _ _ => rfl)) (funext fun g => step.field Amp.server (fun _ _ => rfl) (dutyAmp g))
    step.unserved step.failOrder

theorem Audio.FeedStep.carries {i : Fin 12} (none : a.amps[i].pending = none) : b.amps[i].carries = a.amps[i].carries := by
  rcases step.amps i with same | ⟨t, pending, -⟩
  · rw [same]
  · rw [none] at pending
    cases pending

end FeedStep

theorem Audio.boundary_feeds (a : Audio) (k : Fin 6) : a.FeedStep (a.boundary k) := by
  have only := (a.boundary_onlyAmps k).eq
  refine ⟨fun i => ?_, by rw [only], by rw [only]⟩
  rw [a.boundary_amps, Audio.pastBoundary]
  split
  · next t pending =>
    split
    · exact .inr ⟨t, pending, rfl⟩
    · exact .inl rfl
  · exact .inl rfl

/-- What the loss of players makes of a record of amplifier `i` (R121). -/
def Audio.pastLosses (before : Vector (Option (Fin 16)) 6) (a : Audio) (i : Fin 12) (x : Amp) : Amp :=
  match a.amps[i].pending, a.amps[i].feed.program? with
  | some t, some p =>
    if (heldBy before p).isSome && heldBy before p ≠ a.playerOf p then { x with feed := t, pending := none } else x
  | _, _ => x

theorem Audio.losses_amps (before : Vector (Option (Fin 16)) 6) (a : Audio) (j : Fin 12) :
    (Audio.losses before a).amps[j] = Audio.pastLosses before a j a.amps[j] := by
  unfold Audio.losses
  refine (foldl_amps (g := Audio.pastLosses before a) (fun b i j => ?_) (List.nodup_finRange 12) a j).trans
    (if_pos (List.mem_finRange j))
  unfold Audio.pastLosses
  cases a.amps[i].pending with
  | none => exact (ite_eq_right_iff.2 (by rintro rfl; rfl)).symm
  | some t =>
    cases a.amps[i].feed.program? with
    | none => exact (ite_eq_right_iff.2 (by rintro rfl; rfl)).symm
    | some p =>
      dsimp only
      split
      · exact b.switchTo_amps i j t
      · exact (ite_eq_right_iff.2 (by rintro rfl; rfl)).symm

theorem Audio.losses_onlyAmps (before : Vector (Option (Fin 16)) 6) (a : Audio) : a.OnlyAmps (Audio.losses before a) := by
  refine Audio.OnlyAmps.foldl (fun b i => ?_) _ a
  split
  · split
    · exact b.setAmp_onlyAmps i _
    · exact .refl b
  · exact .refl b

theorem Audio.losses_feeds (before : Vector (Option (Fin 16)) 6) (a : Audio) : a.FeedStep (Audio.losses before a) := by
  have only := (a.losses_onlyAmps before).eq
  refine ⟨fun i => ?_, by rw [only], by rw [only]⟩
  rw [a.losses_amps, Audio.pastLosses]
  split
  · next t p pending _ =>
    split
    · exact .inr ⟨t, pending, rfl⟩
    · exact .inl rfl
  · exact .inl rfl

theorem Audio.setImage_feeds (a : Audio) (image : Image) : a.FeedStep (a.setImage image) := by
  unfold Audio.setImage Audio.refresh
  split
  · exact .refl a
  · split
    · exact .of_amps rfl rfl rfl
    · exact .of_amps rfl rfl rfl

theorem Audio.decideAll_feeds (v : View) (a : Audio) : a.FeedStep (a.decideAll v) := by
  unfold Audio.decideAll
  exact .of_amps rfl rfl rfl

/-! ### Settling at the roster -/

/-- A return of R130 is due: a standby stands in for a RECOVERED amplifier and carries nothing. -/
structure Audio.ReturnDue (a : Audio) (k : Fin 10) (i : Fin 12) : Prop where
  standing : a.amps[i].state = .standingIn k
  recovered : a.amps[dutyAmp k].state = .recovered
  feed : a.amps[i].feed = .none
  pending : a.amps[i].pending = none

theorem Desk.returnOf_cases (v : View) (d : Desk) (i : Fin 12) :
    (∃ k, d.audio.ReturnDue k i ∧ d.returnOf v i = (d.mapAudio (Audio.giveBack v k i)).ampFault [dutyAmp k, i]) ∨
      ((∀ k, ¬ d.audio.ReturnDue k i) ∧ d.returnOf v i = d) := by
  unfold Desk.returnOf
  split
  · next k standing =>
    split
    · next due =>
      simp only [Bool.and_eq_true, decide_eq_true_eq, Option.isNone_iff_eq_none] at due
      exact .inl ⟨k, ⟨standing, due.1.1, due.1.2, due.2⟩, rfl⟩
    · next notDue =>
      refine .inr ⟨fun j due => notDue ?_, rfl⟩
      have same : j = k := by
        have := due.standing.symm.trans standing
        cases this
        rfl
      subst same
      simp only [Bool.and_eq_true, decide_eq_true_eq, Option.isNone_iff_eq_none]
      exact ⟨⟨due.recovered, due.feed⟩, due.pending⟩
  · next notStanding => exact .inr ⟨fun j due => notStanding j due.standing, rfl⟩

theorem Desk.passStart_ampFault (d : Desk) (k : Fin 6) : (d.passStart k).notices.ampFault = d.notices.ampFault := by
  have breaks : (d.breakProgram k).notices.ampFault = d.notices.ampFault := by
    unfold Desk.breakProgram
    split
    · rfl
    · rfl
  unfold Desk.passStart
  split
  · rfl
  · split
    · unfold Desk.enterSegment
      split
      · rfl
      · exact breaks
    · exact breaks

theorem Desk.pass_ampFault (v : View) (d : Desk) : (d.pass v).notices.ampFault = d.notices.ampFault :=
  List.foldlRecOn (motive := fun e : Desk => e.notices.ampFault = d.notices.ampFault) _ _ rfl fun e same k _ =>
    (e.passStart_ampFault k).trans same

/-- A zone decided again and the image stored, at the desk (R114, R122). -/
def Audio.decideImage (v : View) (a : Audio) : Audio :=
  (a.decideAll v).setImage ((a.decideAll v).imageOf v)

/-- The end of an event is the test of the two returns, standby 10 first, and every zone decided again. -/
theorem Desk.close_eq (v : View) (d : Desk) :
    d.close v = ((d.returnOf v 10).returnOf v 11).mapAudio (Audio.decideImage v) := rfl

theorem Audio.decideImage_feeds (v : View) (a : Audio) : a.FeedStep (a.decideImage v) :=
  (a.decideAll_feeds v).trans (Audio.setImage_feeds _ _)

section Settling
variable {v : View}

section Events
variable {P : Desk → Prop}
  (feeds : ∀ {d e : Desk}, d.audio.FeedStep e.audio → e.notices.ampFault = d.notices.ampFault → P d → P e)
  (back : ∀ {d : Desk} {k : Fin 10} {i : Fin 12}, i ∈ standbys → d.audio.ReturnDue k i → P d →
    P ((d.mapAudio (Audio.giveBack v k i)).ampFault [dutyAmp k, i]))
include feeds back

theorem Desk.close_event {d : Desk} (h : P d) : P (d.close v) := by
  have returns {d : Desk} {i : Fin 12} (standby : i ∈ standbys) (h : P d) : P (d.returnOf v i) := by
    rcases d.returnOf_cases v i with ⟨k, due, eq⟩ | ⟨-, eq⟩
    · rw [eq]
      exact back standby due h
    · rwa [eq]
  have returned : P ((d.returnOf v 10).returnOf v 11) := returns (by decide) (returns (by decide) h)
  rw [Desk.close_eq]
  exact feeds (Audio.decideImage_feeds v _) rfl returned

/-- What the taking of pending targets and the returns that are due keep, the settling of the pool keeps. -/
theorem Desk.settle_event (fuel : Nat) (before : Vector (Option (Fin 16)) 6) (force : Bool) {d : Desk} (h : P d) :
    P (d.settle v fuel before force) :=
  Desk.settle_induction (fun before d h => Desk.close_event feeds back
    (feeds (d := d.pass v) (Audio.losses_feeds before _) rfl (feeds (.of_same (d.pass_same v)) (d.pass_ampFault v) h)))
    fuel before force h

theorem Desk.finish_event {d : Desk} (h : P d) : P (d.finish v) :=
  Desk.settle_event feeds back _ _ _ (Desk.close_event feeds back h)

end Events

section Roster
variable {P : Roster → Prop}
  (back : ∀ {r : Roster} {k : Fin 10} {i : Fin 12}, i ∈ standbys → r.state i = .standingIn k →
    r.state (dutyAmp k) = .recovered → P r → P (r.giveBack k i))
include back

theorem Desk.finish_roster {d : Desk} (h : P d.audio.roster) : P (d.finish v).audio.roster :=
  Desk.finish_event (P := fun d => P d.audio.roster) (fun step _ h => step.roster ▸ h)
    (fun {d k i} standby due h => (d.audio.giveBack_roster v k i).symm ▸ back standby due.standing due.recovered h) h

end Roster

/-- AMP_FAULT details stay pending while the pool settles. -/
theorem Desk.finish_ampFault {d : Desk} {i : Fin 12} (raised : i ∈ d.notices.ampFault) :
    i ∈ (d.finish v).notices.ampFault :=
  Desk.finish_event (P := fun d => i ∈ d.notices.ampFault) (fun _ same h => same.symm ▸ h)
    (fun _ _ h => (mem_foldl_addMember i _ _).2 (.inr h)) raised

end Settling

end Sys2Proof.Machine
end

section
/-! SUPPORT. The events of the amplifier switching unit case by case (R126 to R131), and what is left of them once the pool has
settled. -/

namespace Sys2Proof.Machine

open Sys2Proof Function

/-! ### What the settling of the pool leaves of a group and of a standby -/

/-- A group as a duty amplifier's event leaves it: its amplifier's state, its server, and no place in the queue. -/
structure Roster.Group (r : Roster) (k : Fin 10) (st : AmpState) (server : Option (Fin 12)) : Prop where
  state : r.state (dutyAmp k) = st
  server : r.server k = server
  served : k ∉ r.unserved

/-- A standby in a state that no return of R130 changes. -/
structure Roster.Standby (r : Roster) (i : Fin 12) (st : AmpState) : Prop where
  state : r.state i = st
  kept : ∀ k, st = .standingIn k → r.state (dutyAmp k) ≠ .recovered

section Settled
variable {r : Roster} {v : View} {d : Desk} {k : Fin 10} {i : Fin 12} {st : AmpState}

theorem Roster.giveBack_duty (standby : i ∈ standbys) (j : Fin 10) :
    (r.giveBack k i).state (dutyAmp j) = if j = k then .normal else r.state (dutyAmp j) := by
  rw [r.giveBack_state (ne_dutyAmp_of_standby standby j).symm]
  by_cases same : j = k
  · rw [if_pos same, if_pos (congrArg dutyAmp same)]
  · rw [if_neg same, if_neg fun eq => same (dutyAmp_inj eq)]

theorem Roster.giveBack_group {j : Fin 10} {server : Option (Fin 12)} (standby : i ∈ standbys)
    (recovered : r.state (dutyAmp k) = .recovered) (other : st ≠ .recovered) (h : r.Group j st server) :
    (r.giveBack k i).Group j st server := by
  have apart : j ≠ k := by
    rintro rfl
    exact other (h.state.symm.trans recovered)
  refine ⟨?_, ?_, fun queued => h.served ?_⟩
  · rw [Roster.giveBack_duty standby, if_neg apart]
    exact h.state
  · rw [r.giveBack_server h.served, if_neg apart]
    exact h.server
  · rw [Roster.giveBack_unserved] at queued
    exact List.mem_of_mem_tail queued

theorem Roster.giveBack_standby {j : Fin 12} (standby : i ∈ standbys) (member : j ∈ standbys)
    (standing : r.state i = .standingIn k) (recovered : r.state (dutyAmp k) = .recovered) (h : r.Standby j st) :
    (r.giveBack k i).Standby j st := by
  have apart : j ≠ i := by
    rintro rfl
    exact h.kept k (h.state.symm.trans standing) recovered
  refine ⟨?_, fun l standing' => ?_⟩
  · rw [r.giveBack_state apart, if_neg (ne_dutyAmp_of_standby member k)]
    exact h.state
  · rw [Roster.giveBack_duty standby]
    split
    · exact nofun
    · exact h.kept l standing'

/-- A group off the queue, whose amplifier is not RECOVERED, keeps state and server. -/
theorem Desk.finish_group {server : Option (Fin 12)} (other : st ≠ .recovered) (h : d.audio.roster.Group k st server) :
    (d.finish v).audio.roster.Group k st server :=
  Desk.finish_roster (P := fun r => r.Group k st server)
    (fun standby _ recovered h => Roster.giveBack_group standby recovered other h) h

/-- A duty amplifier that is not RECOVERED keeps its state, and the moment it failed. -/
theorem Desk.finish_duty (other : d.audio.roster.state (dutyAmp k) ≠ .recovered) :
    (d.finish v).audio.roster.state (dutyAmp k) = d.audio.roster.state (dutyAmp k) ∧
      (d.finish v).audio.roster.failedAt = d.audio.roster.failedAt := by
  refine Desk.finish_roster (P := fun r => r.state (dutyAmp k) = d.audio.roster.state (dutyAmp k) ∧
    r.failedAt = d.audio.roster.failedAt) (fun {r h i} standby _ recovered kept => ?_) ⟨rfl, rfl⟩
  refine ⟨?_, r.giveBack_failedAt.trans kept.2⟩
  rw [Roster.giveBack_duty standby, if_neg fun same => other (by rw [← kept.1, same, recovered])]
  exact kept.1

/-- A standby that stands in for no RECOVERED amplifier keeps its state. -/
theorem Desk.finish_standby (standby : i ∈ standbys) (h : d.audio.roster.Standby i st) :
    (d.finish v).audio.roster.state i = st :=
  (Desk.finish_roster (P := fun r => r.Standby i st)
    (fun member standing recovered h => Roster.giveBack_standby member standby standing recovered h) h).state

/-- No standby that stands in for a RECOVERED amplifier can come to carry nothing. -/
def Audio.NoReturn (a : Audio) : Prop :=
  ∀ i ∈ standbys, ∀ k, a.roster.state i = .standingIn k → a.roster.state (dutyAmp k) = .recovered →
    a.amps[i].pending = none ∧ a.amps[i].feed ≠ .none

theorem Audio.NoReturn.feedStep {a b : Audio} (h : a.NoReturn) (step : a.FeedStep b) : b.NoReturn := by
  intro i standby k standing recovered
  rw [step.roster] at standing recovered
  obtain ⟨pending, feed⟩ := h i standby k standing recovered
  obtain ⟨feed', pending'⟩ := Amp.carries_eq (step.carries pending)
  exact ⟨pending'.trans pending, fun carries => feed (feed'.symm.trans carries)⟩

/-- The desk has made no return since `d`, and none can come. -/
structure Desk.Still (d e : Desk) : Prop where
  none : e.audio.NoReturn
  roster : e.audio.roster = d.audio.roster
  ampFault : e.notices.ampFault = d.notices.ampFault

/-- Where no return can come, the pool settles without any, and the unit keeps its roster. -/
theorem Desk.settle_still (h : d.audio.NoReturn) (fuel : Nat) (before : Vector (Option (Fin 16)) 6) (force : Bool) :
    d.Still (d.settle v fuel before force) :=
  Desk.settle_event (P := d.Still)
    (fun step same kept => ⟨kept.none.feedStep step, step.roster.trans kept.roster, same.trans kept.ampFault⟩)
    (fun standby due kept => absurd due.feed (kept.none _ standby _ due.standing due.recovered).2) fuel before force
    ⟨h, rfl, rfl⟩

theorem Desk.finish_still (h : d.audio.NoReturn) : d.Still (d.finish v) :=
  Desk.finish_event (P := d.Still)
    (fun step same kept => ⟨kept.none.feedStep step, step.roster.trans kept.roster, same.trans kept.ampFault⟩)
    (fun standby due kept => absurd due.feed (kept.none _ standby _ due.standing due.recovered).2) ⟨h, rfl, rfl⟩

/-- A return that is due is made where the other standby stands in for none. -/
theorem Desk.close_returns (standby : i ∈ standbys) (due : d.audio.ReturnDue k i)
    (alone : ∀ j, d.audio.roster.state (otherStandby i) ≠ .standingIn j) :
    (d.close v).audio.roster = d.audio.roster.giveBack k i ∧
      (d.close v).notices.ampFault = ((d.mapAudio (Audio.giveBack v k i)).ampFault [dutyAmp k, i]).notices.ampFault := by
  have returns : d.returnOf v i = (d.mapAudio (Audio.giveBack v k i)).ampFault [dutyAmp k, i] := by
    rcases d.returnOf_cases v i with ⟨l, due', eq⟩ | ⟨none, -⟩
    · have same := due.standing.symm.trans due'.standing
      cases same
      exact eq
    · exact absurd due (none k)
  have stays {e : Desk} (same : e.audio.roster.state (otherStandby i) = d.audio.roster.state (otherStandby i)) :
      e.returnOf v (otherStandby i) = e := by
    rcases e.returnOf_cases v (otherStandby i) with ⟨l, due', -⟩ | ⟨-, eq⟩
    · exact absurd (same.symm.trans due'.standing) (alone l)
    · exact eq
  have order : (d.returnOf v 10).returnOf v 11 = (d.mapAudio (Audio.giveBack v k i)).ampFault [dutyAmp k, i] := by
    rcases (by simpa [standbys] using standby : i = 10 ∨ i = 11) with rfl | rfl
    · rw [returns]
      refine stays ?_
      show (d.audio.giveBack v k 10).roster.state _ = _
      rw [Audio.giveBack_roster, Roster.giveBack_state _ (by decide), if_neg (ne_dutyAmp_of_standby (by decide) k)]
    · have first : d.returnOf v 10 = d := stays rfl
      rw [first, returns]
  rw [Desk.close_eq, order]
  exact ⟨(Audio.decideImage_feeds v _).roster.trans (d.audio.giveBack_roster v k i), rfl⟩

end Settled

/-! ### The events of duty amplifiers (R126, R127) -/

theorem Audio.idleStandby_some {a : Audio} {i : Fin 12} (found : a.idleStandby = some i) :
    i ∈ standbys ∧ a.amps[i].state = .idle :=
  ⟨List.mem_of_find?_eq_some found,
    of_decide_eq_true (List.find?_some (p := fun i : Fin 12 => a.amps[i].state = .idle) found)⟩

theorem Audio.idleStandby_none {a : Audio} : a.idleStandby = none ↔ ∀ i ∈ standbys, a.amps[i].state ≠ .idle := by
  rw [Audio.idleStandby, List.find?_eq_none]
  exact forall₂_congr fun i _ => by rw [decide_eq_true_eq]

theorem Audio.idleStandby_lowest {a : Audio} {i : Fin 12} (standby : i ∈ standbys) (idle : a.amps[i].state = .idle)
    (lowest : ∀ j ∈ standbys, j < i → a.amps[j].state ≠ .idle) : a.idleStandby = some i := by
  cases found : a.idleStandby with
  | none => exact absurd idle (Audio.idleStandby_none.1 found i standby)
  | some j =>
    obtain ⟨member, idle'⟩ := Audio.idleStandby_some found
    rcases Nat.lt_trichotomy j.val i.val with lower | same | higher
    · exact absurd idle' (lowest j member lower)
    · exact congrArg some (Fin.ext same)
    · have first : i = 10 ∧ j = 11 := by
        simp only [standbys, List.mem_cons, List.not_mem_nil, or_false] at standby member
        omega
      rw [first.1] at idle
      have : a.idleStandby = some 10 := by
        unfold Audio.idleStandby standbys
        exact List.find?_cons_of_pos (p := fun i : Fin 12 => a.amps[i].state = .idle) (decide_eq_true idle)
      rw [← found, this, first.1]

section Events
variable {v : View} {d : Desk} {k : Fin 10} {i : Fin 12}

theorem Desk.dutyFault_covers (normal : d.audio.amps[dutyAmp k].state = .normal)
    (idle : (d.audio.markFailed v k).idleStandby = some i) :
    d.dutyFault v k = ({ d with
      audio := ((d.audio.markFailed v k).setAmpState i (.standingIn k)).moveGroup v k (some i) }).ampFault
        [dutyAmp k, i] := by
  unfold Desk.dutyFault
  rw [normal]
  dsimp only
  rw [idle]

theorem Desk.dutyFault_waits (normal : d.audio.amps[dutyAmp k].state = .normal)
    (busy : (d.audio.markFailed v k).idleStandby = none) :
    d.dutyFault v k = ({ d with
      audio := ((d.audio.markFailed v k).moveGroup v k none).joinQueue k }).ampFault [dutyAmp k] := by
  unfold Desk.dutyFault
  rw [normal]
  dsimp only
  rw [busy]

theorem Desk.dutyFault_recovered (recovered : d.audio.amps[dutyAmp k].state = .recovered) :
    d.dutyFault v k = (d.mapAudio (Audio.markFailed v k)).ampFault [dutyAmp k] := by
  unfold Desk.dutyFault
  rw [recovered]

theorem Desk.dutyClear_covered (failed : d.audio.amps[dutyAmp k].state = .failed) (served : d.audio.serverOf k = some i) :
    d.dutyClear v k = (d.mapAudio fun a => a.setAmpState (dutyAmp k) .recovered).ampFault [dutyAmp k] := by
  unfold Desk.dutyClear
  rw [failed, served]

theorem Desk.dutyClear_waiting (failed : d.audio.amps[dutyAmp k].state = .failed) (waiting : d.audio.serverOf k = none) :
    d.dutyClear v k = (d.mapAudio fun a =>
      ((a.setAmpState (dutyAmp k) .normal).leaveQueue k).moveGroup v k (some (dutyAmp k))).ampFault [dutyAmp k] := by
  unfold Desk.dutyClear
  rw [failed, waiting]

theorem Desk.standbyFault_idle (idle : d.audio.amps[i].state = .idle) :
    d.standbyFault v i = (d.mapAudio fun a => a.setAmpState i .failed).ampFault [i] := by
  unfold Desk.standbyFault
  rw [idle]
  rfl

theorem Desk.standbyFault_returns (standing : d.audio.amps[i].state = .standingIn k)
    (recovered : (d.audio.setAmpState i .failed).amps[dutyAmp k].state = .recovered) :
    d.standbyFault v i = (d.mapAudio fun a =>
      ((a.setAmpState i .failed).moveGroup v k (some (dutyAmp k))).setAmpState (dutyAmp k) .normal).ampFault
        [i, dutyAmp k] := by
  unfold Desk.standbyFault
  rw [standing]
  exact if_pos recovered

theorem Desk.standbyFault_moves (standing : d.audio.amps[i].state = .standingIn k)
    (failed : (d.audio.setAmpState i .failed).amps[dutyAmp k].state ≠ .recovered)
    (idle : (d.audio.setAmpState i .failed).amps[otherStandby i].state = .idle) :
    d.standbyFault v i = (d.mapAudio fun a =>
      ((a.setAmpState i .failed).setAmpState (otherStandby i) (.standingIn k)).moveGroup v k (some (otherStandby i))).ampFault
        [i, otherStandby i] := by
  unfold Desk.standbyFault
  rw [standing]
  exact (if_neg failed).trans (if_pos idle)

theorem Desk.standbyFault_waits (standing : d.audio.amps[i].state = .standingIn k)
    (failed : (d.audio.setAmpState i .failed).amps[dutyAmp k].state ≠ .recovered)
    (busy : (d.audio.setAmpState i .failed).amps[otherStandby i].state ≠ .idle) :
    d.standbyFault v i = (d.mapAudio fun a =>
      ((a.setAmpState i .failed).moveGroup v k none).joinQueue k).ampFault [i] := by
  unfold Desk.standbyFault
  rw [standing]
  exact (if_neg failed).trans (if_neg busy)

theorem Desk.standbyClear_failed (failed : d.audio.amps[i].state = .failed) :
    d.standbyClear v i = (d.mapAudio fun a => (a.setAmpState i .idle).serveQueue v i).ampFault [i] := by
  unfold Desk.standbyClear
  rw [failed]

/-- No event that a fault change brings touches the debounced faults and the run counts again. -/
theorem Desk.faultChange_samples : ((d.faultChange v i).finish v).audio.amps[i].fault = !d.audio.amps[i].fault ∧
    ((d.faultChange v i).finish v).audio.amps[i].run = 0 := by
  have noted : (d.noteFault i).audio.amps[i] = { d.audio.amps[i] with fault := !d.audio.amps[i].fault, run := 0 } :=
    (d.audio.setAmp_amps i i _).trans (if_pos rfl)
  have changed := d.faultChange_switch v i
  have settled := ((d.faultChange v i).finish_keeps v).faults i
  rw [settled.1, settled.2, changed.faults, changed.runs, noted]
  exact ⟨rfl, rfl⟩

end Events

end Sys2Proof.Machine
end

section
/-! O47: the faults of duty amplifiers (R124, R126, R127, R130). -/

namespace Sys2Proof.Machine

open Sys2Proof Function

theorem index?_duty (k : Fin 10) : index? 10 (dutyAmp k).val = some k := index?_some_iff.2 rfl

theorem index?_standby {i : Fin 12} (standby : i ∈ standbys) : index? 10 i.val = none :=
  index?_none_iff.2 (mem_standbys.1 standby)

theorem exec_faultChange (i : Fin 12) (s : State) :
    exec (.debouncedFaultChange i) s = .next (s.onDesk fun v d => (d.faultChange v i).finish v) := rfl

theorem State.onDesk_onlyAudio (s : State) (f : View → Desk → Desk) : s.OnlyAudio (s.onDesk f) := rfl

theorem Desk.noteFault_carries (d : Desk) (i j : Fin 12) : (d.noteFault i).audio.amps[j].carries = d.audio.amps[j].carries := by
  show (d.audio.setAmp i _).amps[j].carries = _
  rw [Audio.setAmp_amps]
  split
  · next same => rw [← same]; rfl
  · rfl

theorem Audio.setAmpState_carries (a : Audio) (i j : Fin 12) (st : AmpState) :
    (a.setAmpState i st).amps[j].carries = a.amps[j].carries := by
  rw [Audio.setAmpState_amps]
  split
  · next same => rw [← same]; rfl
  · rfl

theorem Notices.mem_raiseAmpFault {n : Notices} {l : List (Fin 12)} {i : Fin 12} :
    i ∈ (n.raiseAmpFault l).ampFault ↔ i ∈ l ∨ i ∈ n.ampFault := mem_foldl_addMember i l _

/-! ### What a fault change is -/

section Change
variable {v : View} {d : Desk} {k : Fin 10} {i : Fin 12}

theorem Desk.faultChange_dutyFault (quiet : d.audio.amps[dutyAmp k].fault = false) :
    d.faultChange v (dutyAmp k) = (d.noteFault (dutyAmp k)).dutyFault v k := by
  rw [Desk.faultChange_eq, index?_duty, quiet]
  rfl

theorem Desk.faultChange_dutyClear (faulty : d.audio.amps[dutyAmp k].fault = true) :
    d.faultChange v (dutyAmp k) = (d.noteFault (dutyAmp k)).dutyClear v k := by
  rw [Desk.faultChange_eq, index?_duty, faulty]
  rfl

theorem Desk.faultChange_standbyFault (standby : i ∈ standbys) (quiet : d.audio.amps[i].fault = false) :
    d.faultChange v i = (d.noteFault i).standbyFault v i := by
  rw [Desk.faultChange_eq, index?_standby standby, quiet]
  rfl

theorem Desk.faultChange_standbyClear (standby : i ∈ standbys) (faulty : d.audio.amps[i].fault = true) :
    d.faultChange v i = (d.noteFault i).standbyClear v i := by
  rw [Desk.faultChange_eq, index?_standby standby, faulty]
  rfl

end Change

/-! ### A duty amplifier's fault appears (R126) -/

theorem Roster.markFailed_state (r : Roster) (k : Fin 10) (now : Tick) (j : Fin 12) :
    (r.markFailed k now).state j = if j = dutyAmp k then .failed else r.state j := update_apply ..

section DutyFault
variable {v : View} {d : Desk} {k : Fin 10} {i : Fin 12}

theorem Audio.markFailed_state (a : Audio) (v : View) (k : Fin 10) (standby : i ∈ standbys) :
    (a.markFailed v k).amps[i].state = a.amps[i].state := by
  have roster := congrFun (congrArg Roster.state (a.markFailed_roster v k)) i
  rw [Roster.markFailed_state, if_neg (ne_dutyAmp_of_standby standby k)] at roster
  exact roster

/-- The roster after the group of a failed amplifier has moved to an IDLE standby. -/
theorem Desk.dutyFault_covers_roster (normal : d.audio.amps[dutyAmp k].state = .normal)
    (idle : (d.audio.markFailed v k).idleStandby = some i) :
    (d.dutyFault v k).audio.roster =
      ((d.audio.roster.markFailed k v.now).setState i (.standingIn k)).move k (some i) := by
  rw [Desk.dutyFault_covers normal idle]
  exact (Audio.moveGroup_roster _ v k _).trans (congrArg (Roster.move · k (some i)) ((Audio.setAmpState_roster _ i _).trans
    (congrArg (Roster.setState · i (.standingIn k)) (d.audio.markFailed_roster v k))))

/-- The roster after the group of a failed amplifier has joined the queue. -/
theorem Desk.dutyFault_waits_roster (normal : d.audio.amps[dutyAmp k].state = .normal)
    (busy : (d.audio.markFailed v k).idleStandby = none) :
    (d.dutyFault v k).audio.roster = { (d.audio.roster.markFailed k v.now).move k none with
      unserved := ((d.audio.failOrder.filter fun j => j ≠ k) ++ [k]).filter fun j => j = k || d.audio.unserved.contains j } := by
  have moved := (Audio.moveGroup_roster (d.audio.markFailed v k) v k none).trans
    (congrArg (Roster.move · k none) (d.audio.markFailed_roster v k))
  rw [Desk.dutyFault_waits normal busy]
  have only := (Audio.moveGroup_onlyAmps v k none (d.audio.markFailed v k)).eq
  show { ((d.audio.markFailed v k).moveGroup v k none).roster with
    unserved := (((d.audio.markFailed v k).moveGroup v k none).failOrder.filter fun j =>
      j = k || ((d.audio.markFailed v k).moveGroup v k none).unserved.contains j) } = _
  rw [moved, only]
  rfl

theorem Desk.dutyFault_recovered_roster (recovered : d.audio.amps[dutyAmp k].state = .recovered) :
    (d.dutyFault v k).audio.roster = d.audio.roster.markFailed k v.now := by
  rw [Desk.dutyFault_recovered recovered]
  exact d.audio.markFailed_roster v k

/-- A fault makes a NORMAL or RECOVERED amplifier FAILED, now, with AMP_FAULT. -/
theorem Desk.dutyFault_fails
    (working : d.audio.amps[dutyAmp k].state = .normal ∨ d.audio.amps[dutyAmp k].state = .recovered) :
    (d.dutyFault v k).audio.roster.state (dutyAmp k) = .failed ∧
      (d.dutyFault v k).audio.roster.failedAt (dutyAmp k) = some v.now ∧
      dutyAmp k ∈ (d.dutyFault v k).notices.ampFault := by
  have state := (d.audio.roster.markFailed_state k v.now (dutyAmp k)).trans (if_pos rfl)
  have failedAt : (d.audio.roster.markFailed k v.now).failedAt (dutyAmp k) = some v.now := update_self ..
  rcases working with normal | recovered
  · cases idle : (d.audio.markFailed v k).idleStandby with
    | some i =>
      have apart := (ne_dutyAmp_of_standby (Audio.idleStandby_some idle).1 k).symm
      rw [Desk.dutyFault_covers_roster normal idle, Desk.dutyFault_covers normal idle]
      exact ⟨((Roster.setState_state _ i _ _).trans (if_neg apart)).trans state, failedAt,
        Notices.mem_raiseAmpFault.2 (.inl List.mem_cons_self)⟩
    | none =>
      rw [Desk.dutyFault_waits_roster normal idle, Desk.dutyFault_waits normal idle]
      exact ⟨state, failedAt, Notices.mem_raiseAmpFault.2 (.inl List.mem_cons_self)⟩
  · rw [Desk.dutyFault_recovered_roster recovered, Desk.dutyFault_recovered recovered]
    exact ⟨state, failedAt, Notices.mem_raiseAmpFault.2 (.inl List.mem_cons_self)⟩

end DutyFault

/-- Standbys that are FAILED or stand in for FAILED amplifiers have no group to return. -/
theorem Audio.NoReturn.of_states {a : Audio} (h : ∀ i ∈ standbys, ∀ k, a.roster.state i = .standingIn k →
    a.roster.state (dutyAmp k) ≠ .recovered) : a.NoReturn := fun i standby k standing recovered =>
  absurd recovered (h i standby k standing)

section DutySettled
variable {v : View} {d : Desk} {k : Fin 10} {i : Fin 12}

theorem Desk.dutyFault_settled
    (working : d.audio.amps[dutyAmp k].state = .normal ∨ d.audio.amps[dutyAmp k].state = .recovered) :
    ((d.dutyFault v k).finish v).audio.roster.state (dutyAmp k) = .failed ∧
      ((d.dutyFault v k).finish v).audio.roster.failedAt (dutyAmp k) = some v.now ∧
      dutyAmp k ∈ ((d.dutyFault v k).finish v).notices.ampFault := by
  obtain ⟨state, failedAt, raised⟩ := Desk.dutyFault_fails (v := v) working
  obtain ⟨kept, keptAt⟩ := Desk.finish_duty (v := v) (d := d.dutyFault v k) (k := k) (by rw [state]; exact nofun)
  exact ⟨kept.trans state, (congrFun keptAt (dutyAmp k)).trans failedAt, Desk.finish_ampFault raised⟩

/-- The group of a RECOVERED amplifier that fails stays where it is. -/
theorem Desk.dutyFault_stays (recovered : d.audio.amps[dutyAmp k].state = .recovered) (served : k ∉ d.audio.unserved) :
    ((d.dutyFault v k).finish v).audio.roster.server k = d.audio.serverOf k := by
  refine (Desk.finish_group (v := v) (d := d.dutyFault v k) (k := k) (st := .failed) nofun ⟨?_, ?_, ?_⟩).server
  · exact (Desk.dutyFault_fails (.inr recovered)).1
  · rw [Desk.dutyFault_recovered_roster recovered]
    rfl
  · rw [Desk.dutyFault_recovered_roster recovered]
    exact served

/-- The group of a NORMAL amplifier that fails moves to the lowest IDLE standby. -/
theorem Desk.dutyFault_moves (normal : d.audio.amps[dutyAmp k].state = .normal) (served : k ∉ d.audio.unserved)
    (standby : i ∈ standbys) (idle : d.audio.amps[i].state = .idle)
    (lowest : ∀ j ∈ standbys, j < i → d.audio.amps[j].state ≠ .idle) :
    ((d.dutyFault v k).finish v).audio.roster.state i = .standingIn k ∧
      ((d.dutyFault v k).finish v).audio.roster.server k = some i ∧ i ∈ ((d.dutyFault v k).finish v).notices.ampFault := by
  have found : (d.audio.markFailed v k).idleStandby = some i :=
    Audio.idleStandby_lowest standby ((d.audio.markFailed_state v k standby).trans idle) fun j member lower => by
      rw [d.audio.markFailed_state v k member]
      exact lowest j member lower
  have roster := Desk.dutyFault_covers_roster normal found
  have failed := (Desk.dutyFault_fails (v := v) (.inl normal)).1
  refine ⟨Desk.finish_standby standby ⟨?_, fun l same => ?_⟩, (Desk.finish_group (st := .failed) nofun ⟨failed, ?_, ?_⟩).server,
    Desk.finish_ampFault ?_⟩
  · rw [roster]
    exact update_self ..
  · cases same
    rw [failed]
    exact nofun
  · rw [roster]
    exact update_self ..
  · rw [roster]
    exact served
  · rw [Desk.dutyFault_covers normal found]
    exact Notices.mem_raiseAmpFault.2 (.inl (List.mem_cons_of_mem _ List.mem_cons_self))

/-- The group of a NORMAL amplifier that fails joins the queue where both standbys are FAILED or stand in for a FAILED
amplifier. -/
theorem Desk.dutyFault_queues (normal : d.audio.amps[dutyAmp k].state = .normal)
    (busy : ∀ i ∈ standbys, d.audio.amps[i].state = .failed ∨
      ∃ j, d.audio.amps[i].state = .standingIn j ∧ d.audio.amps[dutyAmp j].state = .failed) :
    ((d.dutyFault v k).finish v).audio.roster.server k = none ∧ k ∈ ((d.dutyFault v k).finish v).audio.roster.unserved := by
  have none : (d.audio.markFailed v k).idleStandby = none := Audio.idleStandby_none.2 fun i standby => by
    rw [d.audio.markFailed_state v k standby]
    rcases busy i standby with failed | ⟨j, standing, -⟩
    · rw [failed]; exact nofun
    · rw [standing]; exact nofun
  have roster := Desk.dutyFault_waits_roster normal none
  have still : (d.dutyFault v k).audio.NoReturn := .of_states fun i standby j standing => by
    rw [roster] at standing ⊢
    have standing' : d.audio.amps[i].state = .standingIn j :=
      ((d.audio.roster.markFailed_state k v.now i).trans (if_neg (ne_dutyAmp_of_standby standby k))).symm.trans standing
    change (d.audio.roster.markFailed k v.now).state (dutyAmp j) ≠ _
    rw [Roster.markFailed_state]
    split
    · exact nofun
    · rcases busy i standby with failed | ⟨l, standing, failed⟩
      · rw [failed] at standing'
        cases standing'
      · rw [standing] at standing'
        cases standing'
        exact fun recovered => nomatch failed.symm.trans recovered
  have settled := (Desk.finish_still (v := v) still).roster.trans roster
  refine ⟨(congrFun (congrArg Roster.server settled) k).trans (update_self ..), ?_⟩
  have queue : ((d.dutyFault v k).finish v).audio.roster.unserved = _ := congrArg Roster.unserved settled
  rw [queue]
  simp

/-! ### A duty amplifier's fault is gone (R127, R130) -/

/-- An amplifier without a server is NORMAL again, with its group, off the queue. -/
theorem Desk.dutyClear_serves (failed : d.audio.amps[dutyAmp k].state = .failed) (waiting : d.audio.serverOf k = none) :
    ((d.dutyClear v k).finish v).audio.roster.Group k .normal (some (dutyAmp k)) ∧
      dutyAmp k ∈ ((d.dutyClear v k).finish v).notices.ampFault := by
  rw [Desk.dutyClear_waiting failed waiting]
  have left (a : Audio) : (a.leaveQueue k).roster = { a.roster with unserved := a.unserved.filter fun j => j ≠ k } := rfl
  refine ⟨Desk.finish_group nofun ?_, Desk.finish_ampFault (Notices.mem_raiseAmpFault.2 (.inl List.mem_cons_self))⟩
  have roster : ((((d.audio.setAmpState (dutyAmp k) .normal).leaveQueue k).moveGroup v k (some (dutyAmp k)))).roster =
      ({ d.audio.roster.setState (dutyAmp k) .normal with
        unserved := d.audio.unserved.filter fun j => j ≠ k } : Roster).move k (some (dutyAmp k)) := by
    rw [Audio.moveGroup_roster, left, Audio.setAmpState_roster]
    rfl
  show Roster.Group (Audio.roster _) k _ _
  dsimp only [Desk.ampFault, Desk.mapAudio]
  rw [roster]
  exact ⟨update_self .., update_self .., fun queued => by simp [Roster.move] at queued⟩

/-- A covered amplifier is RECOVERED. -/
theorem Desk.dutyClear_recovers (failed : d.audio.amps[dutyAmp k].state = .failed) (served : d.audio.serverOf k = some i) :
    (d.dutyClear v k).audio = d.audio.setAmpState (dutyAmp k) .recovered ∧
      dutyAmp k ∈ ((d.dutyClear v k).finish v).notices.ampFault := by
  rw [Desk.dutyClear_covered failed served]
  exact ⟨rfl, Desk.finish_ampFault (Notices.mem_raiseAmpFault.2 (.inl List.mem_cons_self))⟩

section Covered
variable (failed : d.audio.amps[dutyAmp k].state = .failed) (standby : i ∈ standbys)
  (served : d.audio.serverOf k = some i) (standing : d.audio.amps[i].state = .standingIn k)
  (pending : d.audio.amps[i].pending = none) (alone : ∀ j, d.audio.amps[otherStandby i].state ≠ .standingIn j)
include failed standby served standing pending alone

/-- A covered amplifier stays RECOVERED while its standby carries a feed. -/
theorem Desk.dutyClear_carrying (feed : d.audio.amps[i].feed ≠ .none) :
    ((d.dutyClear v k).finish v).audio.roster.state (dutyAmp k) = .recovered ∧
      ((d.dutyClear v k).finish v).audio.roster.server k = some i ∧
      ((d.dutyClear v k).finish v).audio.roster.state i = .standingIn k := by
  have audio := (Desk.dutyClear_recovers (v := v) failed served).1
  have roster : (d.dutyClear v k).audio.roster = d.audio.roster.setState (dutyAmp k) .recovered := by
    rw [audio, Audio.setAmpState_roster]
  have state (j : Fin 12) (other : j ∈ standbys) : (d.dutyClear v k).audio.roster.state j = d.audio.amps[j].state := by
    rw [roster, Roster.setState_state, if_neg (ne_dutyAmp_of_standby other k)]
    rfl
  have still : (d.dutyClear v k).audio.NoReturn := fun j other l standing' _ => by
    rw [state j other] at standing'
    have same : j = i := (eq_or_eq_other standby other).resolve_right fun eq => alone l (eq ▸ standing')
    rw [same, audio]
    obtain ⟨feed', pending'⟩ := Amp.carries_eq (d.audio.setAmpState_carries (dutyAmp k) i .recovered)
    exact ⟨pending'.trans pending, fun carries => feed (feed'.symm.trans carries)⟩
  have settled := (Desk.finish_still (v := v) still).roster
  refine ⟨(congrFun (congrArg Roster.state settled) _).trans ?_, (congrFun (congrArg Roster.server settled) k).trans ?_,
    (congrFun (congrArg Roster.state settled) i).trans ((state i standby).trans standing)⟩
  · rw [roster]
    exact update_self ..
  · rw [roster]
    exact served

/-- A covered amplifier whose standby carries nothing is NORMAL at once. -/
theorem Desk.dutyClear_returns (feed : d.audio.amps[i].feed = .none) (empty : d.audio.unserved = []) :
    ((d.dutyClear v k).finish v).audio.roster.state (dutyAmp k) = .normal ∧
      ((d.dutyClear v k).finish v).audio.roster.server k = some (dutyAmp k) ∧
      ((d.dutyClear v k).finish v).audio.roster.state i = .idle ∧
      i ∈ ((d.dutyClear v k).finish v).notices.ampFault := by
  have audio := (Desk.dutyClear_recovers (v := v) failed served).1
  have roster : (d.dutyClear v k).audio.roster = d.audio.roster.setState (dutyAmp k) .recovered := by
    rw [audio, Audio.setAmpState_roster]
  have state (j : Fin 12) (other : j ∈ standbys) : (d.dutyClear v k).audio.roster.state j = d.audio.amps[j].state := by
    rw [roster, Roster.setState_state, if_neg (ne_dutyAmp_of_standby other k)]
    rfl
  obtain ⟨feed', pending'⟩ := Amp.carries_eq (d.audio.setAmpState_carries (dutyAmp k) i .recovered)
  have due : (d.dutyClear v k).audio.ReturnDue k i := by
    refine ⟨(state i standby).trans standing, ?_, ?_, ?_⟩
    · exact (congrFun (congrArg Roster.state roster) _).trans (update_self ..)
    · rw [audio]; exact feed'.trans feed
    · rw [audio]; exact pending'.trans pending
  obtain ⟨returned, raised⟩ := Desk.close_returns (v := v) standby due fun j => by
    rw [state _ (otherStandby_mem i)]
    exact alone j
  rw [roster, Roster.giveBack_empty _ empty] at returned
  have at_ (j : Fin 12) := (congrFun (congrArg Roster.state returned) j).trans (Roster.returned_state _ k i j)
  have still : ((d.dutyClear v k).close v).audio.NoReturn := .of_states fun j other l standing' => by
    rw [at_] at standing'
    rcases eq_or_eq_other standby other with same | same
    · rw [if_pos same] at standing'
      cases standing'
    · rw [if_neg (same ▸ otherStandby_ne standby), if_neg (ne_dutyAmp_of_standby other k), Roster.setState_state,
        if_neg (ne_dutyAmp_of_standby other k), same] at standing'
      exact absurd standing' (alone l)
  have settled := Desk.settle_still (v := v) still settleFuel ((d.dutyClear v k).close v).audio.holding false
  have duty := (ne_dutyAmp_of_standby standby k).symm
  refine ⟨(congrFun (congrArg Roster.state settled.roster) _).trans ((at_ _).trans ?_),
    (congrFun (congrArg Roster.server settled.roster) k).trans ?_,
    (congrFun (congrArg Roster.state settled.roster) i).trans ((at_ i).trans (if_pos rfl)), ?_⟩
  · rw [if_neg duty, if_pos rfl]
  · rw [returned, Roster.returned_server, if_pos rfl]
  · refine settled.ampFault ▸ raised ▸ Notices.mem_raiseAmpFault.2 (.inl ?_)
    exact List.mem_cons_of_mem _ List.mem_cons_self

end Covered

end DutySettled

/-- Settles O47, by what each event does to the roster and what the settling of the pool leaves of it. -/
theorem dutyAmplifierFaults : Obligations.DutyAmplifierFaults := by
  unfold Obligations.DutyAmplifierFaults
  intro k s amp
  obtain ⟨d, desk⟩ : ∃ d : Desk, d = { audio := s.audio, notices := s.notices } := ⟨_, rfl⟩
  have audio : s.audio = d.audio := congrArg Desk.audio desk.symm
  have changed : amp = d.audio.amps[dutyAmp k] := by rw [← audio]
  refine ⟨_, exec_faultChange _ s, s.onDesk_onlyAudio _, ?_⟩
  rw [State.onDesk_audio, State.onDesk_notices, ← desk, audio, changed]
  obtain ⟨fault, run⟩ := Desk.faultChange_samples (v := s.view) (d := d) (i := dutyAmp k)
  have noted := d.noteFault_roster (dutyAmp k)
  have state (j : Fin 12) : (d.noteFault (dutyAmp k)).audio.amps[j].state = d.audio.amps[j].state :=
    congrFun (congrArg Roster.state noted) j
  have server : (d.noteFault (dutyAmp k)).audio.serverOf k = d.audio.serverOf k :=
    congrFun (congrArg Roster.server noted) k
  have unserved : (d.noteFault (dutyAmp k)).audio.unserved = d.audio.unserved := congrArg Roster.unserved noted
  simp only [← Audio.roster_state, ← Audio.roster_failedAt, ← Audio.roster_server, ← Audio.roster_unserved] at *
  refine ⟨fault, run, fun working quiet served => ?appears, fun failed faulty => ?gone⟩
  case appears =>
    rw [Desk.faultChange_dutyFault quiet]
    rw [← state] at working
    rw [← unserved] at served
    obtain ⟨fails, at_, raised⟩ := Desk.dutyFault_settled (v := s.view) working
    refine ⟨fails, at_, raised, fun recovered => (Desk.dutyFault_stays ((state _).trans recovered) served).trans server,
      fun i standby normal idle lowest => Desk.dutyFault_moves ((state _).trans normal) served standby
        ((state _).trans idle) fun j member lower there => lowest j member lower ((state j).symm.trans there),
      fun normal busy => Desk.dutyFault_queues ((state _).trans normal) fun i standby => ?_⟩
    exact (busy i standby).imp (state i).trans fun ⟨j, standing, fails⟩ =>
      ⟨j, (state i).trans standing, (state _).trans fails⟩
  case gone =>
    rw [Desk.faultChange_dutyClear faulty]
    rw [← state] at failed
    refine ⟨?_, fun waiting => ?_, fun i standby serves standing pending alone => ?_⟩
    · cases serves : (d.noteFault (dutyAmp k)).audio.serverOf k with
      | none => exact (Desk.dutyClear_serves failed serves).2
      | some i => exact (Desk.dutyClear_recovers failed serves).2
    · have group := (Desk.dutyClear_serves (v := s.view) failed (server.trans waiting)).1
      exact ⟨group.state, group.server, group.served⟩
    · obtain ⟨feed, pending'⟩ := Amp.carries_eq (d.noteFault_carries (dutyAmp k) i)
      have alone' (j : Fin 10) (there : (d.noteFault (dutyAmp k)).audio.amps[otherStandby i].state = .standingIn j) : False :=
        alone j ((state _).symm.trans there)
      exact ⟨fun carries => Desk.dutyClear_carrying failed standby (server.trans serves) ((state i).trans standing)
          (pending'.trans pending) alone' fun none => carries (feed.symm.trans none),
        fun nothing empty => Desk.dutyClear_returns failed standby (server.trans serves) ((state i).trans standing)
          (pending'.trans pending) alone' (feed.trans nothing) (unserved.trans empty)⟩

end Sys2Proof.Machine
end

section
/-! O48: the faults of standbys (R124, R128 to R130). -/

namespace Sys2Proof.Machine

open Sys2Proof Function

section Standby
variable {v : View} {d : Desk} {k : Fin 10} {i : Fin 12}

/-! ### A standby's fault appears (R128) -/

/-- The states after a standby has failed are those before, its own apart. -/
theorem Audio.failed_state (a : Audio) {j : Fin 12} (other : j ≠ i) :
    (a.setAmpState i .failed).amps[j].state = a.amps[j].state := by
  rw [Audio.setAmpState_amps, if_neg other.symm]

/-- The roster after the group of a failed standby has gone back to its RECOVERED amplifier. -/
theorem Desk.standbyFault_returns_roster (standby : i ∈ standbys) (standing : d.audio.amps[i].state = .standingIn k)
    (recovered : d.audio.amps[dutyAmp k].state = .recovered) :
    (d.standbyFault v i).audio.roster =
      ((d.audio.roster.setState i .failed).move k (some (dutyAmp k))).setState (dutyAmp k) .normal := by
  rw [Desk.standbyFault_returns standing
    ((d.audio.failed_state (ne_dutyAmp_of_standby standby k).symm).trans recovered)]
  exact (Audio.setAmpState_roster _ _ _).trans (congrArg (Roster.setState · _ _) ((Audio.moveGroup_roster _ v k _).trans
    (congrArg (Roster.move · _ _) (d.audio.setAmpState_roster i _))))

/-- The roster after the group of a failed standby has moved to the other one. -/
theorem Desk.standbyFault_moves_roster (standby : i ∈ standbys) (standing : d.audio.amps[i].state = .standingIn k)
    (failed : d.audio.amps[dutyAmp k].state ≠ .recovered) (idle : d.audio.amps[otherStandby i].state = .idle) :
    (d.standbyFault v i).audio.roster =
      ((d.audio.roster.setState i .failed).setState (otherStandby i) (.standingIn k)).move k (some (otherStandby i)) := by
  rw [Desk.standbyFault_moves standing (by rwa [d.audio.failed_state (ne_dutyAmp_of_standby standby k).symm])
    ((d.audio.failed_state (otherStandby_ne standby)).trans idle)]
  exact (Audio.moveGroup_roster _ v k _).trans (congrArg (Roster.move · _ _) ((Audio.setAmpState_roster _ _ _).trans
    (congrArg (Roster.setState · _ _) (d.audio.setAmpState_roster i _))))

/-- The roster after the group of a failed standby has joined the queue. -/
theorem Desk.standbyFault_waits_roster (standby : i ∈ standbys) (standing : d.audio.amps[i].state = .standingIn k)
    (failed : d.audio.amps[dutyAmp k].state ≠ .recovered) (busy : d.audio.amps[otherStandby i].state ≠ .idle) :
    (d.standbyFault v i).audio.roster = { (d.audio.roster.setState i .failed).move k none with
      unserved := d.audio.failOrder.filter fun j => j = k || d.audio.unserved.contains j } := by
  rw [Desk.standbyFault_waits standing (by rwa [d.audio.failed_state (ne_dutyAmp_of_standby standby k).symm])
    (by rwa [d.audio.failed_state (otherStandby_ne standby)])]
  have moved := (Audio.moveGroup_roster (d.audio.setAmpState i .failed) v k none).trans
    (congrArg (Roster.move · k none) (d.audio.setAmpState_roster i _))
  have only := (Audio.moveGroup_onlyAmps v k none (d.audio.setAmpState i .failed)).eq
  show { ((d.audio.setAmpState i .failed).moveGroup v k none).roster with
    unserved := (((d.audio.setAmpState i .failed).moveGroup v k none).failOrder.filter fun j =>
      j = k || ((d.audio.setAmpState i .failed).moveGroup v k none).unserved.contains j) } = _
  rw [moved, only]
  rfl

/-- A fault makes a standby FAILED, with AMP_FAULT, whatever becomes of the group it carried. -/
theorem Desk.standbyFault_fails (standby : i ∈ standbys)
    (working : d.audio.amps[i].state = .idle ∨ ∃ k, d.audio.amps[i].state = .standingIn k) :
    (d.standbyFault v i).audio.roster.state i = .failed ∧ i ∈ (d.standbyFault v i).notices.ampFault := by
  have set : (d.audio.roster.setState i .failed).state i = .failed := update_self ..
  rcases working with idle | ⟨k, standing⟩
  · rw [Desk.standbyFault_idle idle]
    exact ⟨(congrFun (congrArg Roster.state (d.audio.setAmpState_roster i .failed)) i).trans set,
      Notices.mem_raiseAmpFault.2 (.inl List.mem_cons_self)⟩
  · have duty := ne_dutyAmp_of_standby standby k
    have same {j : Fin 12} (other : j ≠ i) := d.audio.failed_state other
    by_cases recovered : d.audio.amps[dutyAmp k].state = .recovered
    · rw [Desk.standbyFault_returns_roster standby standing recovered,
        Desk.standbyFault_returns standing ((same duty.symm).trans recovered)]
      exact ⟨((Roster.setState_state _ _ i _).trans (if_neg duty)).trans set,
        Notices.mem_raiseAmpFault.2 (.inl List.mem_cons_self)⟩
    · by_cases idle : d.audio.amps[otherStandby i].state = .idle
      · rw [Desk.standbyFault_moves_roster standby standing recovered idle,
          Desk.standbyFault_moves standing (by rwa [same duty.symm]) ((same (otherStandby_ne standby)).trans idle)]
        exact ⟨((Roster.setState_state _ _ i _).trans (if_neg (otherStandby_ne standby).symm)).trans set,
          Notices.mem_raiseAmpFault.2 (.inl List.mem_cons_self)⟩
      · rw [Desk.standbyFault_waits_roster standby standing recovered idle,
          Desk.standbyFault_waits standing (by rwa [same duty.symm]) (by rwa [same (otherStandby_ne standby)])]
        exact ⟨set, Notices.mem_raiseAmpFault.2 (.inl List.mem_cons_self)⟩

theorem Desk.standbyFault_settled (standby : i ∈ standbys)
    (working : d.audio.amps[i].state = .idle ∨ ∃ k, d.audio.amps[i].state = .standingIn k) :
    ((d.standbyFault v i).finish v).audio.roster.state i = .failed ∧
      i ∈ ((d.standbyFault v i).finish v).notices.ampFault := by
  obtain ⟨failed, raised⟩ := Desk.standbyFault_fails (v := v) standby working
  exact ⟨Desk.finish_standby standby ⟨failed, nofun⟩, Desk.finish_ampFault raised⟩

section Carrying
variable (standby : i ∈ standbys) (standing : d.audio.amps[i].state = .standingIn k) (served : k ∉ d.audio.unserved)
include standby standing served

/-- The group of a failed standby returns to its RECOVERED amplifier. -/
theorem Desk.standbyFault_gives (recovered : d.audio.amps[dutyAmp k].state = .recovered) :
    ((d.standbyFault v i).finish v).audio.roster.Group k .normal (some (dutyAmp k)) := by
  refine Desk.finish_group nofun ?_
  rw [Desk.standbyFault_returns_roster standby standing recovered]
  exact ⟨update_self .., update_self .., served⟩

/-- The group of a failed standby moves to the other one where that is IDLE. -/
theorem Desk.standbyFault_shifts (failed : d.audio.amps[dutyAmp k].state = .failed)
    (idle : d.audio.amps[otherStandby i].state = .idle) :
    ((d.standbyFault v i).finish v).audio.roster.state (otherStandby i) = .standingIn k ∧
      ((d.standbyFault v i).finish v).audio.roster.server k = some (otherStandby i) := by
  have roster := Desk.standbyFault_moves_roster (v := v) standby standing (by rw [failed]; exact nofun) idle
  have duty : (d.standbyFault v i).audio.roster.state (dutyAmp k) = .failed := by
    rw [roster]
    refine ((Roster.setState_state _ _ _ _).trans (if_neg (ne_dutyAmp_of_standby (otherStandby_mem i) k).symm)).trans ?_
    exact ((Roster.setState_state _ _ _ _).trans (if_neg (ne_dutyAmp_of_standby standby k).symm)).trans failed
  refine ⟨Desk.finish_standby (otherStandby_mem i) ⟨?_, fun l same => ?_⟩,
    (Desk.finish_group (st := .failed) nofun ⟨duty, ?_, ?_⟩).server⟩
  · rw [roster]
    exact update_self ..
  · cases same
    rw [duty]
    exact nofun
  · rw [roster]
    exact update_self ..
  · rw [roster]
    exact served

omit served in
/-- The group of a failed standby joins the queue where the other one is FAILED or stands in for a FAILED amplifier. -/
theorem Desk.standbyFault_queues (failed : d.audio.amps[dutyAmp k].state = .failed)
    (busy : d.audio.amps[otherStandby i].state = .failed ∨ ∃ j, d.audio.amps[otherStandby i].state = .standingIn j ∧
      d.audio.amps[dutyAmp j].state = .failed) (ordered : k ∈ d.audio.failOrder) :
    ((d.standbyFault v i).finish v).audio.roster.server k = none ∧
      k ∈ ((d.standbyFault v i).finish v).audio.roster.unserved ∧
      ((d.standbyFault v i).finish v).audio.roster.state (otherStandby i) = d.audio.amps[otherStandby i].state := by
  have notIdle : d.audio.amps[otherStandby i].state ≠ .idle := by
    rcases busy with failed | ⟨j, standing, -⟩
    · rw [failed]; exact nofun
    · rw [standing]; exact nofun
  have roster := Desk.standbyFault_waits_roster (v := v) standby standing (by rw [failed]; exact nofun) notIdle
  have kept {j : Fin 12} (other : j ≠ i) : (d.standbyFault v i).audio.roster.state j = d.audio.amps[j].state := by
    rw [roster]
    exact (Roster.setState_state _ i j _).trans (if_neg other)
  have still : (d.standbyFault v i).audio.NoReturn := .of_states fun j member l standing' recovered => by
    rcases eq_or_eq_other standby member with rfl | rfl
    · rw [(Desk.standbyFault_fails standby (.inr ⟨k, standing⟩)).1] at standing'
      cases standing'
    · rw [kept (otherStandby_ne standby)] at standing'
      rw [kept (ne_dutyAmp_of_standby standby l).symm] at recovered
      rcases busy with fails | ⟨m, standing, fails⟩
      · rw [fails] at standing'
        cases standing'
      · rw [standing] at standing'
        cases standing'
        rw [fails] at recovered
        cases recovered
  have settled := (Desk.finish_still (v := v) still).roster
  rw [settled]
  refine ⟨?_, ?_, kept (otherStandby_ne standby)⟩
  · rw [roster]
    exact update_self ..
  · rw [roster]
    exact List.mem_filter.2 ⟨ordered, by simp⟩

end Carrying

/-! ### A standby's fault is gone (R128, R129) -/

theorem Desk.standbyClear_roster (failed : d.audio.amps[i].state = .failed) :
    (d.standbyClear v i).audio.roster = (d.audio.roster.setState i .idle).serveQueue i ∧
      i ∈ (d.standbyClear v i).notices.ampFault := by
  rw [Desk.standbyClear_failed failed]
  exact ⟨(Audio.serveQueue_roster _ v i).trans (congrArg (Roster.serveQueue · i) (d.audio.setAmpState_roster i _)),
    Notices.mem_raiseAmpFault.2 (.inl List.mem_cons_self)⟩

/-- A standby whose fault is gone takes the head of the queue, or is IDLE where the queue is empty. -/
theorem Roster.serveQueue_idle (r : Roster) (i : Fin 12) :
    (r.unserved = [] → (r.setState i .idle).serveQueue i = r.setState i .idle) ∧
      ∀ k rest, r.unserved = k :: rest → (r.setState i .idle).serveQueue i = (r.setState i .idle).standIn i k rest := by
  have idle : (r.setState i .idle).state i = .idle := update_self ..
  rcases (r.setState i .idle).serveQueue_cases i with ⟨k, rest, -, queue, eq⟩ | ⟨empty, eq⟩
  · have queue' : r.unserved = k :: rest := queue
    refine ⟨fun empty => ?_, fun l rest' queue'' => ?_⟩
    · rw [empty] at queue'
      cases queue'
    · rw [queue'] at queue''
      cases queue''
      exact eq
  · have empty' : r.unserved = [] := empty.resolve_right (absurd idle)
    refine ⟨fun _ => eq, fun l rest queue => ?_⟩
    rw [empty'] at queue
    cases queue

theorem Desk.standbyClear_idles (standby : i ∈ standbys) (failed : d.audio.amps[i].state = .failed)
    (empty : d.audio.unserved = []) : ((d.standbyClear v i).finish v).audio.roster.state i = .idle := by
  refine Desk.finish_standby standby ⟨?_, nofun⟩
  rw [(Desk.standbyClear_roster failed).1, (d.audio.roster.serveQueue_idle i).1 empty]
  exact update_self ..

theorem Desk.standbyClear_serves (standby : i ∈ standbys) (failed : d.audio.amps[i].state = .failed)
    {rest : List (Fin 10)} (queue : d.audio.unserved = k :: rest) (waits : d.audio.amps[dutyAmp k].state = .failed)
    (alone : ∀ j, d.audio.amps[otherStandby i].state ≠ .standingIn j) :
    ((d.standbyClear v i).finish v).audio.roster.state i = .standingIn k ∧
      ((d.standbyClear v i).finish v).audio.roster.server k = some i ∧
      ((d.standbyClear v i).finish v).audio.roster.unserved = rest := by
  have roster : (d.standbyClear v i).audio.roster = (d.audio.roster.setState i .idle).standIn i k rest :=
    (Desk.standbyClear_roster failed).1.trans ((d.audio.roster.serveQueue_idle i).2 k rest queue)
  have kept {j : Fin 12} (other : j ≠ i) : (d.standbyClear v i).audio.roster.state j = d.audio.amps[j].state := by
    rw [roster, Roster.standIn_state, if_neg other, Roster.setState_state, if_neg other]
    rfl
  have standing : (d.standbyClear v i).audio.roster.state i = .standingIn k := by
    rw [roster]
    exact update_self ..
  have still : (d.standbyClear v i).audio.NoReturn := .of_states fun j member l standing' => by
    rcases eq_or_eq_other standby member with rfl | rfl
    · rw [standing] at standing'
      cases standing'
      rw [kept (ne_dutyAmp_of_standby standby k).symm, waits]
      exact nofun
    · rw [kept (otherStandby_ne standby)] at standing'
      exact absurd standing' (alone l)
  have settled := (Desk.finish_still (v := v) still).roster
  rw [settled]
  refine ⟨standing, ?_, ?_⟩
  · rw [roster]
    exact update_self ..
  · rw [roster]
    rfl

end Standby

/-- Settles O48, by what each event does to the roster and what the settling of the pool leaves of it. -/
theorem standbyAmplifierFaults : Obligations.StandbyAmplifierFaults := by
  unfold Obligations.StandbyAmplifierFaults
  intro i s standby amp
  obtain ⟨d, desk⟩ : ∃ d : Desk, d = { audio := s.audio, notices := s.notices } := ⟨_, rfl⟩
  have audio : s.audio = d.audio := congrArg Desk.audio desk.symm
  have changed : amp = d.audio.amps[i] := by rw [← audio]
  refine ⟨_, exec_faultChange _ s, s.onDesk_onlyAudio _, ?_⟩
  rw [State.onDesk_audio, State.onDesk_notices, ← desk, audio, changed]
  obtain ⟨fault, run⟩ := Desk.faultChange_samples (v := s.view) (d := d) (i := i)
  have noted := d.noteFault_roster i
  have state (j : Fin 12) : (d.noteFault i).audio.amps[j].state = d.audio.amps[j].state :=
    congrFun (congrArg Roster.state noted) j
  have unserved : (d.noteFault i).audio.unserved = d.audio.unserved := congrArg Roster.unserved noted
  have failOrder : (d.noteFault i).audio.failOrder = d.audio.failOrder := congrArg Roster.failOrder noted
  simp only [← Audio.roster_state, ← Audio.roster_server, ← Audio.roster_unserved] at *
  refine ⟨fault, run, fun quiet working => ?fails, fun k quiet standing served => ?carrying, fun faulty failed => ?gone⟩
  case fails =>
    rw [Desk.faultChange_standbyFault standby quiet]
    exact Desk.standbyFault_settled standby (working.imp (state i).trans fun ⟨k, standing⟩ => ⟨k, (state i).trans standing⟩)
  case carrying =>
    rw [Desk.faultChange_standbyFault standby quiet]
    rw [← state] at standing
    rw [← unserved] at served
    refine ⟨fun recovered => ?_, fun failed idle => Desk.standbyFault_shifts standby standing served
      ((state _).trans failed) ((state _).trans idle), fun failed busy ordered => ?_⟩
    · have group := Desk.standbyFault_gives (v := s.view) standby standing served ((state _).trans recovered)
      exact ⟨group.state, group.server⟩
    · have queued := Desk.standbyFault_queues (v := s.view) (d := d.noteFault i) standby standing ((state _).trans failed)
        (busy.imp (state _).trans fun ⟨j, standing, fails⟩ => ⟨j, (state _).trans standing, (state _).trans fails⟩)
        (failOrder ▸ ordered)
      exact ⟨queued.1, queued.2.1, queued.2.2.trans (state _)⟩
  case gone =>
    rw [Desk.faultChange_standbyClear standby faulty]
    rw [← state] at failed
    refine ⟨Desk.finish_ampFault (Desk.standbyClear_roster failed).2,
      fun empty => Desk.standbyClear_idles standby failed (unserved.trans empty), fun k rest queue waits alone =>
        Desk.standbyClear_serves standby failed (unserved.trans queue) ((state _).trans waits) fun j there =>
          alone j ((state _).symm.trans there)⟩

end Sys2Proof.Machine
end

section
/-! O49: AMP_RESTORE, AMP_STATUS, PLAYER_STATUS and the load of the switching image (R122, R131, R132, R138). -/

namespace Sys2Proof.Machine

open Sys2Proof Function

/-! ### AMP_RESTORE (R131) -/

theorem Audio.standbyOf_eq {a : Audio} {k : Fin 10} {i : Fin 12} (standby : i ∈ standbys)
    (standing : a.amps[i].state = .standingIn k) (alone : ∀ j, a.amps[otherStandby i].state ≠ .standingIn j) :
    a.standbyOf k = some i := by
  cases found : a.standbyOf k with
  | none =>
    have none := List.find?_eq_none.1 found i standby
    exact absurd (decide_eq_true standing) none
  | some j =>
    have member : j ∈ standbys := List.mem_of_find?_eq_some found
    have there : a.amps[j].state = .standingIn k :=
      of_decide_eq_true (List.find?_some (p := fun i : Fin 12 => a.amps[i].state = .standingIn k) found)
    rcases eq_or_eq_other standby member with same | same
    · rw [same]
    · exact absurd (same ▸ there) (alone k)

theorem Audio.tookByte_idle {a : Audio} {i : Fin 12} (idle : a.roster.state i = .idle) : a.tookByte i = 0xFF := by
  have idle' : a.amps[i].state = .idle := idle
  unfold Audio.tookByte
  rw [idle']
  rfl

theorem Audio.tookByte_standing {a : Audio} {i : Fin 12} {k : Fin 10} (standing : a.roster.state i = .standingIn k) :
    a.tookByte i = byte k.val := by
  have standing' : a.amps[i].state = .standingIn k := standing
  unfold Audio.tookByte
  rw [standing']

section Restore
variable {v : View} {d : Desk} {k : Fin 10} {i : Fin 12} (standby : i ∈ standbys)
  (alone : ∀ j, d.audio.amps[otherStandby i].state ≠ .standingIn j)
include standby alone

/-- A group given back by command where no group waits. -/
theorem Desk.restore_idle (empty : d.audio.unserved = []) :
    ((d.mapAudio (Audio.giveBack v k i)).finish v).audio.roster = d.audio.roster.returned k i ∧
      ((d.mapAudio (Audio.giveBack v k i)).finish v).notices.ampFault = d.notices.ampFault := by
  have roster : (d.mapAudio (Audio.giveBack v k i)).audio.roster = d.audio.roster.returned k i :=
    (d.audio.giveBack_roster v k i).trans (Roster.giveBack_empty _ empty)
  have still : (d.mapAudio (Audio.giveBack v k i)).audio.NoReturn := .of_states fun j member l standing => by
    rw [roster, Roster.returned_state] at standing
    rcases eq_or_eq_other standby member with same | same
    · rw [if_pos same] at standing
      cases standing
    · rw [if_neg (same ▸ otherStandby_ne standby), if_neg (ne_dutyAmp_of_standby member k), same] at standing
      exact absurd standing (alone l)
  have settled := Desk.finish_still (v := v) still
  exact ⟨settled.roster.trans roster, settled.ampFault⟩

/-- A group given back by command where others wait: the standby takes the first of them. -/
theorem Desk.restore_serves (recovered : d.audio.amps[dutyAmp k].state = .recovered) {j : Fin 10} {rest : List (Fin 10)}
    (queue : d.audio.unserved = j :: rest) (failed : d.audio.amps[dutyAmp j].state = .failed) :
    ((d.mapAudio (Audio.giveBack v k i)).finish v).audio.roster = (d.audio.roster.returned k i).standIn i j rest ∧
      ((d.mapAudio (Audio.giveBack v k i)).finish v).notices.ampFault = d.notices.ampFault ∧ j ≠ k := by
  have roster : (d.mapAudio (Audio.giveBack v k i)).audio.roster = (d.audio.roster.returned k i).standIn i j rest :=
    (d.audio.giveBack_roster v k i).trans (Roster.giveBack_cons _ queue)
  have apart : j ≠ k := by
    rintro rfl
    rw [recovered] at failed
    cases failed
  have still : (d.mapAudio (Audio.giveBack v k i)).audio.NoReturn := .of_states fun x member l standing => by
    rw [roster, Roster.standIn_state] at standing
    rw [roster, Roster.standIn_state, if_neg (ne_dutyAmp_of_standby standby l).symm, Roster.returned_state,
      if_neg (ne_dutyAmp_of_standby standby l).symm]
    rcases eq_or_eq_other standby member with same | same
    · rw [if_pos same] at standing
      cases standing
      rw [if_neg fun eq => apart (dutyAmp_inj eq)]
      exact fun recovers => nomatch failed.symm.trans recovers
    · rw [if_neg (same ▸ otherStandby_ne standby), Roster.returned_state, if_neg (same ▸ otherStandby_ne standby),
        if_neg (ne_dutyAmp_of_standby member k), same] at standing
      exact absurd standing (alone l)
  have settled := Desk.finish_still (v := v) still
  exact ⟨settled.roster.trans roster, settled.ampFault, apart⟩

end Restore

/-- The part after the group of amplifier `k` has been given back by command. -/
def State.restored (s : State) (k : Fin 10) (i : Fin 12) : State :=
  s.onDesk fun v d => (d.mapAudio (Audio.giveBack v k i)).finish v

section AmpRestore
variable {amp : Byte} {s : State} {k : Fin 10} {i : Fin 12}

theorem exec_ampRestore_outOfRange (big : 11 < amp.toNat) :
    exec (.ampRestore amp) s = .next (s.answer 0x50 .outOfRange []) :=
  congrArg _ (State.takeRequest_refuse (by simp only [serveAmpRestore, index?_none_iff.2 big]))

theorem exec_ampRestore_standby (standby : amp.toNat = 10 ∨ amp.toNat = 11) :
    exec (.ampRestore amp) s = .next (s.answer 0x50 .refusedState []) := by
  have low : amp.toNat < 12 := by omega
  have found : index? 12 amp.toNat = some ⟨amp.toNat, low⟩ := index?_some_iff.2 rfl
  have beyond : index? 10 amp.toNat = none := index?_none_iff.2 (by omega)
  exact congrArg _ (State.takeRequest_refuse (by simp only [serveAmpRestore, found, beyond]))

variable (number : amp.toNat = k.val)
include number

theorem serveAmpRestore_eq (s : State) :
    serveAmpRestore amp s = match s.audio.amps[dutyAmp k].state, s.audio.standbyOf k with
      | .recovered, some i => accept [byte i.val, (s.restored k i).audio.tookByte i] (s.restored k i)
      | _, _ => refuse .refusedState s := by
  have found : index? 12 amp.toNat = some (dutyAmp k) := index?_some_iff.2 number
  have found' : index? 10 amp.toNat = some k := index?_some_iff.2 number
  unfold serveAmpRestore
  rw [found, found']
  rfl

theorem exec_ampRestore_refused (other : s.audio.amps[dutyAmp k].state ≠ .recovered) :
    exec (.ampRestore amp) s = .next (s.answer 0x50 .refusedState []) := by
  refine congrArg _ (State.takeRequest_refuse ?_)
  rw [serveAmpRestore_eq number, State.linkValid_audio]
  split
  · next recovered _ => exact absurd recovered other
  · rfl

theorem exec_ampRestore_recovered (recovered : s.audio.amps[dutyAmp k].state = .recovered)
    (standing : s.audio.standbyOf k = some i) :
    exec (.ampRestore amp) s = .next ((s.linkValid.restored k i).respond 0x50 .ok
      [byte i.val, (s.linkValid.restored k i).audio.tookByte i]) := by
  refine congrArg _ (State.takeRequest_accept ?_)
  rw [serveAmpRestore_eq number, State.linkValid_audio, recovered, standing]

end AmpRestore

/-! ### The records of AMP_STATUS and PLAYER_STATUS (R132, R138, R190, R191) -/

/-- A byte of a list of records of one length. -/
theorem getElem?_flatten_map {α β : Type} {f : α → List β} {m n : Nat} (length : ∀ x, (f x).length = m) (low : n < m)
    (l : List α) (i : Nat) : ((l.map f).flatten)[i * m + n]? = l[i]?.bind fun x => (f x)[n]? := by
  induction l generalizing i with
  | nil => simp
  | cons x l ih =>
    rw [List.map_cons, List.flatten_cons]
    cases i with
    | zero => rw [Nat.zero_mul, Nat.zero_add, List.getElem?_append_left (by rw [length]; exact low)]; rfl
    | succ i =>
      have place : (i + 1) * m + n = m + (i * m + n) := by ring
      rw [place, List.getElem?_append_right (by rw [length]; omega), length, Nat.add_sub_cancel_left, ih]
      rfl

theorem length_flatten_map {α β : Type} {f : α → List β} {m : Nat} (length : ∀ x, (f x).length = m) (l : List α) :
    ((l.map f).flatten).length = l.length * m := by
  induction l with
  | nil => simp
  | cons x l ih =>
    rw [List.map_cons, List.flatten_cons, List.length_append, length, ih, List.length_cons]
    ring

theorem optBytes2_length (x : Option Nat) : (optBytes2 x).length = 2 := by
  cases x <;> rfl

theorem Feed.bytes_length (f : Feed) : f.bytes.length = 4 := by
  cases f with
  | none => rfl
  | mic m => rfl
  | program r p key => cases key <;> rfl

theorem pendingBytes_length (p : Option Feed) : (pendingBytes p).length = 4 := by
  cases p with
  | none => rfl
  | some f => exact f.bytes_length

theorem Audio.ampBytes_length (a : Audio) (i : Fin 12) : (a.ampBytes i).length = 16 := by
  simp only [Audio.ampBytes, List.length_append, Feed.bytes_length, pendingBytes_length]
  rfl

theorem Player.bytes_length (p : Player) : p.bytes.length = 16 := by
  unfold Player.bytes
  split
  · rfl
  · simp only [List.length_append, optBytes2_length]
    rfl

/-- Settles O49, by what a return makes of the roster and by the records byte by byte. -/
theorem amplifierCommands : Obligations.AmplifierCommands := by
  unfold Obligations.AmplifierCommands
  intro s
  refine ⟨fun amp => ⟨exec_ampRestore_outOfRange, exec_ampRestore_standby, fun k number =>
    ⟨exec_ampRestore_refused number, fun i standby recovered standing alone => ?restore⟩⟩, ?status, ?idle, ?load⟩
  case restore =>
    have exec_eq := exec_ampRestore_recovered number recovered (Audio.standbyOf_eq standby standing alone)
    obtain ⟨d, desk⟩ : ∃ d : Desk, d = { audio := s.linkValid.audio, notices := s.linkValid.notices } := ⟨_, rfl⟩
    have audio : s.audio = d.audio := s.linkValid_audio.symm.trans (congrArg Desk.audio desk.symm)
    have notices : d.notices.ampFault = s.notices.ampFault := by
      rw [desk, State.linkValid_notices_eq]
    have restored : (s.linkValid.restored k i).audio =
        ((d.mapAudio (Audio.giveBack s.linkValid.view k i)).finish s.linkValid.view).audio := by
      rw [State.restored, State.onDesk_audio, desk]
    have raised : (s.linkValid.restored k i).notices =
        ((d.mapAudio (Audio.giveBack s.linkValid.view k i)).finish s.linkValid.view).notices := by
      rw [State.restored, State.onDesk_notices, desk]
    generalize s.linkValid.restored k i = t at exec_eq restored raised
    rw [audio] at recovered standing alone ⊢
    have duty := ne_dutyAmp_of_standby standby k
    refine ⟨fun empty => ?_, fun j rest queue failed => ?_⟩
    · obtain ⟨roster, kept⟩ := Desk.restore_idle (v := s.linkValid.view) (k := k) standby alone empty
      rw [← restored] at roster
      rw [← raised] at kept
      have idle : t.audio.roster.state i = .idle := by
        rw [roster, Roster.returned_state, if_pos rfl]
      refine ⟨_, exec_eq, ?_, ?_, ?_, ?_, ?_⟩
      · rw [State.respond_audio, ← Audio.roster_state, roster, Roster.returned_state, if_neg duty.symm, if_pos rfl]
      · rw [State.respond_audio, ← Audio.roster_server, roster, Roster.returned_server, if_pos rfl]
      · rw [State.respond_audio, ← Audio.roster_state, idle]
      · rw [State.respond_notices, kept, notices]
      · rw [Audio.tookByte_idle idle]
        rfl
    · obtain ⟨roster, kept, apart⟩ := Desk.restore_serves (v := s.linkValid.view) standby alone recovered queue failed
      rw [← restored] at roster
      rw [← raised] at kept
      have serves : t.audio.roster.state i = .standingIn j := by
        rw [roster, Roster.standIn_state, if_pos rfl]
      refine ⟨_, exec_eq, ?_, ?_, ?_, ?_, ?_, ?_, ?_⟩
      · rw [State.respond_audio, ← Audio.roster_state, roster, Roster.standIn_state, if_neg duty.symm,
          Roster.returned_state, if_neg duty.symm, if_pos rfl]
      · rw [State.respond_audio, ← Audio.roster_server, roster, Roster.standIn_server, if_neg apart.symm,
          Roster.returned_server, if_pos rfl]
      · rw [State.respond_audio, ← Audio.roster_state, serves]
      · rw [State.respond_audio, ← Audio.roster_server, roster, Roster.standIn_server, if_pos rfl]
      · rw [State.respond_audio, ← Audio.roster_unserved, roster]
        rfl
      · rw [State.respond_notices, kept, notices]
      · rw [Audio.tookByte_standing serves]
        rfl
  case status =>
    intro optional optional2 feed delivery amp player demand
    have optional_eq (x : Option Nat) : optional x = optByte x := by cases x <;> rfl
    have optional2_eq (x : Option Nat) : optional2 x = optBytes2 x := by cases x <;> rfl
    have feed_eq (f : Feed) : feed f = f.bytes := by
      rcases f with _ | m | ⟨r, p, key⟩
      · rfl
      · cases m <;> rfl
      · exact congrArg (byte r.rank.value :: byte p.val :: ·) (optional2_eq key)
    have delivery_eq (f : Feed) : delivery f = s.audio.deliveryCode f := by
      rcases f with _ | m | ⟨r, p, key⟩
      · rfl
      · cases m <;> rfl
      · simp only [delivery, Audio.deliveryCode, Audio.sourceOf]
        cases s.audio.playerOf p with
        | some k => rfl
        | none => cases r <;> rfl
    have amp_eq (i : Fin 12) : amp i = s.audio.ampBytes i := by
      simp only [amp, optional_eq, feed_eq, delivery_eq, Audio.ampBytes, Amp.faultByte]
      cases s.audio.amps[i].pending <;> rfl
    have player_eq (k : Fin 6) : player k = s.audio.players[k].bytes := by
      simp only [player, optional_eq, optional2_eq, Player.bytes]
      cases s.audio.players[k].walk with
      | none => rfl
      | some w => simp [bytes2]
    have demand_eq (d : Demand) : demand d = s.audio.demandBytes d := by
      simp only [demand, optional2_eq, Audio.demandBytes]
      rfl
    refine ⟨⟨((List.finRange 12).map s.audio.ampBytes).flatten, ?_, fun i n low => ?_, ?_⟩,
      (s.audio.players.toList.map Player.bytes).flatten, ?_, fun k n low => ?_, ?_⟩
    · rw [length_flatten_map s.audio.ampBytes_length]
      rfl
    · rw [getElem?_flatten_map s.audio.ampBytes_length low, amp_eq]
      simp
    · refine congrArg _ (State.takeRequest_read ?_)
      rw [serveAmpStatus, State.linkValid_audio, Audio.ampStatus, countedSet, List.length_map, List.map_map]
      rfl
    · rw [length_flatten_map Player.bytes_length, Vector.length_toList]
    · rw [getElem?_flatten_map Player.bytes_length low, player_eq]
      simp
    · refine congrArg _ (State.takeRequest_read ?_)
      have all : s.audio.demand.flatMap demand = (s.audio.demand.map s.audio.demandBytes).flatten := by
        rw [List.flatMap, funext demand_eq]
      rw [servePlayerStatus, State.linkValid_audio, Audio.playerStatus, all, List.append_assoc]
      rfl
  case idle =>
    intro none
    have : execSwitchingLoad s = .next s := by
      unfold execSwitchingLoad
      rw [none]
      rfl
    exact this
  case load =>
    intro img shifting
    have : execSwitchingLoad s = .next (s.onAudio Audio.load) := by
      unfold execSwitchingLoad
      rw [shifting]
      rfl
    refine Eq.trans this ?_
    rw [← shifting]
    rfl

end Sys2Proof.Machine
end

section
/-! O51 and O52: the store port, pages and fallbacks (R152, R154 to R158), one operation on a player at a time. -/

namespace Sys2Proof.Machine

open Sys2Proof

/-! ### Operations on one player at the store port -/

/-- Of the audio side only the player `k` and the requests at the arbiter have changed. -/
structure Audio.OnlyPlayer (k : Fin 6) (a b : Audio) : Prop where
  eq : b = { a with
    players := a.players.set k b.players[k]
    store := { a.store with requests := b.store.requests } }

section OnlyPlayer
variable {k : Fin 6} (a : Audio)

theorem Audio.OnlyPlayer.refl : a.OnlyPlayer k a := by
  have same : a.players.set k a.players[k] = a.players := Vector.set_getElem_self k.isLt
  exact ⟨by rw [same]⟩

theorem Audio.OnlyPlayer.trans {a b c : Audio} (h : a.OnlyPlayer k b) (g : b.OnlyPlayer k c) : a.OnlyPlayer k c := by
  have same : b.players.set k c.players[k] = a.players.set k c.players[k] := by
    rw [h.eq]
    exact Vector.set_set ..
  refine ⟨g.eq.trans ?_⟩
  rw [same, h.eq]

theorem Audio.setPlayer_same (p : Player) : (a.setPlayer k p).players[k] = p :=
  (a.setPlayer_players k k p).trans (if_pos rfl)

theorem Audio.setWalk_same (w : Option Walk) : (a.setWalk k w).players[k] = { a.players[k] with walk := w } :=
  (a.setWalk_players k k w).trans (if_pos rfl)

theorem Audio.setPlayer_only (p : Player) : a.OnlyPlayer k (a.setPlayer k p) :=
  ⟨by rw [Audio.setPlayer_same]; rfl⟩

theorem Audio.setWalk_only (w : Option Walk) : a.OnlyPlayer k (a.setWalk k w) := a.setPlayer_only _

theorem Audio.request_only (page : Nat) : a.OnlyPlayer k (a.request k page) := by
  have same : a.players.set k a.players[k] = a.players := Vector.set_getElem_self k.isLt
  refine ⟨?_⟩
  show _ = { a with players := a.players.set k a.players[k], store := _ }
  rw [same]
  rfl

end OnlyPlayer

/-! ### A page plays (R154) -/

section PlayPage
variable (a : Audio) (k : Fin 6) (w : Walk) (c : ClipWalk) (page : Vector Byte 254)

/-- The player with a page playing, before the request for the next one. -/
def Audio.started (a : Audio) (k : Fin 6) (w : Walk) (c : ClipWalk) (page : Vector Byte 254) : Audio :=
  (a.setPlayer k { a.players[k] with playing := some page, ready := none }).setWalk k
    (some { w with output := .segment, clip := some c })

theorem Audio.started_player : (a.started k w c page).players[k] = { a.players[k] with
    walk := some { w with output := .segment, clip := some c }, playing := some page, ready := none } := by
  rw [Audio.started, Audio.setWalk_same, Audio.setPlayer_same]

theorem Audio.playPage_eq {start pages retries repeats : Nat} {next : Next}
    (segment : a.segmentOf w = .clip start pages retries repeats next) :
    a.playPage k w c page = if c.position + 1 < pages then (a.started k w c page).request k (start + c.position + 1)
      else a.started k w c page := by
  have same : (a.started k w c page).segmentOf w = .clip start pages retries repeats next := segment
  unfold Audio.playPage
  show (match (a.started k w c page).segmentOf w with | .clip start pages _ _ _ => _ | _ => _) = _
  rw [same]
  rfl

variable {a w c}

/-- What begins with a page: it plays, none is ready, and the page after it is requested where there is one. -/
theorem Audio.playPage_spec {start pages retries repeats : Nat} {next : Next}
    (segment : a.segmentOf w = .clip start pages retries repeats next) :
    a.OnlyPlayer k (a.playPage k w c page) ∧
    (a.playPage k w c page).players[k] = { a.players[k] with
      walk := some { w with output := .segment, clip := some c }, playing := some page, ready := none } ∧
    (a.playPage k w c page).store.requests =
      if c.position + 1 < pages then a.store.requests.set k (some (start + c.position + 1)) else a.store.requests := by
  have only : a.OnlyPlayer k (a.started k w c page) := (a.setPlayer_only _).trans (Audio.setWalk_only _ _)
  rw [Audio.playPage_eq a k w c page segment]
  split
  · exact ⟨only.trans (Audio.request_only _ _), a.started_player k w c page, rfl⟩
  · exact ⟨only, a.started_player k w c page, rfl⟩

end PlayPage

/-! ### A fallback begins (R157) -/

/-- What begins with a fallback: its tone from its beginning, for the time of the pages left, and empty buffers. -/
theorem Audio.beginFallback_spec {a : Audio} (k : Fin 6) {w : Walk} (c : ClipWalk) {start pages retries repeats : Nat}
    {next : Next} (segment : a.segmentOf w = .clip start pages retries repeats next) :
    a.OnlyPlayer k (a.beginFallback k w c) ∧
    (a.beginFallback k w c).players[k] = { a.players[k] with
      playing := none, ready := none
      walk := some { w with
        output := .fallback, clip := some c
        generator := (a.fallbackTone k).map fun tone => { pattern := tone, place := 0 }
        toneSamples := (pages - c.position) * 254 } } ∧
    (a.beginFallback k w c).store.requests = a.store.requests := by
  refine ⟨(a.setPlayer_only _).trans (Audio.setWalk_only _ _), ?_, rfl⟩
  rw [Audio.beginFallback, segment, Audio.setWalk_same, Audio.clearPages, Audio.setPlayer_same]
  rfl

/-! ### The tone of a fallback (R157) -/

section FallbackTone
variable {a : Audio} {k : Fin 6}

/-- A player delivers a feed at a rank. -/
def Audio.Delivers (a : Audio) (k : Fin 6) (rank : ProgramRank) : Prop :=
  ∃ (i : Fin 12) (q : Fin 16) (key : Option Nat), a.amps[i].feed = .program rank q key ∧ a.playerOf q = some k

/-- The ranks of the feeds a player delivers. -/
def Audio.deliveredRanks (a : Audio) (k : Fin 6) : List Rank :=
  (List.finRange 12).filterMap fun i => if a.delivererOf a.amps[i].feed = some k then some a.amps[i].feed.rank else none

theorem Audio.mem_deliveredRanks {r : Rank} : r ∈ a.deliveredRanks k ↔ ∃ rank, a.Delivers k rank ∧ rank.rank = r := by
  rw [Audio.deliveredRanks, List.mem_filterMap]
  constructor
  · rintro ⟨i, -, delivered⟩
    obtain ⟨delivers, same⟩ := Option.ite_none_right_eq_some.1 delivered
    cases feed : a.amps[i].feed with
    | none => rw [feed] at delivers; cases delivers
    | mic m => rw [feed] at delivers; cases delivers
    | program rank q key =>
      rw [feed] at delivers same
      exact ⟨rank, ⟨i, q, key, feed, delivers⟩, Option.some.inj same⟩
  · rintro ⟨rank, ⟨i, q, key, feed, delivers⟩, rfl⟩
    refine ⟨i, List.mem_finRange i, ?_⟩
    rw [feed]
    exact if_pos delivers

theorem Audio.fallbackTone_eq : a.fallbackTone k = match (a.deliveredRanks k).foldl Rank.max .none with
    | .evacuate => some .evacuatePattern
    | .alert => some .alertPattern
    | _ => none := by
  unfold Audio.fallbackTone Audio.deliveredRanks
  rfl

/-- The highest rank a player delivers, and what stands below it. -/
theorem Audio.highestDelivered : ((a.deliveredRanks k).foldl Rank.max .none = .none ∨
      ∃ rank, a.Delivers k rank ∧ rank.rank = (a.deliveredRanks k).foldl Rank.max .none) ∧
    ∀ rank, a.Delivers k rank → rank.rank.value ≤ ((a.deliveredRanks k).foldl Rank.max .none).value :=
  ⟨(foldl_max_mem _ _).imp_right fun mem => Audio.mem_deliveredRanks.1 mem,
    fun rank delivers => (le_foldl_max (a.deliveredRanks k) .none).2 _ (Audio.mem_deliveredRanks.2 ⟨rank, delivers, rfl⟩)⟩

theorem Audio.fallbackTone_evacuate (delivers : a.Delivers k .evacuate) : a.fallbackTone k = some .evacuatePattern := by
  obtain ⟨top, above⟩ := Audio.highestDelivered (a := a) (k := k)
  have high := above _ delivers
  rw [Audio.fallbackTone_eq]
  generalize (a.deliveredRanks k).foldl Rank.max .none = r at top high
  rcases top with rfl | ⟨rank, -, rfl⟩
  · exact absurd high (by decide)
  · cases rank with
    | test => exact absurd high (by decide)
    | alert => exact absurd high (by decide)
    | evacuate => rfl

theorem Audio.fallbackTone_alert (lower : ¬ a.Delivers k .evacuate) (delivers : a.Delivers k .alert) :
    a.fallbackTone k = some .alertPattern := by
  obtain ⟨top, above⟩ := Audio.highestDelivered (a := a) (k := k)
  have high := above _ delivers
  rw [Audio.fallbackTone_eq]
  generalize (a.deliveredRanks k).foldl Rank.max .none = r at top high
  rcases top with rfl | ⟨rank, delivered, rfl⟩
  · exact absurd high (by decide)
  · cases rank with
    | test => exact absurd high (by decide)
    | alert => rfl
    | evacuate => exact absurd delivered lower

theorem Audio.fallbackTone_silence (noEvacuate : ¬ a.Delivers k .evacuate) (noAlert : ¬ a.Delivers k .alert) :
    a.fallbackTone k = none := by
  obtain ⟨top, -⟩ := Audio.highestDelivered (a := a) (k := k)
  rw [Audio.fallbackTone_eq]
  generalize (a.deliveredRanks k).foldl Rank.max .none = r at top
  rcases top with rfl | ⟨rank, delivered, rfl⟩
  · rfl
  · cases rank with
    | test => rfl
    | alert => exact absurd delivered noAlert
    | evacuate => exact absurd delivered noEvacuate

end FallbackTone

/-! ### The arbiter (R155) -/

theorem turnDistance_player_lt_iff (last i j : Fin 6) :
    turnDistance last i < turnDistance last j ↔ (i.val + 5 - last.val) % 6 < (j.val + 5 - last.val) % 6 := by
  unfold turnDistance
  simp only [Fin.lt_def]
  split_ifs <;> omega

theorem exec_arbiterGrant (s : State) : exec .arbiterGrant s = .next (s.onAudio Audio.grant) := rfl

theorem Audio.grant_none {a : Audio} (idle : a.store.fetch ≠ none ∨ ∀ k : Fin 6, a.store.requests[k] = none) :
    a.grant = a := by
  unfold Audio.grant
  dsimp only
  split
  · next k free first =>
    refine absurd idle ?_
    rintro (busy | quiet)
    · exact busy free
    · have waits := firstAfter_holds first
      rw [quiet] at waits
      cases waits
  · rfl

theorem Audio.grant_some {a : Audio} {k : Fin 6} {page : Nat} (free : a.store.fetch = none)
    (waits : a.store.requests[k] = some page)
    (first : ∀ j : Fin 6, turnDistance a.store.lastServed j < turnDistance a.store.lastServed k →
      a.store.requests[j] = none) :
    a.grant = { a with store := { a.store with
      requests := a.store.requests.set k none
      fetch := some { player := k, page := page, wanted := true }
      lastServed := k } } := by
  have found : firstAfter a.store.lastServed (fun k => a.store.requests[k].isSome) = some k :=
    firstAfter_some_iff.2 ⟨by rw [waits]; rfl, fun j sooner => by rw [first j sooner]; rfl⟩
  unfold Audio.grant
  dsimp only
  rw [free, found]
  dsimp only
  rw [waits]
  rfl

theorem Fetch.command_eq (f : Fetch) : f.command = [0x03, byte (f.page / 256), byte f.page, 0] := by
  have high : f.page * 256 / 65536 = f.page / 256 := by omega
  have middle : f.page * 256 / 256 = f.page := by omega
  have low : byte (f.page * 256) = 0 := by
    apply BitVec.eq_of_toNat_eq
    simp [byte]
  simp only [Fetch.command, high, middle, low]
  rfl

/-! ### A fetch completes (R152, R156, R157) -/

/-- The audio side with the fetch in flight ended. -/
def Audio.ended (a : Audio) : Audio :=
  { a with store := { a.store with fetch := none } }

section Deliver
variable {a : Audio} {f : Fetch} {w : Walk} {c : ClipWalk} {seg : Fin 128} {start pages retries repeats : Nat} {next : Next}

theorem Audio.fetchDone_idle {page : Vector Byte 256} (idle : a.store.fetch = none) : a.fetchDone page = a := by
  unfold Audio.fetchDone
  rw [idle]

theorem Audio.fetchDone_dropped {page : Vector Byte 256} (flight : a.store.fetch = some f) (unwanted : f.wanted = false) :
    a.fetchDone page = a.ended := by
  unfold Audio.fetchDone
  rw [flight]
  exact if_neg (by rw [unwanted]; exact nofun)

theorem Audio.fetchDone_wanted {page : Vector Byte 256} (flight : a.store.fetch = some f) (wanted : f.wanted = true)
    (walk : a.players[f.player].walk = some w) (clip : w.clip = some c) :
    a.fetchDone page = if pageGood page then a.ended.goodPage f.player w c (pageSamples page)
      else a.ended.storeError f.player w c f.page := by
  have walk' : a.ended.players[f.player].walk = some w := walk
  have delivered : a.fetchDone page = a.ended.deliver f page := by
    unfold Audio.fetchDone
    rw [flight]
    exact if_pos wanted
  rw [delivered, Audio.deliver, walk']
  dsimp only
  rw [clip]

theorem Audio.segmentOf_current (current : w.current = some seg) : a.segmentOf w = a.segments[seg] := by
  rw [Audio.segmentOf, current]

section Error
variable (k : Fin 6)

theorem Audio.storeError_retries {page : Nat} (left : 0 < c.retries) :
    a.storeError k w c page =
      (a.setWalk k (some { w with clip := some { c with retries := c.retries - 1 } })).request k page := if_pos left

theorem Audio.storeError_fallback {page : Nat} (none : c.retries = 0) (waiting : w.output = .startWait ∨ w.output = .underrun) :
    a.storeError k w c page = (a.countFailed k).beginFallback k w c := by
  refine (if_neg (by rw [none]; exact Nat.lt_irrefl 0)).trans ?_
  rcases waiting with output | output
  · rw [output]
  · rw [output]

theorem Audio.storeError_abandons {page : Nat} (none : c.retries = 0)
    (playing : ¬ (w.output = .startWait ∨ w.output = .underrun)) :
    a.storeError k w c page = (a.countFailed k).setWalk k (some { w with clip := some { c with abandoned := true } }) := by
  refine (if_neg (by rw [none]; exact Nat.lt_irrefl 0)).trans ?_
  cases output : w.output with
  | startWait => exact absurd (.inl output) playing
  | underrun => exact absurd (.inr output) playing
  | segment => rfl
  | fallback => rfl
  | endHold => rfl

theorem Audio.goodPage_plays {page : Vector Byte 254} (waiting : w.output = .startWait ∨ w.output = .underrun) :
    a.goodPage k w c page = a.playPage k w c page := by
  unfold Audio.goodPage
  rcases waiting with output | output
  · rw [output]
  · rw [output]

theorem Audio.goodPage_waits {page : Vector Byte 254} (playing : w.output = .segment) :
    a.goodPage k w c page = a.setPlayer k { a.players[k] with ready := some page } := by
  unfold Audio.goodPage
  rw [playing]

theorem Audio.goodPage_keeps {page : Vector Byte 254} (other : w.output = .fallback ∨ w.output = .endHold) :
    a.goodPage k w c page = a := by
  unfold Audio.goodPage
  rcases other with output | output
  · rw [output]
  · rw [output]

end Error

end Deliver

/-! ### O51 -/

theorem Audio.fallbackTone_congr {a b : Audio} (amps : b.amps = a.amps) (held : ∀ j, b.held j = a.held j) (k : Fin 6) :
    b.fallbackTone k = a.fallbackTone k := by
  have delivers (f : Feed) : b.delivererOf f = a.delivererOf f := by
    rw [Audio.delivererOf, Audio.delivererOf, Audio.playerOf_congr held]
  rw [Audio.fallbackTone_eq, Audio.fallbackTone_eq]
  simp only [Audio.deliveredRanks, delivers, amps]

section Outcomes
variable {a : Audio} {k : Fin 6} {w : Walk} {c : ClipWalk} {start pages retries repeats : Nat} {next : Next}
  (segment : a.segmentOf w = .clip start pages retries repeats next)
include segment

/-- A good page changes the player it was fetched for and no other. -/
theorem Audio.goodPage_only (page : Vector Byte 254) : a.OnlyPlayer k (a.goodPage k w c page) := by
  have plays := (Audio.playPage_spec (c := c) k page segment).1
  cases output : w.output with
  | startWait => rwa [Audio.goodPage_plays k (.inl output)]
  | underrun => rwa [Audio.goodPage_plays k (.inr output)]
  | segment =>
    rw [Audio.goodPage_waits k output]
    exact a.setPlayer_only _
  | fallback =>
    rw [Audio.goodPage_keeps k (.inl output)]
    exact .refl a
  | endHold =>
    rw [Audio.goodPage_keeps k (.inr output)]
    exact .refl a

/-- The fallback of a page that failed for the last time. -/
theorem Audio.failedFallback_spec : a.OnlyPlayer k ((a.countFailed k).beginFallback k w c) ∧
    ((a.countFailed k).beginFallback k w c).players[k] = { a.players[k] with
      failed := min 255 (a.players[k].failed + 1), playing := none, ready := none
      walk := some { w with
        output := .fallback, clip := some c
        generator := (a.fallbackTone k).map fun tone => { pattern := tone, place := 0 }
        toneSamples := (pages - c.position) * 254 } } ∧
    ((a.countFailed k).beginFallback k w c).store.requests = a.store.requests := by
  have counted : (a.countFailed k).segmentOf w = .clip start pages retries repeats next := segment
  obtain ⟨only, player, requests⟩ := Audio.beginFallback_spec k c counted
  have tone : (a.countFailed k).fallbackTone k = a.fallbackTone k :=
    Audio.fallbackTone_congr (a.countFailed_pool k).same.amps (a.countFailed_pool k).held k
  refine ⟨(a.setPlayer_only _).trans only, player.trans ?_, requests⟩
  rw [tone, Audio.countFailed, Audio.setPlayer_same]
  rfl

/-- A store error changes the player it struck and no other. -/
theorem Audio.storeError_only (page : Nat) : a.OnlyPlayer k (a.storeError k w c page) := by
  rcases Nat.eq_zero_or_pos c.retries with last | left
  · by_cases waiting : w.output = .startWait ∨ w.output = .underrun
    · rw [Audio.storeError_fallback k last waiting]
      exact (Audio.failedFallback_spec segment).1
    · rw [Audio.storeError_abandons k last waiting]
      exact (a.setPlayer_only _).trans (Audio.setWalk_only _ _)
  · rw [Audio.storeError_retries k left]
    exact (a.setWalk_only _).trans (Audio.request_only _ _)

end Outcomes

/-- What a fetch leaves: the fetch ended, the player it was for and the requests changed. -/
theorem Audio.OnlyPlayer.ended {a b : Audio} {k : Fin 6} (only : a.ended.OnlyPlayer k b) :
    b = { a with
      players := a.players.set k b.players[k]
      store := { a.store with fetch := none, requests := b.store.requests } } := only.eq

/-- Settles O51, by the arbiter's turn and the outcomes of a fetch one by one. -/
theorem storePortRule : Obligations.StorePortRule := by
  unfold Obligations.StorePortRule
  intro s samples check st
  have completes (f : Audio → Audio) (eq : s.audio.fetchDone (samples ++ check) = f s.audio) :
      exec (.fetchComplete samples check) s = .next (s.onAudio f) := by
    show Host.Outcome.next { s with audio := s.audio.fetchDone (samples ++ check) } = _
    rw [eq]
    rfl
  refine ⟨fun idle => ?idle, fun k page free waits first => ?grant, fun f _ => f.command_eq, fun idle => ?none,
    fun f flight => ⟨fun unwanted => completes Audio.ended (Audio.fetchDone_dropped flight unwanted), ?_⟩⟩
  case idle =>
    rw [exec_arbiterGrant]
    show Host.Outcome.next { s with audio := s.audio.grant } = _
    rw [Audio.grant_none idle]
  case grant =>
    rw [exec_arbiterGrant]
    show Host.Outcome.next { s with audio := s.audio.grant } = _
    rw [Audio.grant_some free waits fun j sooner => first j ((turnDistance_player_lt_iff _ j k).1 sooner)]
  case none => exact completes id (Audio.fetchDone_idle idle)
  intro w c seg start pages retries repeats next wanted walk clip current clips waiting
  have segment : s.audio.ended.segmentOf w = .clip start pages retries repeats next :=
    (Audio.segmentOf_current (a := s.audio.ended) current).trans clips
  have done := Audio.fetchDone_wanted (page := samples ++ check) flight wanted walk clip
  rw [pageSamples_append] at done
  refine ⟨_, rfl, ?_⟩
  rw [State.onAudio_audio, done]
  by_cases good : pageGood (samples ++ check) = true
  · have agrees := (pageGood_append samples check).1 good
    rw [if_pos good]
    have only := Audio.goodPage_only (k := f.player) (c := c) segment samples
    refine ⟨?_, fun _ => ⟨fun waits => ?_, fun playing => ?_⟩, fun differs => absurd agrees differs⟩
    · show { s with audio := s.audio.fetchDone (samples ++ check) } = _
      rw [done, if_pos good]
      exact congrArg (fun a => { s with audio := a }) only.ended
    · rw [Audio.goodPage_plays f.player waits]
      exact (Audio.playPage_spec f.player samples segment).2
    · rw [Audio.goodPage_waits f.player playing]
      exact ⟨Audio.setPlayer_same _ _, rfl⟩
  · have differs : crc samples.toList ≠ check[0] ++ check[1] := fun agrees => good ((pageGood_append samples check).2 agrees)
    rw [if_neg good]
    have only := Audio.storeError_only (k := f.player) (c := c) segment f.page
    refine ⟨?_, fun agrees => absurd agrees differs, fun _ => ⟨fun left => ?_, fun last => ?_, fun last waits => ?_,
      fun last playing => ?_⟩⟩
    · show { s with audio := s.audio.fetchDone (samples ++ check) } = _
      rw [done, if_neg good]
      exact congrArg (fun a => { s with audio := a }) only.ended
    · rw [Audio.storeError_retries f.player left]
      exact ⟨Audio.setWalk_same _ _, rfl⟩
    · by_cases waits : w.output = .startWait ∨ w.output = .underrun
      · obtain ⟨-, player, requests⟩ := Audio.failedFallback_spec (k := f.player) (c := c) segment
        rw [Audio.storeError_fallback f.player last waits, player]
        exact ⟨requests, rfl, rfl⟩
      · rw [Audio.storeError_abandons f.player last waits, Audio.setWalk_same, Audio.countFailed, Audio.setPlayer_same]
        exact ⟨rfl, rfl, rfl⟩
    · obtain ⟨-, player, -⟩ := Audio.failedFallback_spec (k := f.player) (c := c) segment
      rw [Audio.storeError_fallback f.player last waits, player]
      exact ⟨rfl, rfl, rfl⟩
    · have notWaiting : ¬ (w.output = .startWait ∨ w.output = .underrun) := by
        rw [playing]
        exact fun waits => waits.elim nofun nofun
      rw [Audio.storeError_abandons f.player last notWaiting, Audio.setWalk_same]

end Sys2Proof.Machine
end

section
/-! O52: the end of a page, and what a fallback sounds as (R141, R154, R157, R158). -/

namespace Sys2Proof.Machine

open Sys2Proof

/-! ### What a tone sounds as (R141) -/

theorem Pattern.frequencyAt_eq (p : Pattern) (n : Nat) : p.frequencyAt n = match p with
    | .alertPattern => if n % 16000 < 8000 then some 1000 else none
    | .evacuatePattern => if n % 4000 < 2000 then some 800 else some 1000
    | .chime => if n % 16000 < 4800 then some 660 else if n % 16000 < 9600 then some 520 else none
    | .testTone => some 1000 := by
  cases p with
  | alertPattern => rfl
  | evacuatePattern => exact apply_ite some _ _ _
  | chime => rfl
  | testTone => rfl

section Sound
variable {a : Audio} {k : Fin 6} {w : Walk} {g : Generator} (walk : a.players[k].walk = some w)
  (makes : w.generator = some g)
include walk makes

theorem Audio.playSound_fallback (output : w.output = .fallback) : a.playSound k = .tone g.pattern g.place := by
  unfold Audio.playSound
  rw [walk]
  dsimp only
  rw [output, makes]
  rfl

theorem Audio.playSound_tone {pattern : Pattern} {duration repeats : Nat} {next : Next} (output : w.output = .segment)
    (segment : a.segmentOf w = .tone pattern duration repeats next) : a.playSound k = .tone g.pattern g.place := by
  unfold Audio.playSound
  rw [walk]
  dsimp only
  rw [output, segment, makes]
  rfl

end Sound

/-! ### The end of a page (R157, R158) -/

theorem exec_pageEnd (k : Fin 6) (s : State) : exec (.pageEnd k) s = .next (s.onAudio fun a => a.pageEnd k) := rfl

section PageEnd
variable {a : Audio} {k : Fin 6}

/-- Of a player that plays no page none ends. -/
theorem Audio.pageEnd_idle (idle : a.players[k].playing = none ∨ a.players[k].walk = none ∨
    ∃ w, a.players[k].walk = some w ∧ (w.output ≠ .segment ∨ w.clip = none)) : a.pageEnd k = a := by
  unfold Audio.pageEnd
  split
  · rfl
  · next w walk =>
    split
    · next c pages clip _ =>
      refine if_neg fun playing => ?_
      simp only [Bool.and_eq_true, decide_eq_true_eq] at playing
      rcases idle with silent | none | ⟨w', walk', other⟩
      · rw [silent] at playing
        cases playing.1.2
      · rw [walk] at none
        cases none
      · rw [walk] at walk'
        cases walk'
        rcases other with output | noClip
        · exact output playing.1.1
        · rw [clip] at noClip
          cases noClip
    · rfl

section Playing
variable {w : Walk} {c : ClipWalk} {start pages retries repeats : Nat} {next : Next} {page : Vector Byte 254}
  (walk : a.players[k].walk = some w) (clip : w.clip = some c)
  (segment : a.segmentOf w = .clip start pages retries repeats next)
  (playing : a.players[k].playing = some page) (output : w.output = .segment)
include walk clip segment playing output

theorem Audio.pageEnd_eq : a.pageEnd k = if c.position + 1 < pages then a.pageOver k w c else a := by
  unfold Audio.pageEnd
  rw [walk]
  dsimp only
  rw [clip, segment, playing]
  simp [Segment.pageCount?, output]

end Playing

section Over
variable {w : Walk} {c : ClipWalk}

/-- The position of the walk moved on to the next page. -/
def ClipWalk.onward (c : ClipWalk) : ClipWalk :=
  { c with position := c.position + 1 }

theorem Audio.pageOver_abandoned (abandoned : c.abandoned = true) : a.pageOver k w c = a.beginFallback k w c.onward :=
  if_pos abandoned

theorem Audio.pageOver_ready (kept : c.abandoned = false) {page : Vector Byte 254} (ready : a.players[k].ready = some page) :
    a.pageOver k w c = a.playPage k w c.onward page := by
  refine (if_neg (by rw [kept]; exact nofun)).trans ?_
  rw [ready]
  rfl

theorem Audio.pageOver_late (kept : c.abandoned = false) (late : a.players[k].ready = none) :
    a.pageOver k w c =
      ((a.clearPages k).countUnderrun k).setWalk k (some { w with output := .underrun, clip := some c.onward }) := by
  refine (if_neg (by rw [kept]; exact nofun)).trans ?_
  rw [late]
  rfl

theorem Audio.pageOver_only {start pages retries repeats : Nat} {next : Next}
    (segment : a.segmentOf w = .clip start pages retries repeats next) : a.OnlyPlayer k (a.pageOver k w c) := by
  cases abandoned : c.abandoned with
  | true =>
    rw [Audio.pageOver_abandoned abandoned]
    exact (Audio.beginFallback_spec k c.onward segment).1
  | false =>
    cases ready : a.players[k].ready with
    | some page =>
      rw [Audio.pageOver_ready abandoned ready]
      exact (Audio.playPage_spec k page segment).1
    | none =>
      rw [Audio.pageOver_late abandoned ready]
      exact ((a.setPlayer_only _).trans (Audio.setPlayer_only _ _)).trans (Audio.setWalk_only _ _)

end Over

end PageEnd

/-- Settles O52, by the cases of a page's end and the highest rank among the feeds a player delivers. -/
theorem pageEnds : Obligations.PageEnds := by
  unfold Obligations.PageEnds
  intro k s p delivers
  refine ⟨Audio.fallbackTone_evacuate, Audio.fallbackTone_alert, Audio.fallbackTone_silence,
    fun w g walk makes tones => ?tone, fun idle => ?idle, ?_⟩
  case tone =>
    have sound : s.audio.playSound k = .tone g.pattern g.place := by
      rcases tones with fallback | ⟨output, i, pattern, duration, repeats, next, current, segment⟩
      · exact Audio.playSound_fallback walk makes fallback
      · exact Audio.playSound_tone walk makes output ((Audio.segmentOf_current current).trans segment)
    rw [Audio.playFrequency, sound]
    exact Pattern.frequencyAt_eq _ _
  case idle =>
    rw [exec_pageEnd]
    show Host.Outcome.next { s with audio := s.audio.pageEnd k } = _
    rw [Audio.pageEnd_idle idle]
  intro w c seg start pages retries repeats next page walk clip current clips playing output
  have segment : s.audio.segmentOf w = .clip start pages retries repeats next :=
    (Audio.segmentOf_current current).trans clips
  have done := Audio.pageEnd_eq walk clip segment playing output
  rw [exec_pageEnd]
  refine ⟨fun last => ?_, fun more => ⟨_, rfl, ?_, ?_⟩⟩
  · show Host.Outcome.next { s with audio := s.audio.pageEnd k } = _
    rw [done, if_neg (Nat.not_lt.2 last)]
  · show { s with audio := s.audio.pageEnd k } = { s with audio := { s.audio with
      players := s.audio.players.set k (s.audio.pageEnd k).players[k]
      store := { s.audio.store with requests := (s.audio.pageEnd k).store.requests } } }
    rw [done, if_pos more]
    exact congrArg (fun a => { s with audio := a }) (Audio.pageOver_only segment).eq
  · rw [State.onAudio_audio, done, if_pos more]
    refine ⟨fun abandoned => ?_, fun kept following ready => ?_, fun kept late => ?_⟩
    · obtain ⟨-, player, requests⟩ := Audio.beginFallback_spec k c.onward segment
      rw [Audio.pageOver_abandoned abandoned]
      exact ⟨requests, player⟩
    · obtain ⟨-, player, requests⟩ := Audio.playPage_spec (c := c.onward) k following segment
      rw [Audio.pageOver_ready kept ready]
      exact ⟨player, requests⟩
    · rw [Audio.pageOver_late kept late]
      refine ⟨rfl, ?_⟩
      rw [Audio.setWalk_same, Audio.countUnderrun, Audio.setPlayer_same, Audio.clearPages, Audio.setPlayer_same]
      rfl

end Sys2Proof.Machine
end

section
/-! SUPPORT. RESTART at the roster (R130, R139): the returns one after another, and who serves whom after them. -/

namespace Sys2Proof.Machine

open Sys2Proof Function

/-! ### One more return -/

section GiveBack
variable (r : Roster) {k : Fin 10} {i : Fin 12}

theorem Roster.giveBack_head {h : Fin 10} (other : r.unserved.head? ≠ some h) :
    (r.giveBack k i).server h = if h = k then some (dutyAmp k) else r.server h := by
  rcases r.giveBack_cases k i with ⟨h', rest, queue, eq⟩ | ⟨-, eq⟩
  · rw [queue] at other
    rw [eq, Roster.standIn_server, if_neg fun same => other (congrArg some same.symm), Roster.returned_server]
  · rw [eq, Roster.returned_server]

/-- The standby that has given its group back is IDLE, or serves the head of the queue. -/
theorem Roster.giveBack_own : (r.unserved.head? = none → (r.giveBack k i).state i = .idle) ∧
    ∀ j, r.unserved.head? = some j → (r.giveBack k i).state i = .standingIn j ∧ (r.giveBack k i).server j = some i := by
  rcases r.giveBack_cases k i with ⟨h, rest, queue, eq⟩ | ⟨empty, eq⟩
  · rw [queue, eq]
    refine ⟨nofun, ?_⟩
    rintro j ⟨⟩
    exact ⟨update_self .., update_self ..⟩
  · rw [empty, eq]
    exact ⟨fun _ => (r.returned_state k i i).trans (if_pos rfl), nofun⟩

end GiveBack

/-! ### Returns one after another (R130; log entry 32) -/

/-- The standbys listed have given the groups of their RECOVERED amplifiers back, one after another. -/
structure Roster.Returned (r : Roster) (freed : List (Fin 12)) (r' : Roster) : Prop where
  failOrder : r'.failOrder = r.failOrder
  unserved : r'.unserved = r.unserved.drop freed.length
  due : ∀ i ∈ freed, ∃ k, r.state i = .standingIn k ∧ r.state (dutyAmp k) = .recovered
  others : ∀ i ∈ standbys, i ∉ freed → r'.state i = r.state i
  serves : ∀ (n : Nat) (i : Fin 12), freed[n]? = some i → (r.unserved[n]? = none → r'.state i = .idle) ∧
    ∀ j, r.unserved[n]? = some j → r'.state i = .standingIn j ∧ r'.server j = some i
  back : ∀ k, (∃ i ∈ freed, r.state i = .standingIn k) →
    r'.state (dutyAmp k) = .normal ∧ r'.server k = some (dutyAmp k)
  kept : ∀ k, (∀ i ∈ freed, r.state i ≠ .standingIn k) → r'.state (dutyAmp k) = r.state (dutyAmp k) ∧
    (k ∉ r.unserved.take freed.length → r'.server k = r.server k)

theorem Roster.Returned.refl (r : Roster) : r.Returned [] r :=
  ⟨rfl, rfl, nofun, fun _ _ _ => rfl, nofun, fun _ ⟨_, mem, _⟩ => (nomatch mem), fun _ _ => ⟨rfl, fun _ => rfl⟩⟩

/-- What a return leaves of the amplifiers of other groups. -/
theorem Roster.giveBack_other {r : Roster} {k g : Fin 10} {i : Fin 12} (standby : i ∈ standbys) (other : g ≠ k) :
    (r.giveBack k i).state (dutyAmp g) = r.state (dutyAmp g) ∧
      (r.unserved.head? ≠ some g → (r.giveBack k i).server g = r.server g) :=
  ⟨(Roster.giveBack_duty standby g).trans (if_neg other), fun head => (r.giveBack_head head).trans (if_neg other)⟩

section Step
variable {r r' : Roster} {freed : List (Fin 12)} {i : Fin 12} {k : Fin 10} (h : r.Returned freed r')
  (members : ∀ j ∈ freed, j ∈ standbys) (standby : i ∈ standbys) (fresh : i ∉ freed) (once : r.unserved.Nodup)
  (waiting : ∀ k ∈ r.unserved, r.state (dutyAmp k) = .failed) (standing : r.state i = .standingIn k)
  (recovered : r.state (dutyAmp k) = .recovered) (apart : ∀ j ∈ freed, r.state j ≠ .standingIn k)
include h members standby fresh once waiting standing recovered apart

/-- One return after others. -/
theorem Roster.Returned.step : r.Returned (freed ++ [i]) (r'.giveBack k i) := by
  have length : (freed ++ [i]).length = freed.length + 1 := by rw [List.length_append, List.length_singleton]
  have head : r'.unserved.head? = r.unserved[freed.length]? := by rw [h.unserved, List.head?_drop]
  have failed (g : Fin 10) (n : Nat) (at_ : r.unserved[n]? = some g) : r.state (dutyAmp g) = .failed :=
    waiting g (List.mem_of_getElem? at_)
  have notQueued (g : Fin 10) (recovered : r.state (dutyAmp g) = .recovered) : r'.unserved.head? ≠ some g := by
    rw [head]
    exact fun queued => nomatch (failed g _ queued).symm.trans recovered
  refine ⟨r'.giveBack_failOrder.trans h.failOrder, ?unserved, ?due, ?others, ?serves, ?back, ?kept⟩
  case unserved => rw [Roster.giveBack_unserved, h.unserved, length, List.tail_drop]
  case due =>
    intro j mem
    rcases List.mem_append.1 mem with mem | same
    · exact h.due j mem
    · rw [List.mem_singleton.1 same]
      exact ⟨k, standing, recovered⟩
  case others =>
    intro j member out
    rw [List.mem_append, not_or, List.mem_singleton] at out
    rw [r'.giveBack_state out.2, if_neg (ne_dutyAmp_of_standby member k)]
    exact h.others j member out.1
  case serves =>
    intro n j at_
    by_cases old : n < freed.length
    · rw [List.getElem?_append_left old] at at_
      have mem : j ∈ freed := List.mem_of_getElem? at_
      have other : j ≠ i := fun same => fresh (same ▸ mem)
      obtain ⟨idle, stands⟩ := h.serves n j at_
      rw [r'.giveBack_state other, if_neg (ne_dutyAmp_of_standby (members j mem) k)]
      refine ⟨idle, fun g queued => ⟨(stands g queued).1, ?_⟩⟩
      have notK : g ≠ k := by
        rintro rfl
        exact nomatch (failed g n queued).symm.trans recovered
      refine ((Roster.giveBack_other standby notK).2 ?_).trans (stands g queued).2
      rw [head]
      intro queued'
      have same : n = freed.length := (List.getElem?_inj (List.getElem?_eq_some_iff.1 queued).1 once).1
        (queued.trans queued'.symm)
      omega
    · rw [List.getElem?_append_right (by omega)] at at_
      obtain ⟨low, same⟩ := List.getElem?_eq_some_iff.1 at_
      rw [List.length_singleton] at low
      have n_eq : n = freed.length := by omega
      subst n_eq
      simp only [Nat.sub_self, List.getElem_cons_zero] at same
      rw [← same, ← head]
      exact r'.giveBack_own
  case back =>
    rintro g ⟨j, mem, standing'⟩
    by_cases same : g = k
    · subst same
      exact ⟨(Roster.giveBack_duty standby g).trans (if_pos rfl),
        (r'.giveBack_head (notQueued g recovered)).trans (if_pos rfl)⟩
    · have mem' : j ∈ freed := by
        rcases List.mem_append.1 mem with mem | eq
        · exact mem
        · rw [List.mem_singleton.1 eq, standing] at standing'
          cases standing'
          exact absurd rfl same
      obtain ⟨normal, server⟩ := h.back g ⟨j, mem', standing'⟩
      obtain ⟨l, standing'', recovered'⟩ := h.due j mem'
      rw [standing'] at standing''
      cases standing''
      obtain ⟨state, served⟩ := Roster.giveBack_other (r := r') standby same
      exact ⟨state.trans normal, (served (notQueued g recovered')).trans server⟩
  case kept =>
    intro g none
    have notK : g ≠ k := by
      rintro rfl
      exact none i (List.mem_append_right _ List.mem_cons_self) standing
    obtain ⟨state, server⟩ := h.kept g fun j mem => none j (List.mem_append_left _ mem)
    obtain ⟨state', server'⟩ := Roster.giveBack_other (r := r') standby notK
    refine ⟨state'.trans state, fun out => ?_⟩
    rw [length, List.take_add_one, List.mem_append, not_or] at out
    refine (server' ?_).trans (server out.1)
    rw [head]
    exact fun queued => out.2 (by rw [queued]; exact List.mem_singleton.2 rfl)

end Step

/-- A standby stands in for a RECOVERED amplifier. -/
def Roster.frees (r : Roster) (i : Fin 12) : Bool :=
  match r.state i with
  | .standingIn k => decide (r.state (dutyAmp k) = .recovered)
  | _ => false

theorem Roster.frees_iff {r : Roster} {i : Fin 12} :
    r.frees i = true ↔ ∃ k, r.state i = .standingIn k ∧ r.state (dutyAmp k) = .recovered := by
  unfold Roster.frees
  cases state : r.state i with
  | standingIn k =>
    rw [decide_eq_true_eq]
    exact ⟨fun recovered => ⟨k, rfl, recovered⟩, fun ⟨j, same, recovered⟩ => by cases same; exact recovered⟩
  | _ => exact iff_of_false nofun (by rintro ⟨k, ⟨⟩, -⟩)

/-- A standby not yet freed stands in for a RECOVERED amplifier still, or still does not. -/
theorem Roster.Returned.frees_eq {r r' : Roster} {freed : List (Fin 12)} {i : Fin 12} (h : r.Returned freed r')
    (standby : i ∈ standbys) (fresh : i ∉ freed)
    (apart : ∀ k, r.state i = .standingIn k → ∀ j ∈ freed, r.state j ≠ .standingIn k) : r'.frees i = r.frees i := by
  unfold Roster.frees
  rw [h.others i standby fresh]
  cases state : r.state i with
  | standingIn k =>
    dsimp only
    rw [(h.kept k (apart k state)).1]
  | _ => rfl

end Sys2Proof.Machine
end

section
/-! SUPPORT. The audio side where nothing is carried and nothing called for: returns, the end of an event, and RESTART (R139,
R159). -/

namespace Sys2Proof.Machine

open Sys2Proof Function

/-! ### Nothing carried -/

/-- No amplifier carries a feed or holds a pending target. -/
def Audio.Silent (a : Audio) : Prop :=
  ∀ i : Fin 12, a.amps[i].carries = (.none, none)

/-- No group's server is to carry anything. -/
def View.Still (v : View) : Prop :=
  ∀ g : Fin 10, v.target g = .none

/-- Of the audio side only the amplifier records and the unserved queue have changed. -/
structure Audio.OnlyUnit (a b : Audio) : Prop where
  eq : b = { a with amps := b.amps, unserved := b.unserved }

theorem Audio.OnlyUnit.refl (a : Audio) : a.OnlyUnit a := ⟨rfl⟩

theorem Audio.OnlyUnit.trans {a b c : Audio} (h : a.OnlyUnit b) (g : b.OnlyUnit c) : a.OnlyUnit c := by
  refine ⟨?_⟩
  rw [g.eq, h.eq]

theorem Audio.OnlyAmps.unit {a b : Audio} (h : a.OnlyAmps b) : a.OnlyUnit b := by
  refine ⟨?_⟩
  rw [h.eq]

theorem Audio.serveQueue_onlyUnit (v : View) (i : Fin 12) (a : Audio) : a.OnlyUnit (a.serveQueue v i) := by
  unfold Audio.serveQueue
  split
  · next k rest _ _ =>
    exact Audio.OnlyUnit.trans (b := ({ a with unserved := rest } : Audio).setAmpState i (.standingIn k)) ⟨rfl⟩
      (Audio.moveGroup_onlyAmps v _ _ _).unit
  · exact .refl a

theorem Audio.giveBack_onlyUnit (v : View) (k : Fin 10) (i : Fin 12) (a : Audio) : a.OnlyUnit (a.giveBack v k i) := by
  have moved := (Audio.moveGroup_onlyAmps v k (some (dutyAmp k)) a).unit
  have set : (a.moveGroup v k (some (dutyAmp k))).OnlyUnit
      (((a.moveGroup v k (some (dutyAmp k))).setAmpState (dutyAmp k) .normal).setAmpState i .idle) := ⟨rfl⟩
  exact (moved.trans set).trans (Audio.serveQueue_onlyUnit v i _)

section Silent
variable {v : View} (still : v.Still) {a : Audio} (h : a.Silent)
include h

theorem Audio.Silent.setAmpState (i : Fin 12) (st : AmpState) : (a.setAmpState i st).Silent := fun j =>
  (a.setAmpState_carries i j st).trans (h j)

theorem Audio.Silent.switchTo (i : Fin 12) : (a.switchTo i .none).Silent := fun j => by
  rw [Audio.switchTo_amps]
  split
  · rfl
  · exact h j

theorem Audio.Silent.setServer (g : Fin 10) (x : Option (Fin 12)) : (a.setServer g x).Silent := fun j =>
  (a.setServer_carries j g x).trans (h j)

include still

theorem Audio.Silent.retarget (g : Fin 10) : (a.retarget v g).Silent := by
  unfold Audio.retarget
  split
  · next i _ =>
    have none : a.amps[i].feed = .none := (Amp.carries_eq (h i)).1
    rw [still g, Audio.applyTarget_switches (.inl (by rw [none]; rfl))]
    exact h.switchTo i
  · exact h

theorem Audio.Silent.moveGroup (g : Fin 10) (j : Fin 12) : (a.moveGroup v g (some j)).Silent := by
  cases served : a.serverOf g with
  | some i =>
    intro k
    rw [Audio.moveGroup_carries served]
    split_ifs
    · exact h i
    · rfl
    · exact h k
  | none =>
    rw [Audio.moveGroup_fromNone served]
    exact ((h.switchTo j).setServer g _).retarget still g

theorem Audio.Silent.serveQueue (i : Fin 12) : (a.serveQueue v i).Silent := by
  unfold Audio.serveQueue
  split
  · next k rest _ _ =>
    have queued : ({ a with unserved := rest } : Audio).Silent := h
    exact (queued.setAmpState i _).moveGroup still k i
  · exact h

theorem Audio.Silent.giveBack (k : Fin 10) (i : Fin 12) : (a.giveBack v k i).Silent :=
  (((h.moveGroup still k _).setAmpState _ _).setAmpState _ _).serveQueue still i

end Silent

/-! ### The returns of a silent unit -/

section Returns
variable {v : View} (still : v.Still) {d : Desk} (h : d.audio.Silent)
include still h

/-- A standby of a silent unit that stands in for a RECOVERED amplifier gives the group back, and no other does. -/
theorem Desk.returnOf_silent (i : Fin 12) : (d.returnOf v i).audio.Silent ∧ d.audio.OnlyUnit (d.returnOf v i).audio ∧
    ((∀ k, d.audio.roster.state i = .standingIn k → d.audio.roster.state (dutyAmp k) = .recovered →
        (d.returnOf v i).audio.roster = d.audio.roster.giveBack k i) ∧
      (d.audio.roster.frees i = false → (d.returnOf v i).audio.roster = d.audio.roster)) := by
  obtain ⟨feed, pending⟩ := Amp.carries_eq (h i)
  rcases d.returnOf_cases v i with ⟨k, due, eq⟩ | ⟨none, eq⟩
  · rw [eq]
    refine ⟨h.giveBack still k i, Audio.giveBack_onlyUnit v k i _, fun j standing _ => ?_, fun kept => ?_⟩
    · have same := due.standing.symm.trans standing
      cases same
      exact d.audio.giveBack_roster v k i
    · rw [Roster.frees_iff.2 ⟨k, due.standing, due.recovered⟩] at kept
      cases kept
  · rw [eq]
    exact ⟨h, .refl _, fun k standing recovered => absurd ⟨standing, recovered, feed, pending⟩ (none k), fun _ => rfl⟩

/-- The returns of a silent unit, standby 10 first: each standby that stands in for a RECOVERED amplifier is freed. -/
theorem Desk.returns_silent (apart : ∀ k, d.audio.roster.state 10 = .standingIn k → d.audio.roster.state 11 ≠ .standingIn k)
    (once : d.audio.roster.unserved.Nodup)
    (waiting : ∀ k ∈ d.audio.roster.unserved, d.audio.roster.state (dutyAmp k) = .failed) :
    d.audio.roster.Returned (standbys.filter d.audio.roster.frees) ((d.returnOf v 10).returnOf v 11).audio.roster := by
  obtain ⟨silent, -, first, first'⟩ := Desk.returnOf_silent still h 10
  obtain ⟨-, -, second, second'⟩ := Desk.returnOf_silent still silent 11
  generalize d.audio.roster = r at *
  generalize (d.returnOf v 10).audio.roster = r₁ at *
  generalize ((d.returnOf v 10).returnOf v 11).audio.roster = r₂ at *
  obtain ⟨freed, freed_eq⟩ : ∃ freed, freed = if r.frees 10 then [(10 : Fin 12)] else [] := ⟨_, rfl⟩
  have members : ∀ j ∈ freed, j = 10 := by
    rw [freed_eq]
    intro j mem
    split at mem
    · exact List.mem_singleton.1 mem
    · cases mem
  have fresh : (11 : Fin 12) ∉ freed := fun mem => by cases members _ mem
  have alone (k : Fin 10) (standing : r.state 11 = .standingIn k) (j : Fin 12) (mem : j ∈ freed) : r.state j ≠ .standingIn k :=
    fun other => apart k (members j mem ▸ other) standing
  have one : r.Returned freed r₁ := by
    rw [freed_eq]
    cases ten : r.frees 10 with
    | false =>
      rw [first' ten]
      exact .refl r
    | true =>
      obtain ⟨k, standing, recovered⟩ := Roster.frees_iff.1 ten
      rw [first k standing recovered]
      exact (Roster.Returned.refl r).step nofun (by decide) nofun once waiting standing recovered nofun
  have order : standbys.filter r.frees = freed ++ if r.frees 11 then [11] else [] := by
    rw [freed_eq]
    cases ten : r.frees 10 <;> cases eleven : r.frees 11 <;> simp [standbys, ten, eleven]
  have same := one.frees_eq (by decide) fresh alone
  rw [order]
  cases eleven : r.frees 11 with
  | false =>
    rw [second' (same.trans eleven), if_neg nofun, List.append_nil]
    exact one
  | true =>
    obtain ⟨k, standing, recovered⟩ := Roster.frees_iff.1 eleven
    have standing' : r₁.state 11 = .standingIn k := (one.others 11 (by decide) fresh).trans standing
    have recovered' : r₁.state (dutyAmp k) = .recovered := (one.kept k (alone k standing)).1.trans recovered
    rw [second k standing' recovered', if_pos rfl]
    exact one.step (fun j mem => by rw [members j mem]; decide) (by decide) fresh once waiting standing recovered
      (alone k standing)

end Returns

end Sys2Proof.Machine
end

section
/-! O15: RESTART, block by block (R16, R35, R57, R95, R113, R139, R159, R171, R186, R187). -/

namespace Sys2Proof.Machine

open Sys2Proof Function

/-! ### The pool at RESTART (R159) -/

/-- A fold of operations that each touch one index, as that one's operation leaves what is read there. -/
theorem foldl_at {σ ι α : Type} [DecidableEq ι] {f : σ → ι → σ} {read : σ → ι → α} {g : ι → α → α}
    (touches : ∀ (b : σ) (i j : ι), read (f b i) j = if i = j then g i (read b i) else read b j)
    {l : List ι} (once : l.Nodup) (a : σ) (j : ι) :
    read (l.foldl f a) j = if j ∈ l then g j (read a j) else read a j := by
  induction l generalizing a with
  | nil => simp
  | cons i l ih =>
    obtain ⟨fresh, once⟩ := List.nodup_cons.1 once
    rw [List.foldl_cons, ih once, touches]
    by_cases same : i = j
    · subst same
      simp [fresh]
    · simp [same, Ne.symm same]

/-- A player that is IDLE, with empty page buffers. -/
def Player.idle (p : Player) : Player :=
  { p with walk := none, playing := none, ready := none }

/-- Of the audio side only the players, the requests and the fetch in flight have changed. -/
structure Audio.OnlyPool (a b : Audio) : Prop where
  eq : b = { a with
    players := b.players
    store := { a.store with requests := b.store.requests, fetch := b.store.fetch } }

section IdleAll
variable (a : Audio)

theorem Audio.idlePlayer_players (k j : Fin 6) :
    (a.idlePlayer k).players[j] = if k = j then a.players[k].idle else a.players[j] := by
  rw [Audio.idlePlayer, Audio.setWalk_players]
  unfold Audio.leaveEntry
  dsimp only
  rw [Audio.setPlayer_players, if_pos rfl, Audio.setPlayer_players]
  split
  · rfl
  · rfl

theorem Audio.idlePlayer_requests (k j : Fin 6) :
    (a.idlePlayer k).store.requests[j] = if k = j then none else a.store.requests[j] := by
  show (a.store.requests.set k none)[j] = _
  simp only [Fin.getElem_fin, Vector.getElem_set, Fin.ext_iff]

theorem Audio.idleAll_players (k : Fin 6) : ((List.finRange 6).foldl Audio.idlePlayer a).players[k] = a.players[k].idle :=
  (foldl_at (read := fun (a : Audio) (j : Fin 6) => a.players[j]) (g := fun _ p => p.idle)
    (fun b i j => b.idlePlayer_players i j) (List.nodup_finRange 6) a k).trans (if_pos (List.mem_finRange k))

theorem Audio.idleAll_requests (k : Fin 6) : ((List.finRange 6).foldl Audio.idlePlayer a).store.requests[k] = none :=
  (foldl_at (read := fun (a : Audio) (j : Fin 6) => a.store.requests[j]) (g := fun _ _ => none)
    (fun b i j => b.idlePlayer_requests i j) (List.nodup_finRange 6) a k).trans (if_pos (List.mem_finRange k))

theorem Audio.idleAll_fetch (l : List (Fin 6)) : (l.foldl Audio.idlePlayer a).store.fetch =
    a.store.fetch.map fun f => if f.player ∈ l then { f with wanted := false } else f := by
  induction l generalizing a with
  | nil => simp
  | cons k l ih =>
    have first : (a.idlePlayer k).store.fetch =
        a.store.fetch.map fun f => if f.player = k then { f with wanted := false } else f := rfl
    rw [List.foldl_cons, ih, first, Option.map_map]
    congr 1
    funext f
    by_cases same : f.player = k
    · simp [same]
    · simp [same]

theorem Audio.idleAll_onlyPool (l : List (Fin 6)) : a.OnlyPool (l.foldl Audio.idlePlayer a) := by
  induction l generalizing a with
  | nil => exact ⟨rfl⟩
  | cons k l ih =>
    refine ⟨?_⟩
    rw [List.foldl_cons, (ih (a.idlePlayer k)).eq]
    rfl

end IdleAll

/-! ### The switching unit at RESTART (R139) -/

/-- The audio side with every feed, target, connection and demand gone. -/
def Audio.emptied (a : Audio) : Audio :=
  { a with
    amps := Vector.ofFn fun i => { a.amps[i] with feed := .none, pending := none }
    connections := Vector.replicate 48 .disconnected
    carried := Vector.replicate 48 false
    demand := [] }

theorem Audio.restart_eq (a : Audio) : a.restart = (List.finRange 6).foldl Audio.idlePlayer a.emptied := rfl

theorem Audio.restart_onlyPool (a : Audio) : a.emptied.OnlyPool a.restart := a.emptied.idleAll_onlyPool _

theorem Audio.restart_amps (a : Audio) (i : Fin 12) :
    a.restart.amps[i] = { a.amps[i] with feed := .none, pending := none } := by
  rw [a.restart_onlyPool.eq]
  exact Vector.getElem_ofFn _

theorem Audio.restart_silent (a : Audio) : a.restart.Silent := fun i => by
  rw [Audio.restart_amps]
  rfl

theorem Audio.restart_roster (a : Audio) : a.restart.roster = a.roster := by
  have at_ {β : Type} (f : Amp → β) (blind : ∀ x : Amp, f { x with feed := .none, pending := none } = f x) (i : Fin 12) :
      f a.restart.amps[i] = f a.amps[i] := by rw [Audio.restart_amps, blind]
  exact Roster.ext (funext (at_ Amp.state fun _ => rfl)) (funext (at_ Amp.fault fun _ => rfl))
    (funext (at_ Amp.failedAt fun _ => rfl)) (funext fun g => at_ Amp.server (fun _ => rfl) (dutyAmp g))
    (by rw [Audio.roster, a.restart_onlyPool.eq]; rfl) (by rw [Audio.roster, a.restart_onlyPool.eq]; rfl)

/-! ### The end of an event where nothing is called for -/

section Quiet
variable {v : View} (ranks : ∀ z : Fin 48, v.records[z].rank = .none)
include ranks

theorem View.still_of_ranks : v.Still := fun g => View.target_none fun z mem => by
  rw [View.mem_candidates_iff] at mem
  exact mem.2.2.1 (ranks z)

theorem Audio.decide_disconnected {a : Audio} {z : Fin 48} (disconnected : a.connections[z] = .disconnected) :
    a.decide v z = .disconnected := by
  by_cases unused : v.configs[z].kind = .unused
  · exact Audio.decide_unused unused
  · cases eligible : v.lines[z].state.eligible with
    | false => exact (Audio.decide_out unused eligible).trans (if_pos (ranks z))
    | true =>
      refine (Audio.decide_silent unused eligible (ranks z)).trans (if_neg fun held => ?_)
      rw [disconnected] at held
      cases held.1

/-- The image of a unit that carries nothing to no zone. -/
def Image.open (img : Image) : Image :=
  { lineSelect := img.lineSelect, sources := Vector.replicate 12 .none, relays := Vector.replicate 48 none }

/-- An audio side without connections. -/
def Audio.disconnected (a : Audio) : Audio :=
  { a with connections := Vector.replicate 48 .disconnected, carried := Vector.replicate 48 false }

theorem Audio.decideAll_silent {a : Audio} (disconnected : ∀ z : Fin 48, a.connections[z] = .disconnected) :
    a.decideAll v = a.disconnected := by
  have connections : (Vector.ofFn fun z => a.decide v z) = Vector.replicate 48 .disconnected := by
    ext z hz
    simp only [Vector.getElem_ofFn, Vector.getElem_replicate]
    exact Audio.decide_disconnected ranks (disconnected ⟨z, hz⟩)
  have carried : (Vector.ofFn fun z => a.carriedFlag v z (a.decide v z)) = Vector.replicate 48 false := by
    ext z hz
    simp only [Vector.getElem_ofFn, Vector.getElem_replicate]
    rw [Audio.decide_disconnected ranks (disconnected ⟨z, hz⟩)]
    rfl
  rw [Audio.decideAll, connections, carried, Audio.disconnected]

omit ranks in
theorem Audio.imageOf_silent {a : Audio} (silent : a.Silent) : a.disconnected.imageOf v = a.image.open := by
  have sources : (Vector.ofFn fun i => a.disconnected.sourceOf a.disconnected.amps[i].feed) = Vector.replicate 12 .none := by
    ext i hi
    simp only [Vector.getElem_ofFn, Vector.getElem_replicate]
    have none : a.disconnected.amps[(⟨i, hi⟩ : Fin 12)].feed = .none := (Amp.carries_eq (silent ⟨i, hi⟩)).1
    exact congrArg a.disconnected.sourceOf none
  have relays : (Vector.ofFn fun z : Fin 48 => if a.disconnected.connections[z] = .connected then
      a.disconnected.serverOf v.configs[z].duty else none) = Vector.replicate 48 none := by
    ext z hz
    simp [Audio.disconnected]
  rw [Audio.imageOf, sources, relays, Image.open]
  rfl

end Quiet

section Demand
variable {v : View} {a : Audio} (silent : a.Silent)
include silent

theorem Audio.demandOf_silent : a.demandOf v = [] := by
  have feeds : a.amps.toList.map Amp.wanted = List.replicate 12 .none := by
    rw [List.eq_replicate_iff]
    refine ⟨by simp, fun f mem => ?_⟩
    obtain ⟨x, mem', rfl⟩ := List.mem_map.1 mem
    obtain ⟨i, hi, rfl⟩ := List.mem_iff_getElem.1 mem'
    rw [Vector.length_toList] at hi
    obtain ⟨feed, pending⟩ := Amp.carries_eq (silent ⟨i, hi⟩)
    have at_ : a.amps.toList[i] = a.amps[(⟨i, hi⟩ : Fin 12)] := Vector.getElem_toList _
    rw [at_, Amp.wanted, feed, pending]
    rfl
  have none : (List.finRange 16).filterMap (fun p => (List.replicate 12 Feed.none).foldl (v.joinDemand p) none) = [] :=
    List.filterMap_eq_nil_iff.2 fun p _ => rfl
  rw [Audio.demandOf, feeds, none]
  rfl

end Demand

theorem Audio.releaseDone_idle {a : Audio} (idle : ∀ k : Fin 6, a.players[k].walk = none) : a.releaseDone = false := by
  rw [Audio.releaseDone, List.any_eq_false]
  intro k _
  rw [idle k]
  exact nofun

/-- Where the demand list stands and no player is done, settling does nothing. -/
theorem Desk.settle_idle {v : View} {d : Desk} (fuel : Nat) (before : Vector (Option (Fin 16)) 6)
    (demand : d.audio.demandOf v = d.audio.demand) (done : d.audio.releaseDone = false) :
    d.settle v fuel before false = d := by
  cases fuel with
  | zero => rfl
  | succ fuel =>
    refine if_neg ?_
    rw [demand, done]
    simp

/-! ### RESTART at the desk -/

theorem Desk.returnOf_failedAt (v : View) (d : Desk) (i : Fin 12) :
    (d.returnOf v i).audio.roster.failedAt = d.audio.roster.failedAt := by
  rcases d.returnOf_cases v i with ⟨k, -, eq⟩ | ⟨-, eq⟩
  · rw [eq]
    exact (congrArg Roster.failedAt (d.audio.giveBack_roster v k i)).trans (Roster.giveBack_failedAt _)
  · rw [eq]

theorem Audio.setImage_refreshFrom {a : Audio} {before : Image} (image : a.image = before) (img : Image) :
    Audio.refreshFrom before (a.setImage img) = ({ a with image := img } : Audio).refresh := by
  unfold Audio.setImage Audio.refreshFrom
  rw [image]
  by_cases same : img = before
  · subst same
    rw [if_pos rfl, if_pos image, ← image]
  · rw [if_neg same]
    have kept : ({ a with image := img } : Audio).refresh.image = img := by
      unfold Audio.refresh
      split <;> rfl
    rw [if_neg (by rw [kept]; exact same)]

/-- What the end of an event makes of a unit where nothing is carried and nothing called for: `b` is the unit after the
returns of R130. -/
structure Audio.SilentEnd (a b : Audio) : Prop where
  only : a.OnlyUnit b
  silent : b.Silent
  switch : a.SwitchStep b
  failedAt : b.roster.failedAt = a.roster.failedAt
  returned : (∀ k, a.roster.state 10 = .standingIn k → a.roster.state 11 ≠ .standingIn k) → a.roster.unserved.Nodup →
    (∀ k ∈ a.roster.unserved, a.roster.state (dutyAmp k) = .failed) →
    a.roster.Returned (standbys.filter a.roster.frees) b.roster

theorem Desk.returns_end {v : View} (still : v.Still) {e : Desk} (silent : e.audio.Silent) :
    e.audio.SilentEnd ((e.returnOf v 10).returnOf v 11).audio := by
  obtain ⟨silent₁, only₁, -⟩ := Desk.returnOf_silent still silent 10
  obtain ⟨silent₂, only₂, -⟩ := Desk.returnOf_silent still silent₁ 11
  exact ⟨only₁.trans only₂, silent₂, (e.returnOf_switch v 10).trans (Desk.returnOf_switch v _ 11),
    (Desk.returnOf_failedAt v (e.returnOf v 10) 11).trans (e.returnOf_failedAt v 10), Desk.returns_silent still silent⟩

section End
variable {v : View} (ranks : ∀ z : Fin 48, v.records[z].rank = .none) {e : Desk} (silent : e.audio.Silent)
  (open_ : ∀ z : Fin 48, e.audio.connections[z] = .disconnected)
include ranks silent open_

theorem Desk.close_silent : ∃ b, e.audio.SilentEnd b ∧ (e.close v).audio = b.disconnected.setImage e.audio.image.open := by
  have ended := Desk.returns_end (View.still_of_ranks ranks) silent
  rw [Desk.close_eq, Desk.mapAudio_audio]
  generalize ((e.returnOf v 10).returnOf v 11).audio = b at ended
  have connections (z : Fin 48) : b.connections[z] = .disconnected := by
    rw [ended.only.eq]
    exact open_ z
  have image : b.image = e.audio.image := by rw [ended.only.eq]
  refine ⟨b, ended, ?_⟩
  rw [Audio.decideImage, Audio.decideAll_silent ranks connections, Audio.imageOf_silent ended.silent, image]

variable (demand : e.audio.demand = []) (idle : ∀ k : Fin 6, e.audio.players[k].walk = none)
include demand idle

theorem Desk.finish_silent :
    ∃ b, e.audio.SilentEnd b ∧ (e.finish v).audio = b.disconnected.setImage e.audio.image.open := by
  obtain ⟨b, ended, closed⟩ := Desk.close_silent ranks silent open_
  have pool := Audio.setImage_switch b.disconnected e.audio.image.open
  have closedSilent : (e.close v).audio.Silent := fun i => by
    rw [closed, Audio.setImage_amps]
    exact ended.silent i
  have kept : (e.close v).audio.demandOf v = (e.close v).audio.demand := by
    rw [Audio.demandOf_silent closedSilent, closed, pool.demand]
    exact (ended.switch.demand.trans demand).symm
  have done : (e.close v).audio.releaseDone = false := Audio.releaseDone_idle fun k => by
    rw [closed, pool.players]
    exact (congrArg (fun players : Vector Player 6 => players[k].walk) ended.switch.players).trans (idle k)
  have settled : e.finish v = e.close v := Desk.settle_idle _ _ kept done
  exact ⟨b, ended, by rw [settled, closed]⟩

end End

theorem Audio.restart_connections (a : Audio) (z : Fin 48) : a.restart.connections[z] = .disconnected := by
  rw [a.restart_onlyPool.eq]
  exact Vector.getElem_replicate _

theorem Audio.restart_demand (a : Audio) : a.restart.demand = [] := by
  rw [a.restart_onlyPool.eq]
  rfl

theorem Audio.restart_image (a : Audio) : a.restart.image = a.image := by
  rw [a.restart_onlyPool.eq]
  rfl

theorem Audio.restart_players (a : Audio) (k : Fin 6) : a.restart.players[k] = a.players[k].idle := by
  rw [Audio.restart_eq, Audio.idleAll_players]
  rfl

/-- A silent pool settled, and the output refreshed with the open image. -/
theorem Desk.finish_refreshed {v : View} (ranks : ∀ z : Fin 48, v.records[z].rank = .none) {e : Desk} {image : Image}
    (silent : e.audio.Silent) (open_ : ∀ z : Fin 48, e.audio.connections[z] = .disconnected) (demand : e.audio.demand = [])
    (idle : ∀ k : Fin 6, e.audio.players[k].walk = none) (same : e.audio.image = image) :
    ∃ b : Audio, e.audio.SilentEnd b ∧
      Audio.refreshFrom image (e.finish v).audio = ({ b.disconnected with image := image.open } : Audio).refresh := by
  obtain ⟨b, ended, finished⟩ := Desk.finish_silent ranks silent open_ demand idle
  refine ⟨b, ended, ?_⟩
  rw [finished, same]
  refine Audio.setImage_refreshFrom (a := b.disconnected) ?_ _
  show b.image = _
  rw [ended.only.eq]
  exact same

theorem Audio.restart_walk (a : Audio) (k : Fin 6) : a.restart.players[k].walk = none := by
  rw [Audio.restart_players]
  rfl

/-- RESTART at the desk: the players go, the returns are made, and the output is refreshed with the open image. -/
theorem Desk.restart_spec {v : View} (ranks : ∀ z : Fin 48, v.records[z].rank = .none) (d : Desk) :
    ∃ b : Audio, d.audio.restart.SilentEnd b ∧
      (d.restart v).audio = ({ b.disconnected with image := d.audio.image.open } : Audio).refresh := by
  have audio := d.mapAudio_audio Audio.restart
  rw [Desk.restart_audio]
  generalize d.mapAudio Audio.restart = e at audio
  have silent := d.audio.restart_silent
  have open_ := d.audio.restart_connections
  have demand := d.audio.restart_demand
  have idle := d.audio.restart_walk
  have image := d.audio.restart_image
  rw [← audio] at silent open_ demand idle image ⊢
  exact Desk.finish_refreshed ranks silent open_ demand idle image

end Sys2Proof.Machine
end

section
/-! O15: RESTART, block by block (R16, R35, R57, R95, R113, R139, R159, R171, R186, R187). -/

namespace Sys2Proof.Machine

open Sys2Proof Function

theorem Audio.refresh_spec (a : Audio) : ∃ shifting refreshDue,
    a.refresh = { a with shifting := shifting, refreshDue := refreshDue } ∧
      (a.shifting = none → shifting = some a.image) ∧
      ∀ img, a.shifting = some img → shifting = some img ∧ refreshDue = true := by
  cases started : a.shifting with
  | none => exact ⟨_, _, if_neg (by rw [started]; exact nofun), fun _ => rfl, nofun⟩
  | some img =>
    refine ⟨_, _, if_pos (by rw [started]; rfl), nofun, fun img' same => ⟨?_, rfl⟩⟩
    rw [started, same]

/-! ### The audio side after RESTART -/

/-- The audio side `c` after RESTART of `a`, apart from who serves whom. -/
structure Audio.Restarted (a c : Audio) : Prop where
  zones : ∀ z : Fin 48, c.connections[z] = .disconnected ∧ c.carried[z] = false
  amps : ∀ i : Fin 12, c.amps[i].feed = .none ∧ c.amps[i].pending = none ∧ c.amps[i].fault = a.amps[i].fault ∧
    c.amps[i].run = a.amps[i].run ∧ c.amps[i].failedAt = a.amps[i].failedAt
  players : ∀ k : Fin 6, c.players[k] = { a.players[k] with walk := none, playing := none, ready := none } ∧
    c.store.requests[k] = none
  image : c.image = a.image.open
  loaded : c.loaded = a.loaded
  started : a.shifting = none → c.shifting = some a.image.open
  shifting : ∀ img, a.shifting = some img → c.shifting = some img ∧ c.refreshDue = true
  fetch : c.store.fetch = a.store.fetch.map fun f => { f with wanted := false }
  demand : c.demand = []
  segments : c.segments = a.segments
  programs : c.programs = a.programs
  size : c.store.size = a.store.size
  lastServed : c.store.lastServed = a.store.lastServed

theorem Audio.restart_fetch (a : Audio) :
    a.restart.store.fetch = a.store.fetch.map fun f => { f with wanted := false } := by
  rw [Audio.restart_eq, Audio.idleAll_fetch]
  simp only [List.mem_finRange, if_true]
  rfl

theorem Desk.restart_restarted {v : View} (ranks : ∀ z : Fin 48, v.records[z].rank = .none) (d : Desk) :
    d.audio.Restarted (d.restart v).audio ∧
      ∃ b : Audio, d.audio.restart.SilentEnd b ∧ (d.restart v).audio.roster = b.roster := by
  obtain ⟨b, ended, done⟩ := Desk.restart_spec ranks d
  obtain ⟨shifting, due, refreshed, started, shifted⟩ :=
    ({ b.disconnected with image := d.audio.image.open } : Audio).refresh_spec
  rw [refreshed] at done
  generalize (d.restart v).audio = c at done
  have only := ended.only.eq
  have pool := d.audio.restart_onlyPool.eq
  have before : b.shifting = d.audio.shifting := by rw [only, pool]; rfl
  refine ⟨⟨fun z => ?_, fun i => ?_, fun k => ?_, by rw [done], ?_, fun none => ?_, fun img some => ?_, ?_, ?_, ?_, ?_, ?_, ?_⟩,
    b, ended, by rw [done]; rfl⟩
  · rw [done]
    exact ⟨Vector.getElem_replicate _, Vector.getElem_replicate _⟩
  · obtain ⟨feed, pending⟩ := Amp.carries_eq (ended.silent i)
    have faults := ended.switch.faults i
    have runs := ended.switch.runs i
    rw [Audio.restart_amps] at faults runs
    rw [done]
    refine ⟨feed, pending, faults, runs, ?_⟩
    exact (congrFun ended.failedAt i).trans (congrFun (congrArg Roster.failedAt d.audio.restart_roster) i)
  · rw [done]
    show b.players[k] = _ ∧ b.store.requests[k] = none
    rw [ended.switch.players, ended.switch.store, Audio.restart_players]
    exact ⟨rfl, d.audio.emptied.idleAll_requests k⟩
  · rw [done]
    show b.loaded = _
    rw [only, pool]
    rfl
  · rw [done]
    exact started (before.trans none)
  · rw [done]
    exact shifted img (before.trans some)
  · rw [done]
    show b.store.fetch = _
    rw [ended.switch.store, Audio.restart_fetch]
  · rw [done]
    show b.demand = _
    rw [ended.switch.demand, Audio.restart_demand]
  · rw [done]
    show b.segments = _
    rw [only, pool]
    rfl
  · rw [done]
    show b.programs = _
    rw [only, pool]
    rfl
  · rw [done]
    show b.store.size = _
    rw [ended.switch.store, pool]
    rfl
  · rw [done]
    show b.store.lastServed = _
    rw [ended.switch.store, pool]
    rfl

/-! ### O15 -/

theorem State.restart_audio_spec (s : State) (quiet : s.engine.saturated = false) :
    s.audio.Restarted s.restart.audio ∧
      ∃ b : Audio, s.audio.restart.SilentEnd b ∧ s.restart.audio.roster = b.roster := by
  rw [State.restart_audio]
  exact Desk.restart_restarted (v := s.clearedView) (fun z => congrArg ZoneRecord.rank (s.cleared_resolved quiet z))
    { audio := s.audio, notices := s.notices }

theorem exec_restart_quiet {s : State} (quiet : s.engine.saturated = false)
    (calm : ∀ (k : Fin 32) (i : Incident), s.engine.slots[k].incident = some i →
      i.stage.name = .watch ∨ i.stage.name = .confirming ∨ i.stage.name = .investigating) :
    exec .restart s = .next (s.linkValid.restart.respond 0x03 .ok []) := by
  refine congrArg Host.Outcome.next (State.takeRequest_accept (serveRestart_quiet _ ?_))
  rw [State.linkValid_engine, Bool.eq_false_iff]
  intro alarm
  rcases Engine.alarmActive_iff.1 alarm with saturated | ⟨k, i, live, stage⟩
  · rw [quiet] at saturated
    cases saturated
  · rcases calm k i live with name | name | name
    all_goals
      rw [name] at stage
      simp at stage

/-- Who serves whom after RESTART, by the returns one after another. -/
theorem Audio.SilentEnd.roster_spec {a b : Audio} (ended : a.SilentEnd b)
    (apart : ∀ k, a.roster.state 10 = .standingIn k → a.roster.state 11 ≠ .standingIn k)
    (once : a.roster.unserved.Nodup) (waiting : ∀ k ∈ a.roster.unserved, a.roster.state (dutyAmp k) = .failed) :
    b.roster.failOrder = a.roster.failOrder ∧
    b.roster.unserved = a.roster.unserved.drop (standbys.filter a.roster.frees).length ∧
    (∀ i ∈ standbys, a.roster.frees i = false → b.roster.state i = a.roster.state i) ∧
    (∀ (n : Nat) (i : Fin 12), (standbys.filter a.roster.frees)[n]? = some i →
      (a.roster.unserved[n]? = none → b.roster.state i = .idle) ∧
      ∀ j, a.roster.unserved[n]? = some j → b.roster.state i = .standingIn j ∧ b.roster.server j = some i) ∧
    ∀ k : Fin 10,
      ((∃ i ∈ standbys, a.roster.state i = .standingIn k ∧ a.roster.state (dutyAmp k) = .recovered) →
        b.roster.state (dutyAmp k) = .normal ∧ b.roster.server k = some (dutyAmp k)) ∧
      ((∀ i ∈ standbys, a.roster.state i = .standingIn k → a.roster.state (dutyAmp k) ≠ .recovered) →
        b.roster.state (dutyAmp k) = a.roster.state (dutyAmp k) ∧
        (k ∉ a.roster.unserved.take (standbys.filter a.roster.frees).length →
          b.roster.server k = a.roster.server k)) := by
  have returned := ended.returned apart once waiting
  refine ⟨returned.failOrder, returned.unserved, fun i standby kept => returned.others i standby fun mem => ?_,
    returned.serves, fun k => ⟨fun ⟨i, standby, standing, recovered⟩ => ?_, fun none => ?_⟩⟩
  · rw [(List.mem_filter.1 mem).2] at kept
    cases kept
  · exact returned.back k ⟨i, List.mem_filter.2 ⟨standby, Roster.frees_iff.2 ⟨k, standing, recovered⟩⟩, standing⟩
  · refine returned.kept k fun i mem standing => ?_
    obtain ⟨standby, frees⟩ := List.mem_filter.1 mem
    obtain ⟨j, standing', recovered⟩ := Roster.frees_iff.1 frees
    rw [standing] at standing'
    cases standing'
    exact none i standby standing recovered

theorem Engine.restart_slots (e : Engine) (k : Fin 32) :
    ({ e.restart with changed := [] } : Engine).slots[k] = { e.slots[k] with incident := none } := by
  simp [Engine.restart]

theorem Engine.restart_blocks (e : Engine) : ({ e.restart with changed := [] } : Engine) =
    { e with slots := ({ e.restart with changed := [] } : Engine).slots, ages := [], changed := [] } := by
  unfold Engine.restart
  generalize (Vector.ofFn fun k : Fin 32 => ({ e.slots[k] with incident := none } : Slot)) = slots
  rfl

section Blocks
variable (s : State)

theorem State.restart_loops (l : Fin 4) :
    s.linkValid.restart.loops[l] = { s.loops[l] with partialReport := [], buffer := [] } := by
  simp [State.restart, Receiver.restart]

theorem State.restart_map : s.linkValid.restart.map = { s.map with misses := [] } := by simp [State.restart]

theorem State.restart_tests (z : Fin 48) : s.linkValid.restart.resolver.tests[z] = none := by
  simp [State.restart, State.setRecords, State.setTests]

/-- What the taking of RESTART leaves of the clock, the pins and the queue. -/
theorem State.restart_outside : s.linkValid.restart.now = s.now ∧ s.linkValid.restart.pins = s.pins ∧
    s.linkValid.restart.pending = s.pending := by
  simp [State.restart]

theorem State.restart_response : (s.linkValid.restart.respond 0x03 .ok []).link = (s.answer 0x03 .ok []).link := by
  rw [← State.linkValid_respond, State.respond, State.setLink_link, State.restart_link]
  rfl

end Blocks

/-- Settles O15, block by block; the switching unit by its returns one after another. -/
theorem restartRule : Obligations.RestartRule := by
  unfold Obligations.RestartRule
  intro s
  refine ⟨fun alarm => ?refused, fun quiet calm => ?accepted⟩
  case refused =>
    refine congrArg _ (State.takeRequest_refuse (serveRestart_alarm _ ?_))
    rw [State.linkValid_engine]
    exact Engine.alarmActive_iff.2 alarm
  case accepted =>
    have quiet' : s.linkValid.engine.saturated = false := by rw [State.linkValid_engine]; exact quiet
    have exec_eq := exec_restart_quiet quiet calm
    obtain ⟨restarted, b, ended, roster⟩ := s.linkValid.restart_audio_spec quiet'
    have loops := s.restart_loops
    have map := s.restart_map
    have engine := s.linkValid.restart_engine
    have records (z : Fin 48) : s.linkValid.restart.resolver.records[z].rank = .none := by
      rw [State.restart_records]
      exact congrArg ZoneRecord.rank (s.linkValid.cleared_resolved quiet' z)
    have tests := s.restart_tests
    have configs := s.linkValid.restart_configs
    have sessions := s.linkValid.restart_sessions
    have scanner := s.linkValid.restart_scanner
    have notices := s.linkValid.restart_notices
    obtain ⟨now, pins, pending⟩ := s.restart_outside
    have link := s.restart_response
    rw [State.linkValid_audio] at restarted ended
    rw [State.linkValid_engine] at engine
    rw [State.linkValid_resolver] at configs
    rw [State.linkValid_scanner] at scanner
    generalize s.linkValid.restart = u at *
    refine ⟨_, exec_eq, link, loops, map, fun k => ?_, ?_, congrArg Sessions.fireService sessions,
      congrArg Sessions.management sessions, configs, fun z => ⟨tests z, records z, restarted.zones z⟩, restarted.amps,
      restarted.players, ?unit, ⟨restarted.image, restarted.loaded, restarted.started, restarted.shifting⟩,
      restarted.fetch, restarted.demand, restarted.segments, restarted.programs, restarted.size, restarted.lastServed,
      scanner, notices, now, pins, pending⟩
    case unit =>
      intro frees freed unserved apart once waiting
      have same : frees = s.audio.roster.frees := by
        funext i
        show (match s.audio.amps[i].state with | .standingIn k => _ | _ => _) =
          match s.audio.amps[i].state with | .standingIn k => _ | _ => _
        cases s.audio.amps[i].state <;> rfl
      have spec := ended.roster_spec (by rw [Audio.restart_roster]; exact apart)
        (by rw [Audio.restart_roster]; exact once) (by rw [Audio.restart_roster]; exact waiting)
      rw [Audio.restart_roster, ← roster, ← same] at spec
      exact spec
    · rw [State.respond_engine, engine]
      exact s.engine.restart_slots k
    · rw [State.respond_engine, engine]
      exact s.engine.restart_blocks

end Sys2Proof.Machine
end

section
/-! SUPPORT. The agreement of the amplifier records (R123 to R130) at the roster: the part a group plays, and each event of the
unit on it. -/

namespace Sys2Proof.Machine

open Sys2Proof Function

/-! ### The part a group plays -/

/-- A group is served by its own NORMAL amplifier, or by the one standby that stands in for it, or it waits in the queue. -/
inductive Roster.Role (r : Roster) (k : Fin 10) : Prop where
  | own (normal : r.state (dutyAmp k) = .normal) (server : r.server k = some (dutyAmp k))
      (alone : ∀ i ∈ standbys, r.state i ≠ .standingIn k) (served : k ∉ r.unserved)
  | covered (i : Fin 12) (standby : i ∈ standbys)
      (away : r.state (dutyAmp k) = .recovered ∨ r.state (dutyAmp k) = .failed) (server : r.server k = some i)
      (stands : ∀ j ∈ standbys, r.state j = .standingIn k ↔ j = i) (served : k ∉ r.unserved)
  | waiting (failed : r.state (dutyAmp k) = .failed) (server : r.server k = none)
      (alone : ∀ i ∈ standbys, r.state i ≠ .standingIn k) (queued : k ∈ r.unserved)

/-- Every group plays a part, and the lists name each group once. -/
structure Roster.Coherent (r : Roster) : Prop where
  role : ∀ k, r.Role k
  standby : ∀ i ∈ standbys, r.state i = .idle ∨ r.state i = .failed ∨ ∃ k, r.state i = .standingIn k
  once : r.unserved.Nodup
  order : r.failOrder.Nodup
  ordered : ∀ k, r.state (dutyAmp k) = .failed → k ∈ r.failOrder

section Read
variable {r : Roster} {k : Fin 10}

theorem Roster.Role.duty (h : r.Role k) : r.state (dutyAmp k) = .normal ∨ r.state (dutyAmp k) = .recovered ∨
    r.state (dutyAmp k) = .failed := by
  cases h with
  | own normal => exact .inl normal
  | covered i standby away => exact .inr away
  | waiting failed => exact .inr (.inr failed)

theorem Roster.Role.of_normal (h : r.Role k) (normal : r.state (dutyAmp k) = .normal) :
    r.server k = some (dutyAmp k) ∧ (∀ i ∈ standbys, r.state i ≠ .standingIn k) ∧ k ∉ r.unserved := by
  cases h with
  | own _ server alone served => exact ⟨server, alone, served⟩
  | covered i standby away => rw [normal] at away; exact away.elim nofun nofun
  | waiting failed => rw [normal] at failed; cases failed

theorem Roster.Role.of_standing (h : r.Role k) {i : Fin 12} (standby : i ∈ standbys) (standing : r.state i = .standingIn k) :
    (r.state (dutyAmp k) = .recovered ∨ r.state (dutyAmp k) = .failed) ∧ r.server k = some i ∧
      (∀ j ∈ standbys, r.state j = .standingIn k ↔ j = i) ∧ k ∉ r.unserved := by
  cases h with
  | own _ _ alone => exact absurd standing (alone i standby)
  | covered j _ away server stands served =>
    obtain rfl := (stands i standby).1 standing
    exact ⟨away, server, stands, served⟩
  | waiting _ _ alone => exact absurd standing (alone i standby)

theorem Roster.Role.of_recovered (h : r.Role k) (recovered : r.state (dutyAmp k) = .recovered) :
    ∃ i ∈ standbys, r.server k = some i ∧ r.state i = .standingIn k := by
  cases h with
  | own normal => rw [recovered] at normal; cases normal
  | covered i standby _ server stands => exact ⟨i, standby, server, (stands i standby).2 rfl⟩
  | waiting failed => rw [recovered] at failed; cases failed

theorem Roster.Role.of_failed (h : r.Role k) (failed : r.state (dutyAmp k) = .failed) :
    (∃ i ∈ standbys, r.server k = some i ∧ r.state i = .standingIn k) ∨ (r.server k = none ∧ k ∈ r.unserved) := by
  cases h with
  | own normal => rw [failed] at normal; cases normal
  | covered i standby _ server stands => exact .inl ⟨i, standby, server, (stands i standby).2 rfl⟩
  | waiting _ server _ queued => exact .inr ⟨server, queued⟩

theorem Roster.Role.of_queued (h : r.Role k) (queued : k ∈ r.unserved) : r.state (dutyAmp k) = .failed ∧
    r.server k = none ∧ ∀ i ∈ standbys, r.state i ≠ .standingIn k := by
  cases h with
  | own _ _ _ served => exact absurd queued served
  | covered _ _ _ _ _ served => exact absurd queued served
  | waiting failed server alone _ => exact ⟨failed, server, alone⟩

/-- A group's server is its own amplifier or a standby that stands in for it. -/
theorem Roster.Role.of_server (h : r.Role k) {i : Fin 12} (server : r.server k = some i) :
    i = dutyAmp k ∨ (i ∈ standbys ∧ r.state i = .standingIn k) := by
  cases h with
  | own _ own => rw [server] at own; exact .inl (Option.some.inj own)
  | covered j standby _ served stands =>
    rw [server] at served
    cases served
    exact .inr ⟨standby, (stands i standby).2 rfl⟩
  | waiting _ none => rw [server] at none; cases none

/-- No two groups have one server. -/
theorem Roster.Coherent.apart (h : r.Coherent) {g : Fin 10} {i : Fin 12} (hk : r.server k = some i)
    (hg : r.server g = some i) : g = k := by
  rcases (h.role k).of_server hk with own | ⟨standby, standing⟩
  · rcases (h.role g).of_server hg with own' | ⟨standby', -⟩
    · exact dutyAmp_inj (own'.symm.trans own)
    · exact absurd own (ne_dutyAmp_of_standby standby' k)
  · rcases (h.role g).of_server hg with own' | ⟨-, standing'⟩
    · exact absurd own' (ne_dutyAmp_of_standby standby g)
    · rw [standing] at standing'
      cases standing'
      rfl

end Read

/-! ### An event at one group -/

/-- The rosters agree but for group `k`. -/
structure Roster.Elsewhere (k : Fin 10) (r r' : Roster) : Prop where
  duty : ∀ g, g ≠ k → r'.state (dutyAmp g) = r.state (dutyAmp g)
  server : ∀ g, g ≠ k → r'.server g = r.server g
  standing : ∀ i ∈ standbys, ∀ g, g ≠ k → (r'.state i = .standingIn g ↔ r.state i = .standingIn g)
  queue : ∀ g, g ≠ k → (g ∈ r'.unserved ↔ g ∈ r.unserved)
  order : ∀ g, g ≠ k → g ∈ r.failOrder → g ∈ r'.failOrder

/-- A group of which nothing has changed plays the same part. -/
theorem Roster.Role.congr {r r' : Roster} {g : Fin 10} (h : r.Role g)
    (duty : r'.state (dutyAmp g) = r.state (dutyAmp g)) (server : r'.server g = r.server g)
    (standing : ∀ i ∈ standbys, r'.state i = .standingIn g ↔ r.state i = .standingIn g)
    (queue : g ∈ r'.unserved ↔ g ∈ r.unserved) : r'.Role g := by
  have alone (none : ∀ i ∈ standbys, r.state i ≠ .standingIn g) (i : Fin 12) (standby : i ∈ standbys) :
      r'.state i ≠ .standingIn g := fun stands => none i standby ((standing i standby).1 stands)
  cases h with
  | own normal own none served =>
    exact .own (duty.trans normal) (server.trans own) (alone none) (queue.not.2 served)
  | covered i standby away serves stands served =>
    exact .covered i standby (by rwa [duty]) (server.trans serves) (fun j member => (standing j member).trans (stands j member))
      (queue.not.2 served)
  | waiting failed unserved none queued =>
    exact .waiting (duty.trans failed) (server.trans unserved) (alone none) (queue.2 queued)

/-- Agreement is kept where one group's part changes to another. -/
theorem Roster.Coherent.change {r r' : Roster} {k : Fin 10} (h : r.Coherent) (elsewhere : Roster.Elsewhere k r r')
    (role : r'.Role k) (standby : ∀ i ∈ standbys, r'.state i = .idle ∨ r'.state i = .failed ∨ ∃ k, r'.state i = .standingIn k)
    (once : r'.unserved.Nodup) (order : r'.failOrder.Nodup)
    (ordered : r'.state (dutyAmp k) = .failed → k ∈ r'.failOrder) : r'.Coherent where
  role g := by
    by_cases here : g = k
    · rw [here]
      exact role
    · exact (h.role g).congr (elsewhere.duty g here) (elsewhere.server g here)
        (fun i member => elsewhere.standing i member g here) (elsewhere.queue g here)
  standby := standby
  once := once
  order := order
  ordered g := by
    by_cases here : g = k
    · rw [here]
      exact ordered
    · rw [elsewhere.duty g here]
      exact fun failed => elsewhere.order g here (h.ordered g failed)

/-! ### States written at a group's amplifier and at a standby -/

section States
variable (r : Roster)

theorem dutyAmp_eq_iff {g k : Fin 10} : dutyAmp g = dutyAmp k ↔ g = k := ⟨dutyAmp_inj, congrArg dutyAmp⟩

theorem Roster.setDuty_duty (g k : Fin 10) (st : AmpState) :
    (r.setState (dutyAmp k) st).state (dutyAmp g) = if g = k then st else r.state (dutyAmp g) := by
  rw [Roster.setState_state]
  simp only [dutyAmp_eq_iff]

theorem Roster.setDuty_standby {j : Fin 12} (member : j ∈ standbys) (k : Fin 10) (st : AmpState) :
    (r.setState (dutyAmp k) st).state j = r.state j := by
  rw [Roster.setState_state, if_neg (ne_dutyAmp_of_standby member k)]

theorem Roster.setStandby_duty {i : Fin 12} (standby : i ∈ standbys) (g : Fin 10) (st : AmpState) :
    (r.setState i st).state (dutyAmp g) = r.state (dutyAmp g) := by
  rw [Roster.setState_state, if_neg (ne_dutyAmp_of_standby standby g).symm]

theorem Roster.move_state (g : Fin 10) (dst : Option (Fin 12)) : (r.move g dst).state = r.state := rfl

end States

section Events
variable {r : Roster} (h : r.Coherent) {k : Fin 10} {i : Fin 12}
include h

/-- The group of a RECOVERED amplifier goes back to it. -/
theorem Roster.Coherent.returned (standby : i ∈ standbys) (standing : r.state i = .standingIn k) :
    (r.returned k i).Coherent := by
  obtain ⟨-, -, stands, served⟩ := (h.role k).of_standing standby standing
  have duty (g : Fin 10) : (r.returned k i).state (dutyAmp g) = if g = k then .normal else r.state (dutyAmp g) := by
    rw [Roster.returned, Roster.setStandby_duty _ standby, Roster.setDuty_duty, Roster.move_state]
  have standbyState (j : Fin 12) (member : j ∈ standbys) : (r.returned k i).state j = if j = i then .idle else r.state j := by
    rw [Roster.returned_state, if_neg (ne_dutyAmp_of_standby member k)]
  refine h.change (k := k) ⟨fun g other => ?_, fun g other => ?_, fun j member g other => ?_, fun g _ => Iff.rfl,
    fun g _ => id⟩ (.own ?_ ?_ (fun j member => ?_) served) (fun j member => ?_) h.once h.order ?_
  · rw [duty, if_neg other]
  · rw [Roster.returned_server, if_neg other]
  · rw [standbyState j member]
    split
    · next same =>
      rw [same, standing]
      exact iff_of_false nofun fun eq => other (AmpState.standingIn.inj eq).symm
    · rfl
  · rw [duty, if_pos rfl]
  · rw [Roster.returned_server, if_pos rfl]
  · rw [standbyState j member]
    split
    · exact nofun
    · next other => exact fun stand => other ((stands j member).1 stand)
  · rw [standbyState j member]
    split
    · exact .inl rfl
    · exact h.standby j member
  · rw [duty, if_pos rfl]
    exact nofun

/-- A standby that stands in for none is IDLE or FAILED. -/
theorem Roster.Coherent.setSpare (standby : i ∈ standbys) (spare : ∀ g, r.state i ≠ .standingIn g) {st : AmpState}
    (working : st = .idle ∨ st = .failed) : (r.setState i st).Coherent := by
  have duty (g : Fin 10) := r.setStandby_duty standby g st
  have none (g : Fin 10) : st ≠ .standingIn g := by rcases working with rfl | rfl <;> exact nofun
  refine ⟨fun g => (h.role g).congr (duty g) rfl (fun j member => ?_) Iff.rfl, fun j member => ?_, h.once, h.order,
    fun g failed => h.ordered g ((duty g).symm.trans failed)⟩
  · rw [Roster.setState_state]
    split
    · next same => exact iff_of_false (none g) (same ▸ spare g)
    · rfl
  · rw [Roster.setState_state]
    split
    · exact working.imp_right .inl
    · exact h.standby j member

/-- An IDLE standby stands in for the head of the queue. -/
theorem Roster.Coherent.standIn {rest : List (Fin 10)} (standby : i ∈ standbys) (idle : r.state i = .idle)
    (queue : r.unserved = k :: rest) : (r.standIn i k rest).Coherent := by
  have once := h.once
  rw [queue] at once
  obtain ⟨fresh, once⟩ := List.nodup_cons.1 once
  obtain ⟨failed, -, alone⟩ := (h.role k).of_queued (queue ▸ List.mem_cons_self)
  have duty (g : Fin 10) : (r.standIn i k rest).state (dutyAmp g) = r.state (dutyAmp g) := by
    rw [Roster.standIn_state, if_neg (ne_dutyAmp_of_standby standby g).symm]
  refine h.change (k := k) ⟨fun g _ => duty g, fun g other => ?_, fun j member g other => ?_, fun g other => ?_,
    fun g _ => id⟩ (.covered i standby (.inr ((duty k).trans failed)) ?_ (fun j member => ?_) fresh) (fun j member => ?_)
    once h.order fun _ => h.ordered k failed
  · rw [Roster.standIn_server, if_neg other]
  · rw [Roster.standIn_state]
    split
    · next same =>
      rw [same, idle]
      exact iff_of_false (fun eq => other (AmpState.standingIn.inj eq).symm) nofun
    · rfl
  · rw [queue, List.mem_cons, or_iff_right other]
    rfl
  · rw [Roster.standIn_server, if_pos rfl]
  · rw [Roster.standIn_state]
    split
    · next same => exact iff_of_true rfl same
    · next other => exact iff_of_false (alone j member) other
  · rw [Roster.standIn_state]
    split
    · exact .inr (.inr ⟨k, rfl⟩)
    · exact h.standby j member

theorem Roster.Coherent.serveQueue (standby : i ∈ standbys) : (r.serveQueue i).Coherent := by
  rcases r.serveQueue_cases i with ⟨k, rest, idle, queue, eq⟩ | ⟨-, eq⟩
  · rw [eq]
    exact h.standIn standby idle queue
  · rwa [eq]

theorem Roster.Coherent.giveBack (standby : i ∈ standbys) (standing : r.state i = .standingIn k) :
    (r.giveBack k i).Coherent :=
  (h.returned standby standing).serveQueue standby

omit h in
theorem Roster.mem_queued {failOrder : List (Fin 10)} {g : Fin 10} :
    g ∈ failOrder.filter (fun j => j = k || r.unserved.contains j) ↔ g ∈ failOrder ∧ (g = k ∨ g ∈ r.unserved) := by
  rw [List.mem_filter, Bool.or_eq_true, decide_eq_true_eq, List.contains_iff_mem]

/-- A group joins the queue at the place its failure gives it (R129). -/
theorem Roster.Coherent.queueUp {r' : Roster} (away : ∀ g, g ≠ k → r'.state (dutyAmp g) = r.state (dutyAmp g))
    (server : ∀ g, r'.server g = if g = k then none else r.server g)
    (standing : ∀ i ∈ standbys, ∀ g, r'.state i = .standingIn g ↔ g ≠ k ∧ r.state i = .standingIn g)
    (standby : ∀ i ∈ standbys, r'.state i = .idle ∨ r'.state i = .failed ∨ ∃ k, r'.state i = .standingIn k)
    (failed : r'.state (dutyAmp k) = .failed) (order : r'.failOrder.Nodup)
    (ordered : ∀ g, g = k ∨ g ∈ r.failOrder → g ∈ r'.failOrder)
    (queue : r'.unserved = r'.failOrder.filter fun j => j = k || r.unserved.contains j) : r'.Coherent := by
  refine h.change (k := k) ⟨away, fun g other => (server g).trans (if_neg other),
    fun i member g other => (standing i member g).trans (and_iff_right other), fun g other => ?_,
    fun g _ listed => ordered g (.inr listed)⟩
    (.waiting failed ((server k).trans (if_pos rfl)) (fun i member stands => ((standing i member k).1 stands).1 rfl) ?_)
    standby ?_ order fun _ => ordered k (.inl rfl)
  · rw [queue, Roster.mem_queued, or_iff_right other]
    exact and_iff_right_of_imp fun queued => ordered g (.inr (h.ordered g ((h.role g).of_queued queued).1))
  · rw [queue, Roster.mem_queued]
    exact ⟨ordered k (.inl rfl), .inl rfl⟩
  · rw [queue]
    exact order.filter _

/-- An IDLE standby covers a group whose amplifier is away. -/
theorem Roster.Coherent.cover {r' : Roster} (standby : i ∈ standbys) (idle : r.state i = .idle) (served : k ∉ r.unserved)
    (away : ∀ g, g ≠ k → r'.state (dutyAmp g) = r.state (dutyAmp g))
    (server : ∀ g, r'.server g = if g = k then some i else r.server g)
    (stands : r'.state i = .standingIn k)
    (standing : ∀ j ∈ standbys, j ≠ i → ∀ g, r'.state j = .standingIn g ↔ g ≠ k ∧ r.state j = .standingIn g)
    (others : ∀ i ∈ standbys, r'.state i = .idle ∨ r'.state i = .failed ∨ ∃ k, r'.state i = .standingIn k)
    (failed : r'.state (dutyAmp k) = .failed) (order : r'.failOrder.Nodup)
    (ordered : ∀ g, g = k ∨ g ∈ r.failOrder → g ∈ r'.failOrder) (queue : r'.unserved = r.unserved) : r'.Coherent := by
  refine h.change (k := k) ⟨away, fun g other => (server g).trans (if_neg other), fun j member g other => ?_,
    fun g _ => by rw [queue], fun g _ listed => ordered g (.inr listed)⟩
    (.covered i standby (.inr failed) ((server k).trans (if_pos rfl)) (fun j member => ?_) (queue ▸ served))
    others (queue ▸ h.once) order fun _ => ordered k (.inl rfl)
  · by_cases same : j = i
    · rw [same, stands, idle]
      exact iff_of_false (fun eq => other (AmpState.standingIn.inj eq).symm) nofun
    · exact (standing j member same g).trans (and_iff_right other)
  · by_cases same : j = i
    · exact iff_of_true (same ▸ stands) same
    · exact iff_of_false (fun stand => ((standing j member same k).1 stand).1 rfl) same

end Events

end Sys2Proof.Machine
end

section
/-! SUPPORT. The agreement of the amplifier records (R123 to R130) through a change of a debounced fault. -/

namespace Sys2Proof.Machine

open Sys2Proof Function

/-- The queue waits only while no standby is IDLE (R129). -/
def Roster.Waits (r : Roster) : Prop :=
  r.unserved ≠ [] → ∀ i ∈ standbys, r.state i ≠ .idle

section Waits
variable {r : Roster} {k : Fin 10} {i : Fin 12}

/-- The queue is empty while a standby is IDLE. -/
theorem Roster.Waits.empty (h : r.Waits) (standby : i ∈ standbys) (idle : r.state i = .idle) : r.unserved = [] := by
  by_contra waits
  exact h waits i standby idle

/-- A standby that serves the queue is IDLE only where the queue is empty. -/
theorem Roster.serveQueue_waits (standby : i ∈ standbys) (idle : r.state i = .idle)
    (other : r.unserved ≠ [] → r.state (otherStandby i) ≠ .idle) : (r.serveQueue i).Waits := by
  rcases r.serveQueue_cases i with ⟨k, rest, -, queue, eq⟩ | ⟨empty, eq⟩
  · rw [eq]
    intro _ j member
    rw [Roster.standIn_state]
    split
    · exact nofun
    · next apart =>
      rw [(eq_or_eq_other standby member).resolve_left apart]
      exact other (by rw [queue]; exact List.cons_ne_nil k rest)
  · rw [eq]
    exact fun waits => absurd (empty.resolve_right (absurd idle)) waits

theorem Roster.Waits.giveBack (h : r.Waits) (standby : i ∈ standbys) : (r.giveBack k i).Waits := by
  have state (j : Fin 12) (member : j ∈ standbys) : (r.returned k i).state j = if j = i then .idle else r.state j := by
    rw [Roster.returned_state, if_neg (ne_dutyAmp_of_standby member k)]
  refine Roster.serveQueue_waits standby ((state i standby).trans (if_pos rfl)) fun waits => ?_
  rw [state _ (otherStandby_mem i), if_neg (otherStandby_ne standby)]
  exact h waits _ (otherStandby_mem i)

end Waits

/-! ### Duty amplifiers (R126, R127) -/

section Failed
variable {r : Roster} (k : Fin 10) (now : Tick)

theorem Roster.markFailed_failOrder : (r.markFailed k now).failOrder = (r.failOrder.filter fun j => j ≠ k) ++ [k] := rfl

theorem Roster.mem_markFailed {g : Fin 10} (listed : g = k ∨ g ∈ r.failOrder) : g ∈ (r.markFailed k now).failOrder := by
  rw [Roster.markFailed_failOrder, List.mem_append, List.mem_filter, List.mem_singleton]
  by_cases same : g = k
  · exact .inr same
  · exact .inl ⟨listed.resolve_left same, decide_eq_true same⟩

theorem Roster.markFailed_nodup (once : r.failOrder.Nodup) : (r.markFailed k now).failOrder.Nodup := by
  rw [Roster.markFailed_failOrder, List.nodup_append]
  refine ⟨once.filter _, List.nodup_singleton k, fun g listed j last => ?_⟩
  rw [List.mem_singleton.1 last]
  exact of_decide_eq_true (List.mem_filter.1 listed).2

theorem Roster.markFailed_duty (g : Fin 10) :
    (r.markFailed k now).state (dutyAmp g) = if g = k then .failed else r.state (dutyAmp g) := by
  rw [Roster.markFailed_state]
  simp only [dutyAmp_eq_iff]

theorem Roster.markFailed_standby {i : Fin 12} (standby : i ∈ standbys) : (r.markFailed k now).state i = r.state i := by
  rw [Roster.markFailed_state, if_neg (ne_dutyAmp_of_standby standby k)]

end Failed

/-- The roster `r'` agrees with itself, and just the amplifiers of `fails` are FAILED. -/
structure Roster.Left (r' : Roster) (fails : Fin 12 → Prop) : Prop where
  coherent : r'.Coherent
  waits : r'.Waits
  failed : ∀ j, r'.state j = .failed ↔ fails j

section Duty
variable {v : View} {d : Desk} (h : d.audio.roster.Coherent) (waits : d.audio.roster.Waits) {k : Fin 10} {i : Fin 12}
include h waits

theorem Desk.dutyFault_left (working : d.audio.roster.state (dutyAmp k) ≠ .failed) :
    (d.dutyFault v k).audio.roster.Left fun j => d.audio.roster.state j = .failed ∨ j = dutyAmp k := by
  have fails (j : Fin 12) : (d.audio.roster.markFailed k v.now).state j = .failed ↔
      d.audio.roster.state j = .failed ∨ j = dutyAmp k := by
    rw [Roster.markFailed_state]
    split
    · next same => exact iff_of_true rfl (.inr same)
    · next other => exact (or_iff_left other).symm
  have order := d.audio.roster.markFailed_nodup k v.now h.order
  rcases (h.role k).duty with normal | recovered | failed
  · obtain ⟨-, alone, served⟩ := (h.role k).of_normal normal
    have apart (j : Fin 12) (member : j ∈ standbys) (g : Fin 10) :
        d.audio.roster.state j = .standingIn g ↔ g ≠ k ∧ d.audio.roster.state j = .standingIn g :=
      (and_iff_right_of_imp fun stands (same : g = k) => alone j member (same ▸ stands)).symm
    cases idle : (d.audio.markFailed v k).idleStandby with
    | some i =>
      obtain ⟨standby, idle'⟩ := Audio.idleStandby_some idle
      rw [d.audio.markFailed_state v k standby] at idle'
      rw [Desk.dutyFault_covers_roster normal idle]
      have state (j : Fin 12) (other : j ≠ i) : (((d.audio.roster.markFailed k v.now).setState i (.standingIn k)).move k
          (some i)).state j = (d.audio.roster.markFailed k v.now).state j := by
        rw [Roster.move_state, Roster.setState_state, if_neg other]
      have stands : (((d.audio.roster.markFailed k v.now).setState i (.standingIn k)).move k (some i)).state i =
          .standingIn k := update_self ..
      refine ⟨h.cover standby idle' served (fun g other => ?_) (fun g => Roster.move_server _ k g _) stands
        (fun j member other g => ?_) (fun j member => ?_) ?_ order (fun g => Roster.mem_markFailed k v.now) rfl,
        fun queue => absurd (waits.empty standby idle') queue, fun j => ?_⟩
      · rw [state _ (ne_dutyAmp_of_standby standby g).symm, Roster.markFailed_duty, if_neg other]
      · rw [state j other, Roster.markFailed_standby k v.now member]
        exact apart j member g
      · by_cases same : j = i
        · exact .inr (.inr ⟨k, same ▸ stands⟩)
        · rw [state j same, Roster.markFailed_standby k v.now member]
          exact h.standby j member
      · rw [state _ (ne_dutyAmp_of_standby standby k).symm, Roster.markFailed_duty, if_pos rfl]
      · by_cases same : j = i
        · rw [same, stands]
          refine iff_of_false nofun (not_or.2 ⟨?_, ne_dutyAmp_of_standby standby k⟩)
          rw [Audio.roster_state, idle']
          exact nofun
        · rw [state j same]
          exact fails j
    | none =>
      have busy : ∀ i ∈ standbys, d.audio.roster.state i ≠ .idle := fun i standby => by
        have := Audio.idleStandby_none.1 idle i standby
        rwa [d.audio.markFailed_state v k standby] at this
      rw [Desk.dutyFault_waits_roster normal idle]
      refine ⟨h.queueUp (k := k) (fun g other => (Roster.markFailed_duty k v.now g).trans (if_neg other))
        (fun g => Roster.move_server _ k g _) (fun j member g => ?_) (fun j member => ?_)
        ((Roster.markFailed_duty k v.now k).trans (if_pos rfl)) order (fun g => Roster.mem_markFailed k v.now) rfl,
        fun _ j member => ?_, fails⟩
      · exact (by rw [Roster.markFailed_standby k v.now member] :
          (d.audio.roster.markFailed k v.now).state j = .standingIn g ↔ _).trans (apart j member g)
      · exact (Roster.markFailed_standby k v.now member).symm ▸ h.standby j member
      · exact (Roster.markFailed_standby k v.now member).symm ▸ busy j member
  · rw [Desk.dutyFault_recovered_roster recovered]
    obtain ⟨i, standby, server, standing⟩ := (h.role k).of_recovered recovered
    obtain ⟨-, -, stands, served⟩ := (h.role k).of_standing standby standing
    have standbys_ {j : Fin 12} (member : j ∈ standbys) := d.audio.roster.markFailed_standby k v.now member
    have own : (d.audio.roster.markFailed k v.now).state (dutyAmp k) = .failed :=
      (Roster.markFailed_duty k v.now k).trans (if_pos rfl)
    refine ⟨h.change (k := k) ⟨fun g other => (Roster.markFailed_duty k v.now g).trans (if_neg other), fun _ _ => rfl,
        fun j member g _ => by rw [standbys_ member], fun _ _ => Iff.rfl,
        fun g _ listed => Roster.mem_markFailed k v.now (.inr listed)⟩
      (.covered i standby (.inr own) server (fun j member => by rw [standbys_ member]; exact stands j member) served)
      (fun j member => by rw [standbys_ member]; exact h.standby j member) h.once order
      fun _ => Roster.mem_markFailed k v.now (.inl rfl), fun queue j member => ?_, fails⟩
    rw [standbys_ member]
    exact waits queue j member
  · exact absurd failed working

omit h waits in
/-- The roster after an amplifier without a server has its group again. -/
theorem Desk.dutyClear_waiting_roster (failed : d.audio.amps[dutyAmp k].state = .failed) (waiting : d.audio.serverOf k = none) :
    (d.dutyClear v k).audio.roster = ({ d.audio.roster.setState (dutyAmp k) .normal with
      unserved := d.audio.unserved.filter fun j => j ≠ k } : Roster).move k (some (dutyAmp k)) := by
  have left (a : Audio) : (a.leaveQueue k).roster = { a.roster with unserved := a.unserved.filter fun j => j ≠ k } := rfl
  rw [Desk.dutyClear_waiting failed waiting]
  dsimp only [Desk.ampFault, Desk.mapAudio]
  rw [Audio.moveGroup_roster, left, Audio.setAmpState_roster]
  rfl

theorem Desk.dutyClear_left (failed : d.audio.roster.state (dutyAmp k) = .failed) :
    (d.dutyClear v k).audio.roster.Left fun j => d.audio.roster.state j = .failed ∧ j ≠ dutyAmp k := by
  have fails {st : AmpState} (working : st ≠ .failed) (j : Fin 12) :
      (d.audio.roster.setState (dutyAmp k) st).state j = .failed ↔ d.audio.roster.state j = .failed ∧ j ≠ dutyAmp k := by
    rw [Roster.setState_state]
    split
    · next same => exact iff_of_false working fun fails => fails.2 same
    · next other => exact (and_iff_left other).symm
  have standbys_ {st : AmpState} {j : Fin 12} (member : j ∈ standbys) := d.audio.roster.setDuty_standby member k st
  have duty (g : Fin 10) (st : AmpState) := d.audio.roster.setDuty_duty g k st
  rcases (h.role k).of_failed failed with ⟨i, standby, server, standing⟩ | ⟨server, queued⟩
  · obtain ⟨-, -, stands, served⟩ := (h.role k).of_standing standby standing
    have roster : (d.dutyClear v k).audio.roster = d.audio.roster.setState (dutyAmp k) .recovered := by
      rw [(Desk.dutyClear_recovers (v := v) failed server).1, Audio.setAmpState_roster]
    rw [roster]
    refine ⟨h.change (k := k) ⟨fun g other => (duty g _).trans (if_neg other), fun _ _ => rfl,
        fun j member g _ => by rw [standbys_ member], fun _ _ => Iff.rfl, fun _ _ => id⟩
      (.covered i standby (.inl ((duty k _).trans (if_pos rfl))) server
        (fun j member => by rw [standbys_ member]; exact stands j member) served)
      (fun j member => by rw [standbys_ member]; exact h.standby j member) h.once h.order
      fun _ => h.ordered k failed, fun queue j member => ?_, fails nofun⟩
    rw [standbys_ member]
    exact waits queue j member
  · obtain ⟨-, -, alone⟩ := (h.role k).of_queued queued
    have roster := Desk.dutyClear_waiting_roster (v := v) failed server
    rw [roster]
    refine ⟨h.change (k := k) ⟨fun g other => (duty g _).trans (if_neg other),
        fun g other => (Roster.move_server _ k g _).trans (if_neg other),
        fun j member g _ => ?_, fun g other => ?_, fun _ _ => id⟩
      (.own ((duty k _).trans (if_pos rfl)) ((Roster.move_server _ k k _).trans (if_pos rfl)) (fun j member => ?_) ?_)
      (fun j member => ?_) (h.once.filter _) h.order fun _ => h.ordered k failed, fun queue j member => ?_, fails nofun⟩
    · exact iff_of_eq (congrArg (· = AmpState.standingIn g) (standbys_ member))
    · exact List.mem_filter.trans (and_iff_left (decide_eq_true other))
    · exact (standbys_ (st := .normal) member).symm ▸ alone j member
    · exact fun listed => of_decide_eq_true (List.mem_filter.1 listed).2 rfl
    · exact (standbys_ (st := .normal) member).symm ▸ h.standby j member
    · refine (standbys_ (st := .normal) member).symm ▸ waits (fun empty => queue ?_) j member
      exact (congrArg (List.filter _) empty).trans rfl

end Duty

end Sys2Proof.Machine
end

section
/-! SUPPORT. The agreement of the amplifier records (R123 to R130) through the fault of a standby, and through the returns. -/

namespace Sys2Proof.Machine

open Sys2Proof Function

section Standby
variable {v : View} {d : Desk} (h : d.audio.roster.Coherent) (waits : d.audio.roster.Waits) {k : Fin 10} {i : Fin 12}

/-- A failed standby gives a group back as an IDLE one would, and is FAILED. -/
theorem Roster.failed_returned (r : Roster) (standby : i ∈ standbys) :
    ((r.setState i .failed).move k (some (dutyAmp k))).setState (dutyAmp k) .normal =
      (r.returned k i).setState i .failed := by
  refine Roster.ext ?_ rfl rfl rfl rfl rfl
  show update (update r.state i .failed) (dutyAmp k) .normal =
    update (update (update r.state (dutyAmp k) .normal) i .idle) i .failed
  rw [update_idem, update_comm (ne_dutyAmp_of_standby standby k)]

include h waits

theorem Desk.standbyFault_left (standby : i ∈ standbys) (working : d.audio.roster.state i ≠ .failed) :
    (d.standbyFault v i).audio.roster.Left fun j => d.audio.roster.state j = .failed ∨ j = i := by
  have fails (j : Fin 12) : (d.audio.roster.setState i .failed).state j = .failed ↔
      d.audio.roster.state j = .failed ∨ j = i := by
    rw [Roster.setState_state]
    split
    · next same => exact iff_of_true rfl (.inr same)
    · next other => exact (or_iff_left other).symm
  have own : (d.audio.roster.setState i .failed).state i = .failed := update_self ..
  have state {j : Fin 12} (other : j ≠ i) : (d.audio.roster.setState i .failed).state j = d.audio.roster.state j :=
    (Roster.setState_state _ i j _).trans (if_neg other)
  have states (j : Fin 12) (member : j ∈ standbys) : (d.audio.roster.setState i .failed).state j = .idle ∨
      (d.audio.roster.setState i .failed).state j = .failed ∨
        ∃ k, (d.audio.roster.setState i .failed).state j = .standingIn k := by
    by_cases same : j = i
    · exact .inr (.inl (same ▸ own))
    · rw [state same]
      exact h.standby j member
  rcases h.standby i standby with idle | failed | ⟨k, standing⟩
  · have roster : (d.standbyFault v i).audio.roster = d.audio.roster.setState i .failed := by
      rw [Desk.standbyFault_idle idle]
      exact d.audio.setAmpState_roster i .failed
    rw [roster]
    exact ⟨h.setSpare standby (fun g => by rw [idle]; exact nofun) (.inr rfl),
      fun queue => absurd (waits.empty standby idle) queue, fails⟩
  · exact absurd failed working
  · obtain ⟨away, server, stands, served⟩ := (h.role k).of_standing standby standing
    have duty (g : Fin 10) := d.audio.roster.setStandby_duty standby g .failed
    have gone (j : Fin 12) (member : j ∈ standbys) (g : Fin 10) : (d.audio.roster.setState i .failed).state j =
        .standingIn g ↔ g ≠ k ∧ d.audio.roster.state j = .standingIn g := by
      by_cases same : j = i
      · rw [same, own, standing]
        exact iff_of_false nofun fun there => there.1 (AmpState.standingIn.inj there.2).symm
      · rw [state same]
        exact (and_iff_right_of_imp fun there (here : g = k) => same ((stands j member).1 (here ▸ there))).symm
    by_cases recovered : d.audio.roster.state (dutyAmp k) = .recovered
    · rw [Desk.standbyFault_returns_roster standby standing recovered, Roster.failed_returned _ standby]
      have idle : (d.audio.roster.returned k i).state i = .idle := update_self ..
      have returned {j : Fin 12} (other : j ≠ i) := (d.audio.roster.returned_state k i j).trans (if_neg other)
      refine ⟨(h.returned standby standing).setSpare standby (fun g => by rw [idle]; exact nofun) (.inr rfl),
        fun queue j member => ?_, fun j => ?_⟩
      · rw [Roster.setState_state]
        split
        · exact nofun
        · next other =>
          rw [returned other, if_neg (ne_dutyAmp_of_standby member k)]
          exact waits queue j member
      · rw [Roster.setState_state]
        split
        · next same => exact iff_of_true rfl (.inr same)
        · next other =>
          rw [returned other, or_iff_left other]
          split
          · next same =>
            rw [same, recovered]
            exact iff_of_false nofun nofun
          · rfl
    · have failed := away.resolve_left recovered
      by_cases idle : d.audio.roster.state (otherStandby i) = .idle
      · rw [Desk.standbyFault_moves_roster standby standing recovered idle]
        have member := otherStandby_mem i
        have apart := otherStandby_ne standby
        have moved (j : Fin 12) (other : j ≠ otherStandby i) :
            (((d.audio.roster.setState i .failed).setState (otherStandby i) (.standingIn k)).move k
              (some (otherStandby i))).state j = (d.audio.roster.setState i .failed).state j := by
          rw [Roster.move_state, Roster.setState_state, if_neg other]
        have covers : (((d.audio.roster.setState i .failed).setState (otherStandby i) (.standingIn k)).move k
            (some (otherStandby i))).state (otherStandby i) = .standingIn k := update_self ..
        have dutyApart (g : Fin 10) := (ne_dutyAmp_of_standby member g).symm
        refine ⟨h.cover member idle served (fun g _ => (moved _ (dutyApart g)).trans (duty g))
          (fun g => Roster.move_server _ k g _) covers (fun j listed other g => ?_) (fun j listed => ?_)
          (((moved _ (dutyApart k)).trans (duty k)).trans failed) h.order (fun g listed => ?_) rfl,
          fun queue => absurd (waits.empty member idle) queue, fun j => ?_⟩
        · rw [moved j other]
          exact gone j listed g
        · by_cases same : j = otherStandby i
          · exact .inr (.inr ⟨k, same ▸ covers⟩)
          · rw [moved j same]
            exact states j listed
        · exact listed.elim (fun same => same ▸ h.ordered k failed) id
        · by_cases same : j = otherStandby i
          · rw [same, covers, idle]
            exact iff_of_false nofun (not_or.2 ⟨nofun, apart⟩)
          · rw [moved j same]
            exact fails j
      · rw [Desk.standbyFault_waits_roster standby standing recovered idle]
        refine ⟨h.queueUp (fun g _ => duty g) (fun g => Roster.move_server _ k g _) gone states
          ((duty k).trans failed) h.order (fun g listed => listed.elim (fun same => same ▸ h.ordered k failed) id) rfl,
          fun _ j member => ?_, fails⟩
        show (d.audio.roster.setState i .failed).state j ≠ .idle
        rcases eq_or_eq_other standby member with same | same
        · rw [same, own]
          exact nofun
        · rw [same, state (otherStandby_ne standby)]
          exact idle

theorem Desk.standbyClear_left (standby : i ∈ standbys) (failed : d.audio.roster.state i = .failed) :
    (d.standbyClear v i).audio.roster.Left fun j => d.audio.roster.state j = .failed ∧ j ≠ i := by
  rw [(Desk.standbyClear_roster failed).1]
  have idle : (d.audio.roster.setState i .idle).state i = .idle := update_self ..
  have cleared := h.setSpare standby (fun g => by rw [failed]; exact nofun) (.inl rfl : AmpState.idle = .idle ∨ _)
  refine ⟨cleared.serveQueue standby, Roster.serveQueue_waits standby idle fun queue => ?_, fun j => ?_⟩
  · rw [Roster.setState_state, if_neg (otherStandby_ne standby)]
    exact waits queue _ (otherStandby_mem i)
  · have served : ((d.audio.roster.setState i .idle).serveQueue i).state j = .failed ↔
        (d.audio.roster.setState i .idle).state j = .failed := by
      rcases (d.audio.roster.setState i .idle).serveQueue_cases i with ⟨k, rest, -, -, eq⟩ | ⟨-, eq⟩
      · rw [eq, Roster.standIn_state]
        split
        · next same =>
          rw [same, idle]
          exact iff_of_false nofun nofun
        · rfl
      · rw [eq]
    rw [served, Roster.setState_state]
    split
    · next same => exact iff_of_false nofun fun fails => fails.2 same
    · next other => exact (and_iff_left other).symm

end Standby

/-! ### Agreement -/

/-- The amplifier records agree with one another, the feeds apart. -/
structure Roster.Agrees (r : Roster) : Prop where
  coherent : r.Coherent
  waits : r.Waits
  faults : ∀ i, r.fault i = true ↔ r.state i = .failed

section Agrees
variable {r : Roster} (h : r.Agrees) {k : Fin 10} {i : Fin 12}
include h

theorem Roster.Agrees.giveBack (standby : i ∈ standbys) (standing : r.state i = .standingIn k)
    (recovered : r.state (dutyAmp k) = .recovered) : (r.giveBack k i).Agrees := by
  refine ⟨h.coherent.giveBack standby standing, h.waits.giveBack standby, fun j => ?_⟩
  rw [Roster.giveBack_fault, h.faults]
  by_cases same : j = i
  · rw [same, standing]
    refine iff_of_false nofun ?_
    cases head : r.unserved.head? with
    | none => rw [(Roster.giveBack_own r).1 head]; exact nofun
    | some g => rw [((Roster.giveBack_own r).2 g head).1]; exact nofun
  · rw [r.giveBack_state same]
    split
    · next own =>
      rw [own, recovered]
      exact iff_of_false nofun nofun
    · rfl

end Agrees

theorem Roster.Coherent.noteFault {r : Roster} (h : r.Coherent) (i : Fin 12) : (r.noteFault i).Coherent :=
  ⟨fun k => (h.role k).congr rfl rfl (fun _ _ => Iff.rfl) Iff.rfl, h.standby, h.once, h.order, h.ordered⟩

/-- A change of a debounced fault leaves the records in agreement (R124, R126 to R129). -/
theorem Desk.faultChange_agrees {v : View} {d : Desk} (i : Fin 12) (h : d.audio.roster.Agrees) :
    (d.faultChange v i).audio.roster.Agrees := by
  have noted := d.noteFault_roster i
  have coherent : (d.noteFault i).audio.roster.Coherent := noted ▸ h.coherent.noteFault i
  have waits : (d.noteFault i).audio.roster.Waits := noted ▸ h.waits
  have state (j : Fin 12) : (d.noteFault i).audio.roster.state j = d.audio.roster.state j := by rw [noted]; rfl
  have fault (j : Fin 12) : (d.faultChange v i).audio.roster.fault j =
      if j = i then !d.audio.roster.fault i else d.audio.roster.fault j := by
    refine ((d.faultChange_switch v i).faults j).trans ?_
    have changed := congrFun (congrArg Roster.fault noted) j
    exact changed.trans (update_apply ..)
  have appears (quiet : d.audio.roster.fault i = false)
      (left : (d.faultChange v i).audio.roster.Left fun j => (d.noteFault i).audio.roster.state j = .failed ∨ j = i) :
      (d.faultChange v i).audio.roster.Agrees := by
    refine ⟨left.coherent, left.waits, fun j => ?_⟩
    rw [fault, left.failed, state]
    split
    · next same => exact iff_of_true (by rw [quiet]; rfl) (.inr same)
    · next other => rw [or_iff_left other, h.faults]
  have gone (faulty : d.audio.roster.fault i = true)
      (left : (d.faultChange v i).audio.roster.Left fun j => (d.noteFault i).audio.roster.state j = .failed ∧ j ≠ i) :
      (d.faultChange v i).audio.roster.Agrees := by
    refine ⟨left.coherent, left.waits, fun j => ?_⟩
    rw [fault, left.failed, state]
    split
    · next same => exact iff_of_false (by rw [faulty]; exact nofun) fun fails => fails.2 same
    · next other => rw [and_iff_left other, h.faults]
  rcases duty_or_standby i with ⟨k, rfl⟩ | standby
  · cases before : d.audio.roster.fault (dutyAmp k) with
    | false =>
      refine appears before ?_
      rw [Desk.faultChange_dutyFault before]
      refine Desk.dutyFault_left coherent waits fun failed => ?_
      rw [state, ← h.faults, before] at failed
      cases failed
    | true =>
      refine gone before ?_
      rw [Desk.faultChange_dutyClear before]
      exact Desk.dutyClear_left coherent waits ((state _).trans ((h.faults _).1 before))
  · cases before : d.audio.roster.fault i with
    | false =>
      refine appears before ?_
      rw [Desk.faultChange_standbyFault standby before]
      refine Desk.standbyFault_left coherent waits standby fun failed => ?_
      rw [state, ← h.faults, before] at failed
      cases failed
    | true =>
      refine gone before ?_
      rw [Desk.faultChange_standbyClear standby before]
      exact Desk.standbyClear_left coherent waits standby ((state _).trans ((h.faults _).1 before))

end Sys2Proof.Machine
end

section
/-! SUPPORT. What the amplifiers carry, through the events of the unit: a property that every move of a group keeps, and that
the returns and the end of an event keep with it (R119, R125, R130). -/

namespace Sys2Proof.Machine

open Sys2Proof Function

/-! ### Moves of groups -/

/-- No other group is served by the server a group leaves, or by the one it moves to. -/
def Movable (server : Fin 10 → Option (Fin 12)) (g : Fin 10) (dst : Option (Fin 12)) : Prop :=
  ∀ h, h ≠ g → ∀ i, server h = some i → server g ≠ some i ∧ dst ≠ some i

section Movable
variable {r : Roster} (h : r.Coherent) {k : Fin 10} {i : Fin 12}
include h

theorem Roster.Coherent.movable_none : Movable r.server k none := fun _ other _ serves =>
  ⟨fun served => other (h.apart served serves), nofun⟩

theorem Roster.Coherent.movable_own : Movable r.server k (some (dutyAmp k)) := fun g other i serves =>
  ⟨fun served => other (h.apart served serves), fun same => by
    cases same
    rcases (h.role g).of_server serves with own | ⟨standby, -⟩
    · exact other (dutyAmp_inj own).symm
    · exact dutyAmp_not_standby k standby⟩

theorem Roster.Coherent.movable_spare (standby : i ∈ standbys) (spare : ∀ g, r.state i ≠ .standingIn g) :
    Movable r.server k (some i) := fun g other j serves =>
  ⟨fun served => other (h.apart served serves), fun same => by
    cases same
    rcases (h.role g).of_server serves with own | ⟨-, standing⟩
    · exact ne_dutyAmp_of_standby standby g own
    · exact spare g standing⟩

end Movable

/-- A property of what the amplifiers carry that the moves of groups and the taking of pending targets keep. -/
structure MoveInvariant (v : View) (Q : Audio → Prop) : Prop where
  same : ∀ {a b : Audio}, b.serverOf = a.serverOf → (∀ i : Fin 12, b.amps[i].carries = a.amps[i].carries) → Q a → Q b
  feeds : ∀ {a b : Audio}, a.FeedStep b → Q a → Q b
  move : ∀ {a : Audio} {g : Fin 10} {dst : Option (Fin 12)}, Movable a.serverOf g dst → Q a → Q (a.moveGroup v g dst)

theorem Audio.servers_of_roster {a b : Audio} (roster : b.roster = a.roster) : b.serverOf = a.serverOf :=
  congrArg Roster.server roster

theorem Audio.setAmpState_servers (a : Audio) (i : Fin 12) (st : AmpState) : (a.setAmpState i st).serverOf = a.serverOf :=
  congrArg Roster.server (a.setAmpState_roster i st)

theorem Audio.markFailed_servers (a : Audio) (v : View) (k : Fin 10) : (a.markFailed v k).serverOf = a.serverOf :=
  congrArg Roster.server (a.markFailed_roster v k)

theorem Audio.markFailed_carries (a : Audio) (v : View) (k : Fin 10) (j : Fin 12) :
    (a.markFailed v k).amps[j].carries = a.amps[j].carries := by
  show (a.setAmp (dutyAmp k) _).amps[j].carries = _
  rw [Audio.setAmp_amps]
  split
  · next same => rw [← same]; rfl
  · rfl

section Moves
variable {v : View} {Q : Audio → Prop} (inv : MoveInvariant v Q) {a : Audio} {k : Fin 10} {i : Fin 12}
include inv

theorem MoveInvariant.setAmpState (h : Q a) (i : Fin 12) (st : AmpState) : Q (a.setAmpState i st) :=
  inv.same (a.setAmpState_servers i st) (fun j => a.setAmpState_carries i j st) h

theorem MoveInvariant.markFailed (h : Q a) : Q (a.markFailed v k) :=
  inv.same (a.markFailed_servers v k) (a.markFailed_carries v k) h

theorem MoveInvariant.unserved (h : Q a) (l : List (Fin 10)) : Q { a with unserved := l } :=
  inv.same (a := a) (b := { a with unserved := l }) rfl (fun _ => rfl) h

theorem MoveInvariant.serveQueue (agrees : a.roster.Coherent) (standby : i ∈ standbys) (h : Q a) : Q (a.serveQueue v i) := by
  unfold Audio.serveQueue
  split
  · next k rest idle queue =>
    refine inv.move ?_ (inv.setAmpState (inv.unserved h rest) i _)
    have servers : (({ a with unserved := rest } : Audio).setAmpState i (.standingIn k)).serverOf = a.serverOf :=
      ({ a with unserved := rest } : Audio).setAmpState_servers i _
    rw [servers]
    exact agrees.movable_spare standby fun g => by rw [Audio.roster_state, idle]; exact nofun
  · exact h

omit inv in
theorem Audio.returned_roster (a : Audio) (v : View) (k : Fin 10) (i : Fin 12) :
    (((a.moveGroup v k (some (dutyAmp k))).setAmpState (dutyAmp k) .normal).setAmpState i .idle).roster =
      a.roster.returned k i := by
  rw [Audio.setAmpState_roster, Audio.setAmpState_roster, Audio.moveGroup_roster, Roster.returned]

theorem MoveInvariant.giveBack (agrees : a.roster.Coherent) (standby : i ∈ standbys)
    (standing : a.roster.state i = .standingIn k) (h : Q a) : Q (a.giveBack v k i) := by
  have moved : Q (a.moveGroup v k (some (dutyAmp k))) := inv.move agrees.movable_own h
  refine inv.serveQueue ?_ standby (inv.setAmpState (inv.setAmpState moved _ _) _ _)
  rw [Audio.returned_roster]
  exact agrees.returned standby standing

section Desk
variable {d : Desk} (coherent : d.audio.roster.Coherent) (h : Q d.audio)
include coherent h

theorem MoveInvariant.dutyFault : Q (d.dutyFault v k).audio := by
  have failed : Q (d.audio.markFailed v k) := inv.markFailed h
  have servers := d.audio.markFailed_servers v k
  unfold Desk.dutyFault
  split
  · dsimp only
    split
    · next i found =>
      obtain ⟨standby, idle⟩ := Audio.idleStandby_some found
      rw [d.audio.markFailed_state v k standby] at idle
      refine inv.move ?_ (inv.setAmpState failed i _)
      rw [Audio.setAmpState_servers, servers]
      exact coherent.movable_spare standby fun g => by rw [Audio.roster_state, idle]; exact nofun
    · refine inv.unserved (inv.move ?_ failed) _
      rw [servers]
      exact coherent.movable_none
  · exact failed
  · exact h

theorem MoveInvariant.dutyClear : Q (d.dutyClear v k).audio := by
  unfold Desk.dutyClear
  split
  · exact inv.setAmpState h _ _
  · refine inv.move ?_ (inv.unserved (inv.setAmpState h (dutyAmp k) .normal) _)
    show Movable (d.audio.setAmpState (dutyAmp k) .normal).serverOf k _
    rw [Audio.setAmpState_servers]
    exact coherent.movable_own
  · exact h

theorem MoveInvariant.standbyFault (standby : i ∈ standbys) : Q (d.standbyFault v i).audio := by
  have failed : Q (d.audio.setAmpState i .failed) := inv.setAmpState h i _
  have servers := d.audio.setAmpState_servers i .failed
  unfold Desk.standbyFault
  dsimp only
  split
  · exact failed
  · next k standing =>
    split
    · refine inv.setAmpState (inv.move ?_ failed) _ _
      rw [servers]
      exact coherent.movable_own
    · split
      · next idle =>
        rw [Audio.failed_state _ (otherStandby_ne standby)] at idle
        refine inv.move ?_ (inv.setAmpState failed _ _)
        rw [Audio.setAmpState_servers, servers]
        exact coherent.movable_spare (otherStandby_mem i) fun g => by rw [Audio.roster_state, idle]; exact nofun
      · refine inv.unserved (inv.move ?_ failed) _
        rw [servers]
        exact coherent.movable_none
  · exact h

theorem MoveInvariant.standbyClear (standby : i ∈ standbys) : Q (d.standbyClear v i).audio := by
  unfold Desk.standbyClear
  split
  · next failed =>
    have roster := d.audio.setAmpState_roster i .idle
    refine inv.serveQueue ?_ standby (inv.setAmpState h i .idle)
    rw [roster]
    exact coherent.setSpare standby (fun g => by rw [Audio.roster_state, failed]; exact nofun) (.inl rfl)
  · exact h

end Desk

theorem MoveInvariant.faultChange {d : Desk} (i : Fin 12) (agrees : d.audio.roster.Coherent) (h : Q d.audio) :
    Q (d.faultChange v i).audio := by
  have noted := d.noteFault_roster i
  have coherent : (d.noteFault i).audio.roster.Coherent := noted ▸ agrees.noteFault i
  have h : Q (d.noteFault i).audio := inv.same (congrArg Roster.server noted) (d.noteFault_carries i) h
  rw [Desk.faultChange_eq]
  generalize d.noteFault i = e at coherent h
  split
  · next k index _ => exact inv.dutyFault coherent h
  · next k index _ => exact inv.dutyClear coherent h
  · next index _ => exact inv.standbyFault coherent h (standby_of_index? index)
  · next index _ => exact inv.standbyClear coherent h (standby_of_index? index)

end Moves

end Sys2Proof.Machine
end

section
/-! SUPPORT. The agreement of the amplifier records is an invariant of the audio side's events (R123 to R130). -/

namespace Sys2Proof.Machine

open Sys2Proof Function

/-! ### Amplifiers that serve no group -/

/-- An amplifier that serves no group carries nothing. -/
def Audio.Spare (a : Audio) : Prop :=
  ∀ i : Fin 12, (∀ g, a.serverOf g ≠ some i) → a.amps[i].carries = (.none, none)

theorem Audio.moveGroup_servers (a : Audio) (v : View) (g : Fin 10) (dst : Option (Fin 12)) (h : Fin 10) :
    (a.moveGroup v g dst).serverOf h = if h = g then dst else a.serverOf h :=
  (congrFun (congrArg Roster.server (a.moveGroup_roster v g dst)) h).trans (Roster.move_server _ g h dst)

theorem Audio.applyTarget_other (a : Audio) {i j : Fin 12} (t : Feed) (other : j ≠ i) :
    (a.applyTarget i t).amps[j] = a.amps[j] := by
  rcases a.applyTarget_cases i t with eq | eq
  · rw [eq, Audio.switchTo_amps, if_neg other.symm]
  · rw [eq, Audio.setAmp_amps, if_neg other.symm]

theorem Audio.retarget_other (a : Audio) (v : View) {g : Fin 10} {j : Fin 12} (other : a.serverOf g ≠ some j) :
    (a.retarget v g).amps[j] = a.amps[j] := by
  unfold Audio.retarget
  split
  · next i served => exact a.applyTarget_other _ fun same => other (same ▸ served)
  · rfl

/-- A move leaves what the other amplifiers carry. -/
theorem Audio.moveGroup_other (a : Audio) (v : View) {g : Fin 10} {dst : Option (Fin 12)} {j : Fin 12}
    (old : a.serverOf g ≠ some j) (new : dst ≠ some j) : (a.moveGroup v g dst).amps[j].carries = a.amps[j].carries := by
  cases served : a.serverOf g with
  | some i =>
    have notOld : j ≠ i := fun same => old (same ▸ served)
    cases dst with
    | none => rw [Audio.moveGroup_none_carries served, if_neg notOld]
    | some k => rw [Audio.moveGroup_carries served, if_neg fun same => new (congrArg some same.symm), if_neg notOld]
  | none =>
    cases dst with
    | none =>
      unfold Audio.moveGroup
      rw [served]
    | some k =>
      have apart : j ≠ k := fun same => new (congrArg some same.symm)
      rw [Audio.moveGroup_fromNone served, Audio.retarget_other, Audio.setServer_carries, Audio.switchTo_amps,
        if_neg apart.symm]
      rw [Audio.setServer_serverOf, if_pos rfl]
      exact new

/-- The server a group leaves carries nothing. -/
theorem Audio.moveGroup_left (a : Audio) (v : View) {g : Fin 10} {dst : Option (Fin 12)} {j : Fin 12}
    (old : a.serverOf g = some j) (new : dst ≠ some j) : (a.moveGroup v g dst).amps[j].carries = (.none, none) := by
  cases dst with
  | none => rw [Audio.moveGroup_none_carries old, if_pos rfl]
  | some k => rw [Audio.moveGroup_carries old, if_neg fun same => new (congrArg some same.symm), if_pos rfl]

theorem Audio.FeedStep.servers {a b : Audio} (step : a.FeedStep b) : b.serverOf = a.serverOf :=
  Audio.servers_of_roster step.roster

theorem Audio.Spare.of_alike {a b : Audio} (h : a.Spare) (servers : b.serverOf = a.serverOf)
    (carries : ∀ i : Fin 12, b.amps[i].carries = a.amps[i].carries) : b.Spare := fun i alone => by
  rw [servers] at alone
  rw [carries]
  exact h i alone

theorem Audio.spare_moveInvariant (v : View) : MoveInvariant v Audio.Spare where
  same servers carries h := h.of_alike servers carries
  feeds step h i alone := by
    rw [step.servers] at alone
    have none := h i alone
    rw [step.carries (Amp.carries_eq none).2]
    exact none
  move {a g dst} _ h i alone := by
    have new : dst ≠ some i := fun same => alone g ((a.moveGroup_servers v g dst g).trans ((if_pos rfl).trans same))
    by_cases old : a.serverOf g = some i
    · exact a.moveGroup_left v old new
    · rw [a.moveGroup_other v old new]
      refine h i fun x serves => ?_
      by_cases here : x = g
      · exact old (here ▸ serves)
      · exact alone x ((a.moveGroup_servers v g dst x).trans ((if_neg here).trans serves))

theorem Audio.Spare.applyTarget {a : Audio} (h : a.Spare) {g : Fin 10} {i : Fin 12} (t : Feed)
    (served : a.serverOf g = some i) : (a.applyTarget i t).Spare := fun j alone => by
  have servers : (a.applyTarget i t).serverOf = a.serverOf := Audio.servers_of_roster (a.applyTarget_roster i t)
  rw [servers] at alone
  have other : j ≠ i := fun same => alone g (by rw [served, same])
  rw [a.applyTarget_other t other]
  exact h j alone

theorem Audio.Spare.retarget {a : Audio} (h : a.Spare) (v : View) (g : Fin 10) : (a.retarget v g).Spare := by
  unfold Audio.retarget
  split
  · next i served => exact h.applyTarget _ served
  · exact h

theorem Audio.groupOf_some {a : Audio} {i : Fin 12} {g : Fin 10} (found : a.groupOf i = some g) : a.serverOf g = some i :=
  of_decide_eq_true (List.find?_some (p := fun g : Fin 10 => a.serverOf g = some i) found)

theorem Audio.takeBatch_roster (a : Audio) (v : View) (batch : List (Fin 48)) : (a.takeBatch v batch).roster = a.roster := by
  refine List.foldlRecOn (motive := fun b : Audio => b.roster = a.roster) _ _ rfl fun b same i _ => ?_
  split
  · split
    · rw [Audio.applyTarget_roster, same]
    · exact same
  · exact same

theorem Audio.Spare.takeBatch {a : Audio} (h : a.Spare) (v : View) (batch : List (Fin 48)) : (a.takeBatch v batch).Spare := by
  refine List.foldlRecOn (motive := Audio.Spare) _ _ h fun b spare i _ => ?_
  split
  · next g found =>
    split
    · exact spare.applyTarget _ (Audio.groupOf_some found)
    · exact spare
  · exact spare

/-! ### No return is due at the end of an event (R130) -/

/-- No standby stands in for a RECOVERED amplifier and carries nothing. -/
def Audio.NoneDue (a : Audio) : Prop :=
  ∀ i ∈ standbys, ∀ k, ¬ a.ReturnDue k i

theorem Audio.ReturnDue.of_alike {a b : Audio} {k : Fin 10} {i : Fin 12} (due : b.ReturnDue k i)
    (states : b.roster.state i = a.roster.state i) (duty : b.roster.state (dutyAmp k) = a.roster.state (dutyAmp k))
    (carries : b.amps[i].carries = a.amps[i].carries) : a.ReturnDue k i := by
  obtain ⟨feed, pending⟩ := Amp.carries_eq carries
  exact ⟨states.symm.trans due.standing, duty.symm.trans due.recovered, feed.symm.trans due.feed,
    pending.symm.trans due.pending⟩

theorem Audio.NoneDue.of_alike {a b : Audio} (h : a.NoneDue) (roster : b.roster = a.roster)
    (carries : ∀ i : Fin 12, b.amps[i].carries = a.amps[i].carries) : b.NoneDue := fun i standby k due =>
  h i standby k (due.of_alike (by rw [roster]) (by rw [roster]) (carries i))

section Returns
variable {v : View} {d : Desk} (agrees : d.audio.roster.Agrees) {i j : Fin 12}
include agrees

omit agrees in
theorem Audio.giveBack_other_carries {a : Audio} {k : Fin 10} (coherent : a.roster.Coherent) (standby : i ∈ standbys)
    (member : j ∈ standbys) (other : j ≠ i) (standing : a.roster.state i = .standingIn k) :
    (a.giveBack v k i).amps[j].carries = a.amps[j].carries := by
  have served : a.serverOf k = some i := ((coherent.role k).of_standing standby standing).2.1
  have roster := a.returned_roster v k i
  have returned : (((a.moveGroup v k (some (dutyAmp k))).setAmpState (dutyAmp k) .normal).setAmpState i .idle).amps[j].carries
      = a.amps[j].carries := by
    rw [Audio.setAmpState_carries, Audio.setAmpState_carries, Audio.moveGroup_other]
    · rw [served]
      exact fun same => other (Option.some.inj same).symm
    · exact fun same => ne_dutyAmp_of_standby member k (Option.some.inj same).symm
  unfold Audio.giveBack
  generalize ((a.moveGroup v k (some (dutyAmp k))).setAmpState (dutyAmp k) .normal).setAmpState i .idle = b at roster returned
  refine Eq.trans ?_ returned
  unfold Audio.serveQueue
  split
  · next g rest _ queue =>
    rw [Audio.moveGroup_other, Audio.setAmpState_carries]
    · rw [Audio.setAmpState_servers]
      have queued : g ∈ b.roster.unserved := by
        rw [Audio.roster_unserved, queue]
        exact List.mem_cons_self
      have coherent' : b.roster.Coherent := roster ▸ coherent.returned standby standing
      have none : b.serverOf g = none := ((coherent'.role g).of_queued queued).2.1
      show b.serverOf g ≠ some j
      rw [none]
      exact nofun
    · exact fun same => other (Option.some.inj same).symm
  · rfl

theorem Desk.returnOf_agrees (standby : i ∈ standbys) : (d.returnOf v i).audio.roster.Agrees := by
  rcases d.returnOf_cases v i with ⟨k, due, eq⟩ | ⟨-, eq⟩
  · rw [eq]
    show (d.audio.giveBack v k i).roster.Agrees
    rw [Audio.giveBack_roster]
    exact agrees.giveBack standby due.standing due.recovered
  · rwa [eq]

/-- A standby that has been tested has no return due: it is IDLE, or stands in for a FAILED amplifier. -/
theorem Desk.returnOf_done (standby : i ∈ standbys) (k : Fin 10) : ¬ (d.returnOf v i).audio.ReturnDue k i := by
  rcases d.returnOf_cases v i with ⟨l, due, eq⟩ | ⟨none, eq⟩
  · rw [eq]
    intro due'
    have standing : (d.audio.giveBack v l i).roster.state i = .standingIn k := due'.standing
    have recovered : (d.audio.giveBack v l i).roster.state (dutyAmp k) = .recovered := due'.recovered
    rw [Audio.giveBack_roster] at standing recovered
    rw [Roster.giveBack_duty standby] at recovered
    cases head : d.audio.roster.unserved.head? with
    | none =>
      rw [(Roster.giveBack_own _).1 head] at standing
      cases standing
    | some g =>
      rw [((Roster.giveBack_own _).2 g head).1] at standing
      cases standing
      have failed := ((agrees.coherent.role k).of_queued (List.mem_of_mem_head? head)).1
      split at recovered
      · cases recovered
      · rw [failed] at recovered
        cases recovered
  · rw [eq]
    exact none k

/-- The return of one standby makes none due at the other. -/
theorem Desk.returnOf_none (standby : i ∈ standbys) (member : j ∈ standbys) (other : j ≠ i)
    (none : ∀ k, ¬ d.audio.ReturnDue k j) (k : Fin 10) : ¬ (d.returnOf v i).audio.ReturnDue k j := by
  rcases d.returnOf_cases v i with ⟨l, due, eq⟩ | ⟨-, eq⟩
  · rw [eq]
    intro due'
    have recovered : (d.audio.giveBack v l i).roster.state (dutyAmp k) = .recovered := due'.recovered
    rw [Audio.giveBack_roster, Roster.giveBack_duty standby] at recovered
    have apart : k ≠ l := by
      rintro rfl
      rw [if_pos rfl] at recovered
      cases recovered
    refine none k (Audio.ReturnDue.of_alike (a := d.audio) (b := d.audio.giveBack v l i) due' ?_ ?_
      (Audio.giveBack_other_carries agrees.coherent standby member other due.standing))
    · rw [Audio.giveBack_roster, Roster.giveBack_state _ other, if_neg (ne_dutyAmp_of_standby member l)]
    · rw [Audio.giveBack_roster, Roster.giveBack_duty standby, if_neg apart]
  · rw [eq]
    exact none k

omit agrees in
theorem Audio.decideImage_amps (v : View) (a : Audio) : (a.decideImage v).amps = a.amps := by
  rw [Audio.decideImage, Audio.setImage_amps]
  unfold Audio.decideAll
  rfl

theorem Desk.close_noneDue : (d.close v).audio.NoneDue := by
  have first := Desk.returnOf_agrees (v := v) agrees (i := 10) (by decide)
  have tested : ((d.returnOf v 10).returnOf v 11).audio.NoneDue := fun i standby k => by
    rcases (by simpa [standbys] using standby : i = 10 ∨ i = 11) with rfl | rfl
    · exact Desk.returnOf_none first (by decide) (by decide) (by decide)
        (fun k => Desk.returnOf_done agrees (by decide) k) k
    · exact Desk.returnOf_done first (by decide) k
  rw [Desk.close_eq, Desk.mapAudio_audio]
  generalize ((d.returnOf v 10).returnOf v 11).audio = a at tested
  refine tested.of_alike (a.decideImage_feeds v).roster fun i => ?_
  rw [Audio.decideImage_amps]

end Returns

/-! ### The end of an event and the settling of the pool -/

/-- The records agree, the amplifiers carry what `Q` says, and no return is due. -/
structure Audio.Settled (Q : Audio → Prop) (a : Audio) : Prop where
  agrees : a.roster.Agrees
  carried : Q a
  noneDue : a.NoneDue

section Settled
variable {v : View} {Q : Audio → Prop} (inv : MoveInvariant v Q) {d : Desk}
include inv

theorem Desk.close_settled (agrees : d.audio.roster.Agrees) (carried : Q d.audio) : (d.close v).audio.Settled Q := by
  have kept : (d.close v).audio.roster.Agrees ∧ Q (d.close v).audio :=
    Desk.close_event (P := fun d => d.audio.roster.Agrees ∧ Q d.audio)
      (fun step _ kept => ⟨step.roster ▸ kept.1, inv.feeds step kept.2⟩)
      (fun {d k i} standby due kept => ⟨(d.audio.giveBack_roster v k i).symm ▸
        kept.1.giveBack standby due.standing due.recovered, inv.giveBack kept.1.coherent standby due.standing kept.2⟩)
      ⟨agrees, carried⟩
  exact ⟨kept.1, kept.2, Desk.close_noneDue agrees⟩

theorem Desk.settle_settled (fuel : Nat) (before : Vector (Option (Fin 16)) 6) (force : Bool)
    (h : d.audio.Settled Q) : (d.settle v fuel before force).audio.Settled Q := by
  refine Desk.settle_induction (P := fun d => d.audio.Settled Q) (fun before d h => ?_) fuel before force h
  have step : d.audio.FeedStep ((d.pass v).mapAudio (Audio.losses before)).audio :=
    (Audio.FeedStep.of_same (d.pass_same v)).trans (Audio.losses_feeds before _)
  exact Desk.close_settled inv (step.roster ▸ h.agrees) (inv.feeds step h.carried)

theorem Desk.finish_settled (agrees : d.audio.roster.Agrees) (carried : Q d.audio) : (d.finish v).audio.Settled Q :=
  Desk.settle_settled inv _ _ _ (Desk.close_settled inv agrees carried)

end Settled

/-! ### The agreement of the records -/

theorem Audio.AmpsAgree.roster {a : Audio} (h : a.AmpsAgree) : a.roster.Agrees := by
  have alone {k : Fin 10} {x : Option (Fin 12)} (server : a.serverOf k = x) (not : ∀ i ∈ standbys, x ≠ some i) :
      ∀ i ∈ standbys, a.roster.state i ≠ .standingIn k := fun i standby standing =>
    not i standby (server.symm.trans (h.standing i standby k standing))
  have role (k : Fin 10) : a.roster.Role k := by
    have covered (away : a.roster.state (dutyAmp k) = .recovered ∨ a.roster.state (dutyAmp k) = .failed) {i : Fin 12}
        (standby : i ∈ standbys) (server : a.serverOf k = some i) (standing : a.amps[i].state = .standingIn k) :
        a.roster.Role k := by
      refine .covered i standby away server (fun j member => ⟨fun stands => ?_, fun same => same ▸ standing⟩) fun queued => ?_
      · exact Option.some.inj ((h.standing j member k stands).symm.trans server)
      · have none := (h.queue.2 k queued).2
        rw [server] at none
        cases none
    rcases h.duty k with normal | recovered | failed
    · refine .own normal (h.normal k normal) (alone (h.normal k normal) fun i standby same =>
        ne_dutyAmp_of_standby standby k (Option.some.inj same).symm) fun queued => ?_
      have failed := (h.queue.2 k queued).1
      rw [normal] at failed
      cases failed
    · obtain ⟨i, standby, server, standing, -⟩ := h.recovered k recovered
      exact covered (.inl recovered) standby server standing
    · rcases h.failed k failed with ⟨i, standby, server, standing⟩ | ⟨server, queued⟩
      · exact covered (.inr failed) standby server standing
      · exact .waiting failed server (alone server fun _ _ => nofun) queued
  exact ⟨⟨role, h.standby, h.queue.1, h.order.1, h.order.2⟩, h.waiting, h.faults⟩

theorem Audio.AmpsAgree.settled {a : Audio} (h : a.AmpsAgree) : a.Settled Audio.Spare := by
  refine ⟨h.roster, fun i alone => Prod.ext (h.spare i alone).1 (h.spare i alone).2, fun i standby k due => ?_⟩
  obtain ⟨j, member, server, -, carries⟩ := h.recovered k due.recovered
  have same : j = i := Option.some.inj (server.symm.trans (h.standing i standby k due.standing))
  rw [same, due.feed, due.pending] at carries
  exact carries.elim (absurd rfl) (absurd rfl)

theorem Audio.Settled.ampsAgree {a : Audio} (h : a.Settled Audio.Spare) : a.AmpsAgree where
  duty k := (h.agrees.coherent.role k).duty
  standby := h.agrees.coherent.standby
  faults := h.agrees.faults
  normal k normal := ((h.agrees.coherent.role k).of_normal normal).1
  recovered k recovered := by
    obtain ⟨i, standby, server, standing⟩ := (h.agrees.coherent.role k).of_recovered recovered
    refine ⟨i, standby, server, standing, ?_⟩
    by_contra nothing
    rw [not_or, not_not, not_not] at nothing
    exact h.noneDue i standby k ⟨standing, recovered, nothing.1, nothing.2⟩
  failed k failed := (h.agrees.coherent.role k).of_failed failed
  standing i standby k standing := ((h.agrees.coherent.role k).of_standing standby standing).2.1
  spare i alone := Amp.carries_eq (h.carried i alone)
  queue := ⟨h.agrees.coherent.once, fun k queued =>
    ⟨((h.agrees.coherent.role k).of_queued queued).1, ((h.agrees.coherent.role k).of_queued queued).2.1⟩⟩
  waiting := h.agrees.waits
  order := ⟨h.agrees.coherent.order, h.agrees.coherent.ordered⟩

/-- The agreement is kept where neither the roster nor what is carried changes. -/
theorem Audio.AmpsAgree.of_alike {a b : Audio} (h : a.AmpsAgree) (roster : b.roster = a.roster)
    (carries : ∀ i : Fin 12, b.amps[i].carries = a.amps[i].carries) : b.AmpsAgree := by
  obtain ⟨agrees, carried, noneDue⟩ := h.settled
  exact Audio.Settled.ampsAgree ⟨roster ▸ agrees,
    carried.of_alike (Audio.servers_of_roster roster) carries, noneDue.of_alike roster carries⟩

theorem Audio.AmpsAgree.of_unit {a b : Audio} (h : a.AmpsAgree) (amps : b.amps = a.amps) (unserved : b.unserved = a.unserved)
    (failOrder : b.failOrder = a.failOrder) : b.AmpsAgree :=
  h.of_alike (Audio.FeedStep.of_amps amps unserved failOrder).roster fun i => by rw [amps]

theorem Audio.standbyOf_some {a : Audio} {k : Fin 10} {i : Fin 12} (found : a.standbyOf k = some i) :
    i ∈ standbys ∧ a.roster.state i = .standingIn k :=
  ⟨List.mem_of_find?_eq_some found,
    of_decide_eq_true (List.find?_some (p := fun i : Fin 12 => a.amps[i].state = .standingIn k) found)⟩

theorem Audio.tick_roster (a : Audio) (pins : Pins) : (a.tick pins).roster = a.roster := by
  have at_ {β : Type} (f : Amp → β) (blind : ∀ (x : Amp) (n : Nat), f { x with run := n } = f x) (i : Fin 12) :
      f (a.tick pins).amps[i] = f a.amps[i] := by
    rw [Audio.tick_amps, Amp.sample_eq, blind]
  exact Roster.ext (funext (at_ Amp.state fun _ _ => rfl)) (funext (at_ Amp.fault fun _ _ => rfl))
    (funext (at_ Amp.failedAt fun _ _ => rfl)) (funext fun g => at_ Amp.server (fun _ _ => rfl) (dutyAmp g)) rfl rfl

theorem Audio.tick_carries (a : Audio) (pins : Pins) (i : Fin 12) : (a.tick pins).amps[i].carries = a.amps[i].carries := by
  rw [Audio.tick_amps, Amp.sample_eq]
  rfl

theorem ampsAgree_unitInvariant : UnitInvariant fun _ a => a.AmpsAgree where
  alike _ h := h
  pool step h := h.of_unit step.same.amps step.same.unserved step.same.failOrder
  shifted step h := by
    rw [step.eq]
    exact h.of_unit rfl rfl rfl
  storeSize _ h := h.of_unit rfl rfl rfl
  tick pins h := h.of_alike (Audio.tick_roster _ pins) (Audio.tick_carries _ pins)
  rezoned _ h := h
  batch {_ w d batch} _ h := by
    refine (Desk.finish_settled (Audio.spare_moveInvariant w) ?_ ?_).ampsAgree
    · rw [Desk.mapAudio_audio, Audio.takeBatch_roster]
      exact h.roster
    · rw [Desk.mapAudio_audio]
      exact h.settled.carried.takeBatch w batch
  line {_ w d} n _ _ _ h := by
    refine (Desk.finish_settled (Audio.spare_moveInvariant w) ?_ ?_).ampsAgree
    · rw [Desk.mapAudio_audio, Audio.retarget_roster]
      exact h.roster
    · rw [Desk.mapAudio_audio]
      exact h.settled.carried.retarget w _
  settle {v _} _ _ h := (Desk.settle_settled (Audio.spare_moveInvariant v) _ _ _ h.settled).ampsAgree
  walkOn {v d k walk} steps h := by
    have told : d.audio.FeedStep (d.mapAudio (Audio.boundary k)).audio := d.audio.boundary_feeds k
    have closed := (Desk.close_settled (Audio.spare_moveInvariant v) (told.roster ▸ h.roster)
      ((Audio.spare_moveInvariant v).feeds told h.settled.carried)).ampsAgree
    have walked := (steps ((d.mapAudio (Audio.boundary k)).close v)).same
    exact (Desk.settle_settled (Audio.spare_moveInvariant v) _ _ _
      (closed.of_unit walked.amps walked.unserved walked.failOrder).settled).ampsAgree
  giveBack {v d k i} recovered found h := by
    obtain ⟨standby, standing⟩ := Audio.standbyOf_some found
    refine (Desk.finish_settled (Audio.spare_moveInvariant v) ?_ ?_).ampsAgree
    · rw [Desk.mapAudio_audio, Audio.giveBack_roster]
      exact h.roster.giveBack standby standing recovered
    · rw [Desk.mapAudio_audio]
      exact (Audio.spare_moveInvariant v).giveBack h.roster.coherent standby standing h.settled.carried
  faultChange {v d} i h :=
    (Desk.finish_settled (Audio.spare_moveInvariant v) (Desk.faultChange_agrees i h.roster)
      ((Audio.spare_moveInvariant v).faultChange i h.roster.coherent h.settled.carried)).ampsAgree
  restart {_ w d} _ h := by
    have silent : d.audio.restart.Spare := fun i _ => d.audio.restart_silent i
    have agrees : d.audio.restart.roster.Agrees := d.audio.restart_roster ▸ h.roster
    rw [← Desk.mapAudio_audio d Audio.restart] at silent agrees
    have finished := (Desk.finish_settled (Audio.spare_moveInvariant w) agrees silent).ampsAgree
    rw [Desk.restart_audio]
    generalize ((d.mapAudio Audio.restart).finish w).audio = a at finished
    rw [(a.refreshFrom_shifted d.audio.image).eq]
    exact finished.of_unit rfl rfl rfl
  reset := Audio.reset_ampsAgree

end Sys2Proof.Machine
end

section
/-! O59: the audio side through every step; the feeds true to the runtime records (R114, R117 to R119). -/

namespace Sys2Proof.Machine

open Sys2Proof Function

/-! ### Targets of one rank -/

/-- The candidates of a group decide the rank of its target. -/
theorem View.target_rank_congr {v w : View} (sound : v.Sound) (sound' : w.Sound) {g : Fin 10}
    (members : ∀ z, z ∈ w.candidates g ↔ z ∈ v.candidates g)
    (ranks : ∀ z ∈ v.candidates g, w.records[z].rank = v.records[z].rank) : (w.target g).rank = (v.target g).rank := by
  by_cases empty : ∀ z, z ∉ v.candidates g
  · rw [View.target_none empty, View.target_none fun z mem => empty z ((members z).1 mem)]
  · obtain ⟨x, mem⟩ := not_forall_not.1 empty
    obtain ⟨y, listed, rank, -⟩ := View.target_zone sound.program g mem
    obtain ⟨y', listed', rank', -⟩ := View.target_zone sound'.program g ((members x).2 mem)
    refine Rank.value_injective (Nat.le_antisymm ?_ ?_)
    · rw [← rank', ranks y' ((members y').1 listed')]
      exact View.le_target sound.program g ((members y').1 listed')
    · rw [← rank, ← ranks y listed]
      exact View.le_target sound'.program g ((members y).2 listed)

/-! ### What the servers carry -/

/-- What a server is to carry has the rank of its group's target, and no pending target ranks above the current feed
(R117, R119). -/
structure Audio.Heard (v : View) (a : Audio) : Prop where
  wanted : ∀ (g : Fin 10) (i : Fin 12), a.serverOf g = some i → a.amps[i].wanted.rank = (v.target g).rank
  held : ∀ (i : Fin 12) (x : Feed), a.amps[i].pending = some x → x.rank.value ≤ a.amps[i].feed.rank.value

/-- The record is to carry a feed of rank `r`, and its pending target ranks no higher than its feed. -/
def Amp.Suits (x : Amp) (r : Rank) : Prop :=
  x.wanted.rank = r ∧ ∀ t, x.pending = some t → t.rank.value ≤ x.feed.rank.value

theorem Amp.Suits.of_carries {x y : Amp} {r : Rank} (h : x.Suits r) (carries : y.carries = x.carries) : y.Suits r := by
  obtain ⟨feed, pending⟩ := Amp.carries_eq carries
  rw [Amp.Suits, Amp.wanted, feed, pending]
  exact h

theorem Amp.suits_none {x : Amp} (carries : x.carries = (.none, none)) : x.Suits .none := by
  obtain ⟨feed, pending⟩ := Amp.carries_eq carries
  rw [Amp.Suits, Amp.wanted, feed, pending]
  exact ⟨rfl, nofun⟩

theorem Amp.Suits.took {x y : Amp} {r : Rank} (h : x.Suits r) (took : x.Took y) : y.Suits r := by
  obtain ⟨t, pending, eq⟩ := took
  obtain ⟨wanted, -⟩ := h
  rw [Amp.wanted, pending] at wanted
  rw [eq]
  exact ⟨wanted, nofun⟩

/-- A target applied to a server is what it is to carry. -/
theorem Audio.applyTarget_suits (a : Audio) (i : Fin 12) (t : Feed) : (a.applyTarget i t).amps[i].Suits t.rank := by
  by_cases now : t.same a.amps[i].feed = true ∨ a.amps[i].feed.rank.value < t.rank.value ∨
    ¬ (a.delivererOf a.amps[i].feed).isSome = true
  · rw [Audio.applyTarget_switches now, Audio.switchTo_amps, if_pos rfl]
    exact ⟨rfl, nofun⟩
  · obtain ⟨other, rest⟩ := not_or.1 now
    obtain ⟨low, delivered⟩ := not_or.1 rest
    rw [Audio.applyTarget_waits other low (not_not.1 delivered), Audio.setAmp_amps, if_pos rfl]
    refine ⟨rfl, ?_⟩
    rintro x ⟨⟩
    exact Nat.not_lt.1 low

theorem Audio.Heard.suits {v : View} {a : Audio} (h : a.Heard v) {g : Fin 10} {i : Fin 12} (served : a.serverOf g = some i) :
    a.amps[i].Suits (v.target g).rank :=
  ⟨h.wanted g i served, h.held i⟩

/-- What the servers of groups carry is what is heard, where every other amplifier's pending target is held back. -/
theorem Audio.Heard.of_suits {v : View} {a : Audio}
    (suits : ∀ (g : Fin 10) (i : Fin 12), a.serverOf g = some i → a.amps[i].Suits (v.target g).rank)
    (held : ∀ i : Fin 12, (∀ g, a.serverOf g ≠ some i) → ∀ x, a.amps[i].pending = some x →
      x.rank.value ≤ a.amps[i].feed.rank.value) : a.Heard v where
  wanted g i served := (suits g i served).1
  held i := by
    by_cases serves : ∃ g, a.serverOf g = some i
    · obtain ⟨g, served⟩ := serves
      exact (suits g i served).2
    · exact held i (not_exists.1 serves)

theorem Audio.Heard.of_carries {v : View} {a b : Audio} (h : a.Heard v) (servers : b.serverOf = a.serverOf)
    (carries : ∀ i : Fin 12, b.amps[i].carries = a.amps[i].carries) : b.Heard v where
  wanted g i served := ((h.suits (servers ▸ served)).of_carries (carries i)).1
  held i x pending := by
    obtain ⟨feed, pending'⟩ := Amp.carries_eq (carries i)
    rw [feed]
    exact h.held i x (pending'.symm.trans pending)

theorem Audio.retarget_suits (a : Audio) (v : View) {g : Fin 10} {i : Fin 12} (served : a.serverOf g = some i) :
    (a.retarget v g).amps[i].Suits (v.target g).rank := by
  unfold Audio.retarget
  rw [served]
  exact a.applyTarget_suits i _

/-- The server a group moves to carries what the group is to hear. -/
theorem Audio.Heard.moved {v : View} {a : Audio} (h : a.Heard v) {g : Fin 10} (j : Fin 12) :
    (a.moveGroup v g (some j)).amps[j].Suits (v.target g).rank := by
  cases served : a.serverOf g with
  | some i => exact (h.suits served).of_carries (((Audio.moveGroup_carries served j j)).trans (if_pos rfl))
  | none =>
    rw [Audio.moveGroup_fromNone served]
    refine Audio.retarget_suits _ v ?_
    rw [Audio.setServer_serverOf, if_pos rfl]

theorem Audio.heard_moveInvariant (v : View) : MoveInvariant v (Audio.Heard v) where
  same servers carries h := h.of_carries servers carries
  feeds {a b} step h := by
    have suits (i : Fin 12) (r : Rank) (before : a.amps[i].Suits r) : b.amps[i].Suits r := by
      rcases step.amps i with same | took
      · rwa [same]
      · exact before.took took
    exact ⟨fun g i served => (suits i _ (h.suits (step.servers ▸ served))).1, fun i => (suits i _ ⟨rfl, h.held i⟩).2⟩
  move {a g dst} movable h := by
    have kept {j : Fin 12} (old : a.serverOf g ≠ some j) (new : dst ≠ some j) := a.moveGroup_other v old new
    refine .of_suits (fun k i served => ?_) fun i alone x pending => ?_
    · rw [Audio.moveGroup_servers] at served
      split at served
      · next here =>
        subst here served
        exact h.moved i
      · next other =>
        obtain ⟨old, new⟩ := movable k other i served
        exact (h.suits served).of_carries (kept old new)
    · have new : dst ≠ some i := fun same => alone g ((a.moveGroup_servers v g dst g).trans ((if_pos rfl).trans same))
      by_cases old : a.serverOf g = some i
      · rw [(Amp.carries_eq (a.moveGroup_left v old new)).2] at pending
        cases pending
      · obtain ⟨feed, pending'⟩ := Amp.carries_eq (kept old new)
        rw [feed]
        exact h.held i x (pending'.symm.trans pending)

/-! ### Connections (R114) -/

/-- Every zone's connection is what the table of R114 gives. -/
def Audio.Decided (v : View) (a : Audio) : Prop :=
  ∀ z : Fin 48, a.connections[z] = a.decide v z

section Decided
variable {v : View} {a b : Audio}

theorem Audio.groupPending_congr (servers : b.serverOf = a.serverOf)
    (pending : ∀ i : Fin 12, b.amps[i].pending = a.amps[i].pending) (g : Fin 10) : b.groupPending g = a.groupPending g := by
  unfold Audio.groupPending
  rw [servers]
  split
  · next i _ => rw [pending]
  · rfl

/-- A zone decided again is decided alike. -/
theorem Audio.decide_again {z : Fin 48} (servers : b.serverOf = a.serverOf)
    (pending : ∀ i : Fin 12, b.amps[i].pending = a.amps[i].pending)
    (connection : b.connections[z] = a.connections[z] ∨ b.connections[z] = a.decide v z) : b.decide v z = a.decide v z := by
  by_cases used : v.configs[z].kind = .unused
  · rw [Audio.decide_unused used, Audio.decide_unused used]
  · cases eligible : v.lines[z].state.eligible with
    | false => rw [Audio.decide_out used eligible, Audio.decide_out used eligible]
    | true =>
      by_cases silent : v.records[z].rank = .none
      · have here := Audio.decide_silent (a := a) used eligible silent
        rw [Audio.decide_silent used eligible silent, here, Audio.groupPending_congr servers pending]
        rcases connection with same | decided
        · rw [same]
        · rw [decided, here]
          split_ifs with one two three <;> simp_all
      · rw [Audio.decide_ranked used eligible silent, Audio.decide_ranked used eligible silent, servers]

theorem Audio.Decided.of_carries (h : a.Decided v) (connections : b.connections = a.connections)
    (servers : b.serverOf = a.serverOf) (carries : ∀ i : Fin 12, b.amps[i].carries = a.amps[i].carries) : b.Decided v :=
  fun z => by
    rw [Audio.decide_again servers (fun i => (Amp.carries_eq (carries i)).2) (.inl (by rw [connections])), connections]
    exact h z

theorem Audio.Decided.of_amps (h : a.Decided v) (connections : b.connections = a.connections) (amps : b.amps = a.amps) :
    b.Decided v :=
  h.of_carries connections (Audio.serverOf_congr amps) fun i => by rw [amps]

theorem Audio.decideAll_amps (v : View) (a : Audio) : (a.decideAll v).amps = a.amps := by
  unfold Audio.decideAll
  rfl

theorem Audio.decideAll_connections (v : View) (a : Audio) :
    (a.decideAll v).connections = Vector.ofFn fun z => a.decide v z := by
  unfold Audio.decideAll
  rfl

theorem Audio.decideAll_decided (v : View) (a : Audio) : (a.decideAll v).Decided v := fun z => by
  have made : (a.decideAll v).connections[z] = a.decide v z := by
    rw [Audio.decideAll_connections]
    exact Vector.getElem_ofFn _
  have amps := a.decideAll_amps v
  rw [made]
  exact (Audio.decide_again (Audio.serverOf_congr amps) (fun i => by rw [amps]) (.inr made)).symm

theorem Desk.close_decided (v : View) (d : Desk) : (d.close v).audio.Decided v := by
  rw [Desk.close_eq, Desk.mapAudio_audio]
  exact (Audio.decideAll_decided v _).of_amps (Audio.setImage_connections _ _) (Audio.setImage_amps _ _)

theorem Desk.settle_decided {d : Desk} (before : Vector (Option (Fin 16)) 6) (force : Bool)
    (h : d.audio.Decided v) : (d.settle v settleFuel before force).audio.Decided v :=
  Desk.settle_forced (P := fun e => e.audio.Decided v) (Q := fun _ => True) (fun _ _ _ => Desk.close_decided v _)
    (fun _ _ => trivial) before trivial fun _ => h

theorem Desk.finish_decided (v : View) (d : Desk) : (d.finish v).audio.Decided v :=
  Desk.settle_decided _ _ (Desk.close_decided v d)

end Decided

end Sys2Proof.Machine
end

section
/-! O59: the audio side through every step; the feeds true to the records through every event (R114, R117 to R119). -/

namespace Sys2Proof.Machine

open Sys2Proof Function

/-! ### What a change of the inputs leaves -/

section Changed
variable {v w : View} {a : Audio} {batch : List (Fin 48)} (sound : v.Sound) (decided : a.Decided v)
include sound decided

/-- A DISCONNECTED zone that is used and eligible has no claim. -/
theorem Audio.Decided.unclaimed {z : Fin 48} (open_ : a.connections[z] = .disconnected)
    (eligible : v.lines[z].state.eligible = true) : v.records[z].rank = .none := by
  by_contra ranked
  by_cases unused : v.configs[z].kind = .unused
  · exact ranked (sound.unused z unused)
  · have here := decided z
    rw [Audio.decide_ranked unused eligible ranked, open_] at here
    split at here
    · cases here
    · cases here

variable (changed : v.Changed w a batch)
include changed

/-- A group none of whose zones is touched has the candidates it had. -/
theorem View.Changed.candidates {g : Fin 10} (out : ∀ z ∈ batch, w.configs[z].duty ≠ g) (z : Fin 48) :
    (z ∈ w.candidates g ↔ z ∈ v.candidates g) ∧ (z ∈ v.candidates g → w.records[z].rank = v.records[z].rank) := by
  have record (duty : w.configs[z].duty = g) : w.records[z] = v.records[z] := changed.records z fun touched => out z touched duty
  rw [View.mem_candidates_iff, View.mem_candidates_iff, changed.lines]
  rcases changed.configs z with same | open_
  · rw [same] at record ⊢
    refine ⟨and_congr_right fun duty => by rw [record duty], fun ⟨duty, _⟩ => by rw [record duty]⟩
  · have none := decided.unclaimed sound open_
    refine ⟨iff_of_false (fun ⟨duty, _, ranked, eligible⟩ => ?_) fun ⟨_, _, ranked, eligible⟩ => ranked (none eligible),
      fun ⟨_, _, ranked, eligible⟩ => absurd (none eligible) ranked⟩
    rw [record duty] at ranked
    exact ranked (none eligible)

theorem View.Changed.target_rank {g : Fin 10} (out : ∀ z ∈ batch, w.configs[z].duty ≠ g) :
    (w.target g).rank = (v.target g).rank :=
  View.target_rank_congr sound changed.sound (fun z => (changed.candidates sound decided out z).1)
    fun z => (changed.candidates sound decided out z).2

/-- Where no record is new, every zone's connection is still what the table gives. -/
theorem Audio.Decided.rezoned (none : batch = []) : a.Decided w := fun z => by
  have record : w.records[z] = v.records[z] := changed.records z (by rw [none]; exact List.not_mem_nil)
  have eligible := changed.lines z
  rcases changed.configs z with same | open_
  · rw [decided z]
    unfold Audio.decide
    rw [same, record, eligible]
  · rw [open_]
    by_cases unused : w.configs[z].kind = .unused
    · exact (Audio.decide_unused unused).symm
    · cases in_ : w.lines[z].state.eligible with
      | false =>
        rw [Audio.decide_out unused in_, record, if_pos]
        by_contra ranked
        rw [eligible] at in_
        have here := decided z
        by_cases unused' : v.configs[z].kind = .unused
        · exact ranked (sound.unused z unused')
        · rw [Audio.decide_out unused' in_, if_neg ranked, open_] at here
          cases here
      | true =>
        have silent : w.records[z].rank = .none := by
          rw [record]
          exact decided.unclaimed sound open_ (eligible.symm.trans in_)
        rw [Audio.decide_silent unused in_ silent, open_, if_neg (fun keeps => nomatch keeps.1)]

end Changed

theorem View.Alike.sound {v w : View} (alike : v.Alike w) (sound : v.Sound) : w.Sound := by
  refine ⟨fun z => ?_, fun z r => ?_⟩
  · rw [alike.configs, alike.records]
    exact sound.unused z
  · rw [alike.records]
    exact sound.program z r

theorem View.Alike.changed {v w : View} (alike : v.Alike w) (sound : v.Sound) (a : Audio) : v.Changed w a [] :=
  ⟨alike.sound sound, alike.lines, fun z _ => by rw [alike.records], fun z => .inl (by rw [alike.configs])⟩

/-! ### Batches and lines -/

/-- What a fold of operations, each on one amplifier, leaves of an amplifier: its own operation, at the servers as they were. -/
theorem foldl_touch {f : Audio → Fin 12 → Audio} (other : ∀ (b : Audio) (i j : Fin 12), j ≠ i → (f b i).amps[j] = b.amps[j])
    (servers : ∀ (b : Audio) (i : Fin 12), (f b i).serverOf = b.serverOf) {l : List (Fin 12)} (once : l.Nodup) (a : Audio)
    {i : Fin 12} (mem : i ∈ l) :
    ∃ b : Audio, b.serverOf = a.serverOf ∧ b.amps[i] = a.amps[i] ∧ (l.foldl f a).amps[i] = (f b i).amps[i] := by
  have kept {l : List (Fin 12)} (out : i ∉ l) (a : Audio) : (l.foldl f a).amps[i] = a.amps[i] :=
    List.foldlRecOn (motive := fun b : Audio => b.amps[i] = a.amps[i]) l f rfl fun b same j listed =>
      (other b j i fun eq => out (eq ▸ listed)).trans same
  induction l generalizing a with
  | nil => cases mem
  | cons j l ih =>
    obtain ⟨fresh, once⟩ := List.nodup_cons.1 once
    rw [List.foldl_cons]
    rcases List.mem_cons.1 mem with rfl | later
    · exact ⟨a, rfl, rfl, kept fresh _⟩
    · obtain ⟨b, serves, same, done⟩ := ih once (f a j) later
      exact ⟨b, serves.trans (servers a j), same.trans (other a j i fun eq => fresh (eq ▸ later)), done⟩

/-- A server's target chosen again, where its group is touched (R118). -/
def Audio.takeAt (v : View) (batch : List (Fin 48)) (a : Audio) (i : Fin 12) : Audio :=
  match a.groupOf i with
  | some g => if batch.any fun z => v.configs[z].duty = g then a.applyTarget i (v.target g) else a
  | none => a

theorem Audio.takeBatch_eq (a : Audio) (v : View) (batch : List (Fin 48)) :
    a.takeBatch v batch = (List.finRange 12).foldl (Audio.takeAt v batch) a := rfl

section Take
variable {v : View} {batch : List (Fin 48)}

theorem Audio.takeAt_other (a : Audio) {i j : Fin 12} (other : j ≠ i) : (a.takeAt v batch i).amps[j] = a.amps[j] := by
  unfold Audio.takeAt
  split
  · split
    · exact a.applyTarget_other _ other
    · rfl
  · rfl

theorem Audio.takeAt_servers (a : Audio) (i : Fin 12) : (a.takeAt v batch i).serverOf = a.serverOf := by
  unfold Audio.takeAt
  split
  · split
    · exact Audio.servers_of_roster (a.applyTarget_roster i _)
    · rfl
  · rfl

theorem Audio.groupOf_none {a : Audio} {i : Fin 12} : a.groupOf i = none ↔ ∀ g, a.serverOf g ≠ some i := by
  rw [Audio.groupOf, List.find?_eq_none]
  exact ⟨fun none g => by simpa using none g (List.mem_finRange g), fun none g _ => by simpa using none g⟩

theorem Audio.groupOf_eq {a : Audio} (coherent : a.roster.Coherent) {g : Fin 10} {i : Fin 12}
    (served : a.serverOf g = some i) : a.groupOf i = some g := by
  cases found : a.groupOf i with
  | none => exact absurd served (Audio.groupOf_none.1 found g)
  | some k =>
    have same : k = g := coherent.apart (r := a.roster) (k := g) (g := k) served (Audio.groupOf_some found)
    rw [same]

theorem Audio.groupOf_congr {a b : Audio} (servers : b.serverOf = a.serverOf) (i : Fin 12) : b.groupOf i = a.groupOf i := by
  rw [Audio.groupOf, Audio.groupOf, servers]

theorem Audio.takeBatch_touched (a : Audio) (v : View) (batch : List (Fin 48)) (i : Fin 12) :
    ∃ b : Audio, b.serverOf = a.serverOf ∧ b.amps[i] = a.amps[i] ∧
      (a.takeBatch v batch).amps[i] = (b.takeAt v batch i).amps[i] := by
  rw [Audio.takeBatch_eq]
  exact foldl_touch (f := Audio.takeAt v batch) (fun b _ _ other => b.takeAt_other other) Audio.takeAt_servers
    (List.nodup_finRange 12) a (List.mem_finRange i)

end Take

section Events
variable {v w : View} {a : Audio}

theorem Audio.Heard.takeBatch {batch : List (Fin 48)} (h : a.Heard v) (coherent : a.roster.Coherent) (sound : v.Sound)
    (decided : a.Decided v) (changed : v.Changed w a batch) : (a.takeBatch w batch).Heard w := by
  have servers : (a.takeBatch w batch).serverOf = a.serverOf := Audio.servers_of_roster (a.takeBatch_roster w batch)
  refine .of_suits (fun g i served => ?_) fun i alone => ?_
  · rw [servers] at served
    obtain ⟨b, same, amp, taken⟩ := a.takeBatch_touched w batch i
    rw [taken, Audio.takeAt, Audio.groupOf_congr same, Audio.groupOf_eq coherent served]
    dsimp only
    split
    · exact b.applyTarget_suits i _
    · next untouched =>
      rw [amp, changed.target_rank sound decided fun z mem duty =>
        untouched (List.any_eq_true.2 ⟨z, mem, decide_eq_true duty⟩)]
      exact h.suits served
  · rw [servers] at alone
    obtain ⟨b, same, amp, taken⟩ := a.takeBatch_touched w batch i
    rw [taken, Audio.takeAt, Audio.groupOf_congr same, Audio.groupOf_none.2 alone]
    dsimp only
    rw [amp]
    exact h.held i

/-- The target of a line's group chosen again (R115). -/
theorem Audio.Heard.retarget (h : a.Heard v) (coherent : a.roster.Coherent) (sound : v.Sound) (sound' : w.Sound)
    (n : Fin 48) (configs : w.configs = v.configs) (records : w.records = v.records)
    (lines : ∀ m : Fin 48, m ≠ n → w.lines[m] = v.lines[m]) : (a.retarget w w.configs[n].duty).Heard w := by
  have servers : (a.retarget w w.configs[n].duty).serverOf = a.serverOf := Audio.servers_of_roster (a.retarget_roster w _)
  have rank (g : Fin 10) (other : g ≠ w.configs[n].duty) : (w.target g).rank = (v.target g).rank := by
    refine View.target_rank_congr sound sound' (fun z => ?_) fun z _ => by rw [records]
    rw [View.mem_candidates_iff, View.mem_candidates_iff, configs, records]
    refine and_congr_right fun duty => ?_
    rw [lines z]
    rintro rfl
    exact other (by rw [configs]; exact duty.symm)
  refine .of_suits (fun g i served => ?_) fun i alone => ?_
  · rw [servers] at served
    by_cases here : g = w.configs[n].duty
    · rw [here] at served ⊢
      exact a.retarget_suits w served
    · rw [a.retarget_other w fun same => here (coherent.apart (r := a.roster) same served), rank g here]
      exact h.suits served
  · rw [servers] at alone
    rw [a.retarget_other w (alone _)]
    exact h.held i

end Events

/-! ### The feeds through every event -/

/-- The records are sound, the amplifier records agree, and feeds and connections follow. -/
structure Audio.Follows (v : View) (a : Audio) : Prop where
  sound : v.Sound
  agree : a.AmpsAgree
  heard : a.Heard v
  decided : a.Decided v

section Follows
variable {v w : View} {a b : Audio} {d : Desk}

theorem Audio.Follows.of_carries (h : a.Follows v) (agree : b.AmpsAgree) (connections : b.connections = a.connections)
    (servers : b.serverOf = a.serverOf) (carries : ∀ i : Fin 12, b.amps[i].carries = a.amps[i].carries) : b.Follows v :=
  ⟨h.sound, agree, h.heard.of_carries servers carries, h.decided.of_carries connections servers carries⟩

theorem Audio.Follows.of_amps (h : a.Follows v) (agree : b.AmpsAgree) (connections : b.connections = a.connections)
    (amps : b.amps = a.amps) : b.Follows v :=
  h.of_carries agree connections (Audio.serverOf_congr amps) fun i => by rw [amps]

theorem Audio.Follows.settle (h : d.audio.Follows v) (before : Vector (Option (Fin 16)) 6) (force : Bool) :
    (d.settle v settleFuel before force).audio.Follows v :=
  ⟨h.sound, ampsAgree_unitInvariant.settle (v := v) before force h.agree,
    (Desk.settle_settled (Audio.heard_moveInvariant v) _ _ _ ⟨h.agree.roster, h.heard, h.agree.settled.noneDue⟩).carried,
    Desk.settle_decided before force h.decided⟩

/-- At the end of an event the feeds follow, where the records agree and the servers carry what the groups are to hear. -/
theorem Desk.finish_follows (sound : v.Sound) (agrees : d.audio.roster.Agrees) (agree : (d.finish v).audio.AmpsAgree)
    (heard : d.audio.Heard v) : (d.finish v).audio.Follows v :=
  ⟨sound, agree, (Desk.finish_settled (Audio.heard_moveInvariant v) agrees heard).carried, Desk.finish_decided v d⟩

theorem Audio.Follows.walkOn (h : d.audio.Follows v) {k : Fin 6} {walk : Desk → Desk}
    (steps : ∀ e : Desk, e.audio.PlayerStep k (walk e).audio) : (d.walkOn v k walk).audio.Follows v := by
  have told : d.audio.FeedStep (d.mapAudio (Audio.boundary k)).audio := d.audio.boundary_feeds k
  have agrees := told.roster ▸ h.agree.roster
  have closed := Desk.close_settled (Audio.heard_moveInvariant v) agrees ((Audio.heard_moveInvariant v).feeds told h.heard)
  have agree := (Desk.close_settled (Audio.spare_moveInvariant v) agrees
    ((Audio.spare_moveInvariant v).feeds told h.agree.settled.carried)).ampsAgree
  have follows : ((d.mapAudio (Audio.boundary k)).close v).audio.Follows v :=
    ⟨h.sound, agree, closed.carried, Desk.close_decided v _⟩
  have walked := (steps ((d.mapAudio (Audio.boundary k)).close v)).same
  exact (follows.of_amps (follows.agree.of_unit walked.amps walked.unserved walked.failOrder) walked.connections
    walked.amps).settle _ _

theorem Audio.Follows.restart (emptied : v.Emptied w) (h : d.audio.Follows v) : (d.restart w).audio.Follows w := by
  have sound : w.Sound := ⟨fun z _ => emptied.records z, fun z r at_ => by
    rw [emptied.records] at at_
    cases r <;> cases at_⟩
  have target (g : Fin 10) : w.target g = .none := View.target_none fun z mem =>
    (View.mem_candidates_iff.1 mem).2.2.1 (emptied.records z)
  have heard : d.audio.restart.Heard w := .of_suits (fun g i _ => by
    rw [target]
    exact Amp.suits_none (d.audio.restart_silent i)) fun i _ => (Amp.suits_none (d.audio.restart_silent i)).2
  have spare : d.audio.restart.Spare := fun i _ => d.audio.restart_silent i
  have agrees : d.audio.restart.roster.Agrees := d.audio.restart_roster ▸ h.agree.roster
  rw [← Desk.mapAudio_audio d Audio.restart] at heard agrees spare
  have finished := Desk.finish_follows sound agrees
    (Desk.finish_settled (Audio.spare_moveInvariant w) agrees spare).ampsAgree heard
  rw [Desk.restart_audio]
  generalize ((d.mapAudio Audio.restart).finish w).audio = a at finished
  rw [(a.refreshFrom_shifted d.audio.image).eq]
  exact finished.of_amps (finished.agree.of_unit rfl rfl rfl) rfl rfl

theorem follows_unitInvariant : UnitInvariant Audio.Follows where
  alike {v w a} alike h := by
    have changed := alike.changed h.sound a
    exact ⟨changed.sound, h.agree,
      .of_suits (fun g i served => changed.target_rank h.sound h.decided (by simp) ▸ h.heard.suits served)
        fun i _ => h.heard.held i, h.decided.rezoned h.sound changed rfl⟩
  pool step h := h.of_amps (ampsAgree_unitInvariant.pool (v := State.reset.view) step h.agree) step.same.connections step.same.amps
  shifted {v a b} step h := by
    have agree := ampsAgree_unitInvariant.shifted (v := v) step h.agree
    rw [step.eq] at agree ⊢
    exact h.of_amps agree rfl rfl
  storeSize range h := h.of_amps (h.agree.of_unit rfl rfl rfl) rfl rfl
  tick pins h := h.of_carries (h.agree.of_alike (Audio.tick_roster _ pins) (Audio.tick_carries _ pins)) rfl
    (Audio.servers_of_roster (Audio.tick_roster _ pins)) (Audio.tick_carries _ pins)
  rezoned {v w a} changed h :=
    ⟨changed.sound, h.agree,
      .of_suits (fun g i served => changed.target_rank h.sound h.decided (by simp) ▸ h.heard.suits served)
        fun i _ => h.heard.held i, h.decided.rezoned h.sound changed rfl⟩
  batch {v w d batch} changed h := by
    refine Desk.finish_follows changed.sound ?_ (ampsAgree_unitInvariant.batch changed h.agree) ?_
    · rw [Desk.mapAudio_audio, Audio.takeBatch_roster]
      exact h.agree.roster
    · rw [Desk.mapAudio_audio]
      exact h.heard.takeBatch h.agree.roster.coherent h.sound h.decided changed
  line {v w d} n configs records lines h := by
    have sound : w.Sound := ⟨fun z => by rw [configs, records]; exact h.sound.unused z,
      fun z r => by rw [records]; exact h.sound.program z r⟩
    refine Desk.finish_follows sound ?_ (ampsAgree_unitInvariant.line n configs records lines h.agree) ?_
    · rw [Desk.mapAudio_audio, Audio.retarget_roster]
      exact h.agree.roster
    · rw [Desk.mapAudio_audio]
      exact h.heard.retarget h.agree.roster.coherent h.sound sound n configs records lines
  settle before force h := h.settle before force
  walkOn steps h := h.walkOn steps
  giveBack {v d k i} recovered found h := by
    obtain ⟨standby, standing⟩ := Audio.standbyOf_some found
    refine Desk.finish_follows h.sound ?_ (ampsAgree_unitInvariant.giveBack recovered found h.agree) ?_
    · rw [Desk.mapAudio_audio, Audio.giveBack_roster]
      exact h.agree.roster.giveBack standby standing recovered
    · rw [Desk.mapAudio_audio]
      exact (Audio.heard_moveInvariant v).giveBack h.agree.roster.coherent standby standing h.heard
  faultChange {v d} i h :=
    Desk.finish_follows h.sound (Desk.faultChange_agrees i h.agree.roster)
      (ampsAgree_unitInvariant.faultChange i h.agree)
      ((Audio.heard_moveInvariant v).faultChange i h.agree.roster.coherent h.heard)
  restart emptied h := h.restart emptied
  reset := ⟨State.reset_recordsResolved.sound, Audio.reset_ampsAgree,
    ⟨State.reset_feedsFollow.wanted, State.reset_feedsFollow.held⟩, State.reset_feedsFollow.connections⟩

end Follows

/-! ### O59 -/

/-- A CONNECTED zone hears at least its rank: its server is to carry the group's target, and carries no less. -/
theorem State.connectedHear_of_follows {s : State} (h : s.Has Audio.Follows) : s.ConnectedHear := fun z connected => by
  obtain ⟨sound, -, heard, decided⟩ := h
  have here := (decided z).symm.trans connected
  have hears {i : Fin 12} (served : s.audio.serverOf s.view.configs[z].duty = some i) :
      (s.view.target s.view.configs[z].duty).rank.value ≤ s.audio.amps[i].feed.rank.value := by
    obtain ⟨wanted, held⟩ := heard.suits served
    rw [← wanted, Amp.wanted]
    cases pending : s.audio.amps[i].pending with
    | none => exact Nat.le_refl _
    | some t => exact held t pending
  by_cases used : s.view.configs[z].kind = .unused
  · rw [Audio.decide_unused used] at here
    cases here
  · cases eligible : s.view.lines[z].state.eligible with
    | false =>
      rw [Audio.decide_out used eligible] at here
      split at here
      · cases here
      · cases here
    | true =>
      by_cases silent : s.view.records[z].rank = .none
      · rw [Audio.decide_silent used eligible silent] at here
        split at here
        · next keeps =>
          obtain ⟨i, served, -⟩ := Audio.groupPending_iff.1 keeps.2
          refine ⟨i, served, ?_⟩
          rw [show s.resolver.records[z].rank = .none from silent]
          exact Nat.zero_le _
        · cases here
      · rw [Audio.decide_ranked used eligible silent] at here
        split at here
        · cases here
        · next served =>
          obtain ⟨i, served⟩ := Option.ne_none_iff_exists'.1 served
          exact ⟨i, served, (View.le_target sound.program _ (View.mem_candidates_iff.2 ⟨rfl, used, silent, eligible⟩)).trans
            (hears served)⟩

/-- Settles O59, by the invariants of the audio side's events: bounds, image, agreement of the amplifier records, and the
feeds that follow the records. -/
theorem audioIsKept : Obligations.AudioIsKept := by
  unfold Obligations.AudioIsKept
  intro s t stepped
  refine ⟨fun bounded => bounded_unitInvariant.stepInvariant.step bounded stepped, fun image => ?_,
    fun agree => ampsAgree_unitInvariant.stepInvariant.step agree stepped, fun resolved agree follow => ?_⟩
  · exact (State.imageFollows_iff t).2
      (imageTrue_unitInvariant.stepInvariant.step ((State.imageFollows_iff s).1 image) stepped)
  · have follows : s.Has Audio.Follows := ⟨resolved.sound, agree, ⟨follow.wanted, follow.held⟩, follow.connections⟩
    have next := follows_unitInvariant.stepInvariant.step follows stepped
    exact ⟨⟨next.heard.wanted, next.heard.held, next.decided⟩, State.connectedHear_of_follows next⟩

end Sys2Proof.Machine
end

section
/-! SUPPORT. The walks of players one operation at a time (R147 to R151), and the unit where no standby stands in. -/

namespace Sys2Proof.Machine

open Sys2Proof Function

/-! ### Operations on one walk -/

/-- Of the audio side only player `k`, the requests and the fetch in flight have changed. -/
structure Audio.OnlyWalk (k : Fin 6) (a b : Audio) : Prop where
  eq : b = { a with
    players := a.players.set k b.players[k]
    store := { a.store with requests := b.store.requests, fetch := b.store.fetch } }

theorem Audio.OnlyPlayer.walk {k : Fin 6} {a b : Audio} (h : a.OnlyPlayer k b) : a.OnlyWalk k b := by
  have store : b.store = { a.store with requests := b.store.requests } := congrArg Audio.store h.eq
  refine ⟨h.eq.trans ?_⟩
  rw [store]

section OnlyWalk
variable {k : Fin 6} {a b c : Audio}

theorem Audio.OnlyWalk.trans (h : a.OnlyWalk k b) (g : b.OnlyWalk k c) : a.OnlyWalk k c := by
  have same : b.players.set k c.players[k] = a.players.set k c.players[k] := by
    rw [h.eq]
    exact Vector.set_set ..
  refine ⟨g.eq.trans ?_⟩
  rw [same, h.eq]

variable (h : a.OnlyWalk k b)
include h

theorem Audio.OnlyWalk.other {j : Fin 6} (other : j ≠ k) : b.players[j] = a.players[j] := by
  rw [h.eq]
  show (a.setPlayer k b.players[k]).players[j] = _
  rw [Audio.setPlayer_players, if_neg other.symm]

theorem Audio.OnlyWalk.amps : b.amps = a.amps := by rw [h.eq]

theorem Audio.OnlyWalk.demand : b.demand = a.demand := by rw [h.eq]

theorem Audio.OnlyWalk.segments : b.segments = a.segments := by rw [h.eq]

theorem Audio.OnlyWalk.programs : b.programs = a.programs := by rw [h.eq]

theorem Audio.OnlyWalk.size : b.store.size = a.store.size := by rw [h.eq]

end OnlyWalk

section Walks
variable (a : Audio) (k : Fin 6)

theorem Audio.leaveEntry_only : a.OnlyWalk k (a.leaveEntry k) := by
  refine ⟨?_⟩
  unfold Audio.leaveEntry
  dsimp only
  rw [Audio.setPlayer_same]
  rfl

theorem Audio.beginRepetition_only : a.OnlyPlayer k (a.beginRepetition k) := by
  unfold Audio.beginRepetition
  split
  · exact .refl a
  · split
    · exact (a.setWalk_only _).trans (Audio.request_only _ _)
    · exact a.setWalk_only _

theorem Audio.clearPages_only : a.OnlyPlayer k (a.clearPages k) := a.setPlayer_only _

theorem Audio.nextRepetition_only : a.OnlyWalk k (a.nextRepetition k) := by
  have cleared := a.clearPages_only k
  unfold Audio.nextRepetition
  dsimp only
  split
  · exact cleared.walk
  · exact (cleared.trans ((Audio.setWalk_only _ _).trans (Audio.beginRepetition_only _ k))).walk

theorem Audio.enter_only (i : Fin 128) : a.OnlyWalk k (a.enter k i) := by
  have left := a.leaveEntry_only k
  unfold Audio.enter
  dsimp only
  split
  · exact left
  · exact left.trans ((Audio.setWalk_only _ _).trans (Audio.beginRepetition_only _ k)).walk

end Walks

/-- A walk at the beginning of a repetition of a segment (R141, R148, R149). -/
def Walk.begun (w : Walk) : Segment → Walk
  | .clip _ _ _ _ _ => { w with
      output := .startWait, generator := none
      clip := w.clip.map fun c => { c with position := 0, abandoned := false } }
  | segment => { w with output := .segment, generator := segment.generator }

/-- The page walk of a CLIP as it is entered (R148, R157). -/
def Segment.clipWalk : Segment → Option ClipWalk
  | .clip _ _ retries _ _ => some { retries := retries, position := 0, abandoned := false }
  | _ => none

/-- A walk as it enters a segment (R148). -/
def Walk.entered (w : Walk) (i : Fin 128) (segment : Segment) : Walk :=
  ({ w with current := some i, left := segment.repeats, clip := segment.clipWalk, toneSamples := 0 } : Walk).begun segment

theorem Walk.begun_program (w : Walk) (segment : Segment) :
    (w.begun segment).program = w.program ∧ (w.begun segment).releasing = w.releasing := by
  cases segment <;> exact ⟨rfl, rfl⟩

theorem Walk.entered_program (w : Walk) (i : Fin 128) (segment : Segment) :
    (w.entered i segment).program = w.program ∧ (w.entered i segment).releasing = w.releasing :=
  Walk.begun_program _ segment

section WalkSpecs
variable {a : Audio} {k : Fin 6} {w : Walk} (walk : a.players[k].walk = some w)
include walk

theorem Audio.beginRepetition_walk : (a.beginRepetition k).players[k].walk = some (w.begun (a.segmentOf w)) := by
  unfold Audio.beginRepetition
  rw [walk]
  dsimp only
  cases a.segmentOf w <;> exact congrArg Player.walk (a.setWalk_same _)

theorem Audio.nextRepetition_walk : (a.nextRepetition k).players[k].walk =
    some (({ w with left := w.left - 1, toneSamples := 0 } : Walk).begun (a.segmentOf w)) := by
  have cleared : (a.clearPages k).players[k].walk = some w := by
    rw [Audio.clearPages, Audio.setPlayer_same]
    exact walk
  unfold Audio.nextRepetition
  dsimp only
  rw [cleared]
  exact Audio.beginRepetition_walk (congrArg Player.walk (Audio.setWalk_same _ _))

theorem Audio.enter_walk (i : Fin 128) : (a.enter k i).players[k].walk = some (w.entered i a.segments[i]) := by
  have left := (a.leaveEntry_walk k).trans walk
  unfold Audio.enter
  dsimp only
  rw [left]
  exact Audio.beginRepetition_walk (congrArg Player.walk (Audio.setWalk_same _ _))

end WalkSpecs

/-! ### The unit where no standby stands in -/

/-- No standby stands in for an amplifier. -/
def Audio.Alone (a : Audio) : Prop :=
  ∀ i ∈ standbys, ∀ g, a.roster.state i ≠ .standingIn g

/-- Some amplifiers have taken their pending targets; the players, the demand list, the tables and the store are as they were. -/
structure Audio.UnitOnly (a b : Audio) : Prop where
  feeds : a.FeedStep b
  players : b.players = a.players
  demand : b.demand = a.demand
  segments : b.segments = a.segments
  programs : b.programs = a.programs
  store : b.store = a.store

theorem Audio.UnitOnly.trans {a b c : Audio} (h : a.UnitOnly b) (g : b.UnitOnly c) : a.UnitOnly c where
  feeds := h.feeds.trans g.feeds
  players := g.players.trans h.players
  demand := g.demand.trans h.demand
  segments := g.segments.trans h.segments
  programs := g.programs.trans h.programs
  store := g.store.trans h.store

theorem Audio.UnitOnly.of_amps {a b : Audio} (feeds : a.FeedStep b) (only : a.OnlyAmps b) : a.UnitOnly b := by
  have eq := only.eq
  exact ⟨feeds, by rw [eq], by rw [eq], by rw [eq], by rw [eq], by rw [eq]⟩

section UnitOnly
variable (a : Audio)

theorem Audio.boundary_unitOnly (k : Fin 6) : a.UnitOnly (a.boundary k) := .of_amps (a.boundary_feeds k) (a.boundary_onlyAmps k)

theorem Audio.losses_unitOnly (before : Vector (Option (Fin 16)) 6) : a.UnitOnly (Audio.losses before a) :=
  .of_amps (a.losses_feeds before) (a.losses_onlyAmps before)

theorem Audio.setImage_unitOnly (img : Image) : a.UnitOnly (a.setImage img) := by
  unfold Audio.setImage Audio.refresh
  split
  · exact ⟨.refl a, rfl, rfl, rfl, rfl, rfl⟩
  · split
    · exact ⟨.of_amps rfl rfl rfl, rfl, rfl, rfl, rfl, rfl⟩
    · exact ⟨.of_amps rfl rfl rfl, rfl, rfl, rfl, rfl, rfl⟩

theorem Audio.decideAll_unitOnly (v : View) : a.UnitOnly (a.decideAll v) := by
  unfold Audio.decideAll
  exact ⟨.of_amps rfl rfl rfl, rfl, rfl, rfl, rfl, rfl⟩

theorem Audio.decideImage_unitOnly (v : View) : a.UnitOnly (a.decideImage v) :=
  (a.decideAll_unitOnly v).trans (Audio.setImage_unitOnly _ _)

end UnitOnly

theorem Audio.Alone.feedStep {a b : Audio} (h : a.Alone) (step : a.FeedStep b) : b.Alone := by
  rw [Audio.Alone, step.roster]
  exact h

/-- Without a standby that stands in, the end of an event only decides zones and stores the image. -/
theorem Desk.close_alone {v : View} {d : Desk} (h : d.audio.Alone) : d.close v = d.mapAudio (Audio.decideImage v) := by
  have stays (i : Fin 12) (standby : i ∈ standbys) : d.returnOf v i = d := by
    rcases d.returnOf_cases v i with ⟨k, due, -⟩ | ⟨-, eq⟩
    · exact absurd due.standing (h i standby k)
    · exact eq
  rw [Desk.close_eq, stays 10 (by decide), stays 11 (by decide)]

/-- What passes of the pool and events of the unit without returns keep, settling keeps. -/
theorem Desk.settle_alone {v : View} {P : Desk → Prop} (pass : ∀ d, P d → P (d.pass v))
    (unit : ∀ (d : Desk) (b : Audio), d.audio.UnitOnly b → P d → P { d with audio := b }) (fuel : Nat)
    (before : Vector (Option (Fin 16)) 6) (force : Bool) {d : Desk} (alone : d.audio.Alone) (h : P d) :
    P (d.settle v fuel before force) := by
  refine (Desk.settle_induction (P := fun e => e.audio.Alone ∧ P e) (fun before e kept => ?_) fuel before force
    ⟨alone, h⟩).2
  have passed : (e.pass v).audio.Alone := kept.1.feedStep (.of_same (e.pass_same v))
  have lost := (e.pass v).audio.losses_unitOnly before
  have told : ((e.pass v).mapAudio (Audio.losses before)).audio.Alone := passed.feedStep lost.feeds
  rw [Desk.round, Desk.close_alone told]
  have decided := lost.trans (Audio.decideImage_unitOnly _ v)
  exact ⟨passed.feedStep decided.feeds, unit (e.pass v) _ decided (pass e kept.2)⟩

/-- A boundary told to the unit where no standby stands in. -/
theorem Desk.told_alone {v : View} {d : Desk} (h : d.audio.Alone) (k : Fin 6) :
    ∃ b, d.audio.UnitOnly b ∧ (d.audio.boundary k).UnitOnly b ∧
      (d.mapAudio (Audio.boundary k)).close v = { d with audio := b } := by
  have boundary := d.audio.boundary_unitOnly k
  refine ⟨_, boundary.trans (Audio.decideImage_unitOnly _ v), Audio.decideImage_unitOnly _ v, ?_⟩
  exact Desk.close_alone (d := d.mapAudio (Audio.boundary k)) (h.feedStep boundary.feeds)

end Sys2Proof.Machine
end

section
/-! SUPPORT. Passes of the pool (R133 to R136): programs that no server is to carry, and programs that are BROKEN. -/

namespace Sys2Proof.Machine

open Sys2Proof Function

/-! ### The demand list (R133) -/

theorem mem_insertBy {α : Type} {before : α → α → Bool} {x y : α} {l : List α} :
    y ∈ insertBy before x l ↔ y = x ∨ y ∈ l := by
  induction l with
  | nil => simp [insertBy]
  | cons z l ih =>
    unfold insertBy
    split
    · rw [List.mem_cons]
    · rw [List.mem_cons, ih, List.mem_cons]
      exact or_left_comm

theorem mem_sortBy {α : Type} {before : α → α → Bool} {y : α} {l : List α} : y ∈ sortBy before l ↔ y ∈ l := by
  have general (acc : List α) : y ∈ l.foldl (fun acc x => insertBy before x acc) acc ↔ y ∈ l ∨ y ∈ acc := by
    induction l generalizing acc with
    | nil => simp
    | cons x l ih =>
      rw [List.foldl_cons, ih, mem_insertBy, List.mem_cons]
      tauto
  rw [sortBy, general]
  simp

/-- A demand made of feeds is for a program that one of them names. -/
theorem View.joinDemand_some {v : View} {p : Fin 16} {acc : Option Demand} {f : Feed} {d : Demand}
    (joined : v.joinDemand p acc f = some d) : (d.program = p ∧ f.program? = some p) ∨ ∃ e, acc = some e ∧ d.program = e.program := by
  unfold View.joinDemand at joined
  split at joined
  · next r q key =>
    split at joined
    · next same =>
      split at joined
      · cases joined
        exact .inl ⟨rfl, congrArg some same⟩
      · next e =>
        split at joined
        · cases joined
          exact .inl ⟨rfl, congrArg some same⟩
        · split at joined
          · cases joined
            exact .inr ⟨_, rfl, rfl⟩
          · cases joined
            exact .inr ⟨_, rfl, rfl⟩
    · exact .inr ⟨d, joined, rfl⟩
  · exact .inr ⟨d, joined, rfl⟩

theorem View.demand_named {v : View} {p : Fin 16} {feeds : List Feed} {d : Demand}
    (made : feeds.foldl (v.joinDemand p) none = some d) : d.program = p ∧ ∃ f ∈ feeds, f.program? = some p := by
  have general : ∀ (l : List Feed) (acc : Option Demand), l.foldl (v.joinDemand p) acc = some d →
      (d.program = p ∧ ∃ f ∈ l, f.program? = some p) ∨ ∃ e, acc = some e ∧ d.program = e.program := by
    intro l
    induction l with
    | nil => exact fun acc made => .inr ⟨d, made, rfl⟩
    | cons f l ih =>
      intro acc made
      rcases ih _ made with ⟨program, g, mem, named⟩ | ⟨e, joined, program⟩
      · exact .inl ⟨program, g, List.mem_cons_of_mem _ mem, named⟩
      · rcases View.joinDemand_some joined with ⟨program', named⟩ | ⟨e', start, program'⟩
        · exact .inl ⟨program.trans program', f, List.mem_cons_self, named⟩
        · exact .inr ⟨e', start, program.trans program'⟩
  exact (general feeds none made).resolve_right fun ⟨e, start, _⟩ => nomatch start

theorem Audio.mem_demandOf {v : View} {a : Audio} {d : Demand} (mem : d ∈ a.demandOf v) :
    ∃ i : Fin 12, a.amps[i].wanted.program? = some d.program := by
  rw [Audio.demandOf, mem_sortBy] at mem
  obtain ⟨p, -, made⟩ := List.mem_filterMap.1 mem
  obtain ⟨program, f, listed, named⟩ := View.demand_named made
  obtain ⟨x, mem', rfl⟩ := List.mem_map.1 listed
  obtain ⟨i, hi, rfl⟩ := List.mem_iff_getElem.1 mem'
  rw [Vector.length_toList] at hi
  have at_ : a.amps.toList[i] = a.amps[(⟨i, hi⟩ : Fin 12)] := Vector.getElem_toList _
  rw [at_] at named
  exact ⟨⟨i, hi⟩, named.trans (congrArg some program.symm)⟩

/-! ### Programs that no player holds -/

/-- No player holds the program. -/
def Audio.Unheld (p : Fin 16) (a : Audio) : Prop :=
  ∀ j : Fin 6, a.held j ≠ some p

/-- No amplifier carries the program, as its feed or as its pending target. -/
def Audio.Unnamed (p : Fin 16) (a : Audio) : Prop :=
  ∀ i : Fin 12, a.amps[i].feed.program? ≠ some p ∧ ∀ t, a.amps[i].pending = some t → t.program? ≠ some p

section Programs
variable {a b : Audio} {p : Fin 16} {k : Fin 6}

theorem Audio.playerOf_none_iff : a.playerOf p = none ↔ a.Unheld p := by
  rw [Audio.playerOf_eq_held, List.find?_eq_none]
  exact ⟨fun none j => by simpa using none j (List.mem_finRange j), fun none j _ => by simpa using none j⟩

theorem Audio.playerOf_held (held : a.playerOf p = some k) : a.held k = some p := by
  obtain ⟨w, walk, program⟩ := Audio.playerOf_some held
  rw [Audio.held, walk, ← program]
  rfl

theorem Audio.Unheld.of_players (h : a.Unheld p) (players : b.players = a.players) : b.Unheld p := fun j => by
  rw [Audio.held_of_players players]
  exact h j

theorem Audio.Unheld.step (h : a.Unheld p) (step : a.PlayerStep k b) : b.Unheld p := fun j => by
  rcases step.held j with kept | ⟨-, lost⟩
  · rw [kept]
    exact h j
  · rw [lost]
    exact nofun

theorem Audio.Unnamed.feedStep (h : a.Unnamed p) (step : a.FeedStep b) : b.Unnamed p := fun i => by
  rcases step.amps i with same | ⟨t, pending, took⟩
  · rw [same]
    exact h i
  · rw [took]
    exact ⟨(h i).2 t pending, nofun⟩

theorem Audio.Unnamed.demand (h : a.Unnamed p) {v : View} {d : Demand} (mem : d ∈ a.demandOf v) : d.program ≠ p := by
  rintro rfl
  obtain ⟨i, named⟩ := Audio.mem_demandOf mem
  rw [Amp.wanted] at named
  cases pending : a.amps[i].pending with
  | none =>
    rw [pending] at named
    exact (h i).1 named
  | some t =>
    rw [pending] at named
    exact (h i).2 t pending named

/-- Of a program no amplifier carries, no boundary is awaited. -/
theorem Audio.Unnamed.awaited (h : a.Unnamed p) (held : a.held k = some p) : a.awaited k = false := by
  refine Bool.eq_false_iff.2 fun awaited => ?_
  obtain ⟨i, -, waits⟩ := List.any_eq_true.1 awaited
  rw [Bool.and_eq_true, decide_eq_true_eq] at waits
  obtain ⟨q, named, player⟩ := Option.bind_eq_some_iff.1 waits.2
  have same : some q = some p := (Audio.playerOf_held player).symm.trans held
  exact (h i).1 (named.trans same)

/-! ### A pass (R134, R136) -/

/-- A player whose program no server is to carry becomes IDLE. -/
theorem Audio.release_idles (unnamed : a.Unnamed p) (demand : ∀ d ∈ a.demand, d.program ≠ p) (held : a.held k = some p) :
    (a.release k).held k = none := by
  obtain ⟨w, walk, program⟩ := Option.map_eq_some_iff.1 held
  have undemanded : (a.demand.any fun d => d.program = w.program) = false := by
    rw [List.any_eq_false]
    intro d mem same
    exact demand d mem ((of_decide_eq_true same).trans program)
  unfold Audio.release
  rw [walk]
  dsimp only
  rw [undemanded, unnamed.awaited held]
  rw [if_neg nofun, if_neg nofun, Audio.held, Audio.idlePlayer, Audio.setWalk_same]
  rfl

theorem Audio.release_demand (a : Audio) (k : Fin 6) : (a.release k).demand = a.demand := by
  unfold Audio.release
  split
  · rfl
  · split
    · rfl
    · split
      · rfl
      · rfl

theorem Audio.release_programs (a : Audio) (k : Fin 6) : (a.release k).programs = a.programs := by
  unfold Audio.release
  split
  · rfl
  · split
    · rfl
    · split
      · rfl
      · rfl

/-- After the release of every player, none holds a program that no server is to carry. -/
theorem Audio.releaseAll_unheld (unnamed : a.Unnamed p) (demand : ∀ d ∈ a.demand, d.program ≠ p) :
    ((List.finRange 6).foldl (fun a k => a.release k) a).Unheld p := by
  have general : ∀ (l : List (Fin 6)) (b : Audio), b.Unnamed p → (∀ d ∈ b.demand, d.program ≠ p) →
      ∀ j, (j ∈ l ∨ b.held j ≠ some p) → (l.foldl (fun a k => a.release k) b).held j ≠ some p := by
    intro l
    induction l with
    | nil => exact fun b _ _ j out => out.resolve_left List.not_mem_nil
    | cons k l ih =>
      intro b unnamed demand j out
      have step := b.release_step k
      refine ih _ (unnamed.feedStep (.of_same step.same)) (by rwa [Audio.release_demand]) j ?_
      by_cases later : j ∈ l
      · exact .inl later
      · right
        by_cases here : b.held j = some p
        · have same : j = k := (List.mem_cons.1 (out.resolve_right (not_not.2 here))).resolve_right later
          subst same
          rw [Audio.release_idles unnamed demand here]
          exact nofun
        · rcases step.held j with kept | ⟨-, lost⟩
          · rw [kept]
            exact here
          · rw [lost]
            exact nofun
  exact fun j => general _ a unnamed demand j (.inl (List.mem_finRange j))

theorem Audio.take_held (v : View) (a : Audio) (k j : Fin 6) (q : Fin 16) :
    (a.take v k q).held j = if k = j then some q else (a.leaveEntry k).held j := by
  rw [Audio.held, Audio.take, Audio.setWalk_players]
  split <;> rfl

theorem Audio.Unheld.take (h : a.Unheld p) (v : View) {q : Fin 16} (other : q ≠ p) : (a.take v k q).Unheld p := fun j => by
  rw [Audio.take_held]
  split
  · exact fun same => other (Option.some.inj same)
  · exact (h.step (a.leaveEntry_step k)) j

theorem Audio.take_programs (v : View) (a : Audio) (k : Fin 6) (q : Fin 16) : (a.take v k q).programs = a.programs := rfl

/-- An allocation gives no player a program that is not demanded, or is BROKEN. -/
theorem Audio.Unheld.allocate (v : View) {l : List Demand} {taken : List (Fin 6)} (h : a.Unheld p)
    (never : (∀ d ∈ l, d.program ≠ p) ∨ a.programs[p].broken = true) :
    (Audio.allocate v l a taken).1.Unheld p ∧ (Audio.allocate v l a taken).1.programs = a.programs := by
  induction l generalizing a taken with
  | nil => exact ⟨h, rfl⟩
  | cons d lower ih =>
    have later (b : Audio) (same : b.programs = a.programs) :
        (∀ d ∈ lower, d.program ≠ p) ∨ b.programs[p].broken = true := by
      rw [same]
      exact never.imp_left fun none e mem => none e (List.mem_cons_of_mem _ mem)
    unfold Audio.allocate
    split
    · exact ih h (later a rfl)
    · next free =>
      rw [Bool.or_eq_true, not_or] at free
      have other : d.program ≠ p := by
        rcases never with none | broken
        · exact none d List.mem_cons_self
        · rintro rfl
          exact free.1 broken
      split
      · next k _ =>
        obtain ⟨unheld, programs⟩ := ih (taken := taken ++ [k]) (h.take (k := k) v other) (later _ (a.take_programs v k _))
        exact ⟨unheld, programs⟩
      · exact ih h (later a rfl)

end Programs

section Pass
variable {v : View} {d : Desk} {p : Fin 16}

/-- The audio side when the players of a pass have been allocated, before they begin their walks. -/
def Desk.allocated (v : View) (d : Desk) : Audio × List (Fin 6) :=
  Audio.allocate v (d.audio.demandOf v)
    ((List.finRange 6).foldl (fun a k => a.release k) { d.audio with demand := d.audio.demandOf v }) []

theorem Desk.pass_eq (v : View) (d : Desk) :
    d.pass v = (d.allocated v).2.foldl (fun d k => d.passStart k) { d with audio := (d.allocated v).1 } := rfl

/-- After a pass no player holds a program that no amplifier carries. -/
theorem Desk.pass_unheld (unnamed : d.audio.Unnamed p) : (d.pass v).audio.Unheld p := by
  have demand : ∀ e ∈ d.audio.demandOf v, e.program ≠ p := fun e mem => unnamed.demand mem
  have released := Audio.releaseAll_unheld (a := { d.audio with demand := d.audio.demandOf v }) unnamed demand
  have allocated : (d.allocated v).1.Unheld p := (released.allocate v (.inl demand)).1
  rw [Desk.pass_eq]
  exact List.foldlRecOn (motive := fun e : Desk => e.audio.Unheld p) _ _ allocated fun e unheld k _ =>
    unheld.step (e.passStart_step k)

/-- A program is BROKEN, reported, and held by none. -/
structure Desk.Broke (p : Fin 16) (d : Desk) : Prop where
  broken : d.audio.programs[p].broken = true
  raised : p ∈ d.notices.programBroken
  unheld : d.audio.Unheld p

theorem Notices.mem_raiseProgramBroken {n : Notices} {p q : Fin 16} :
    q ∈ (n.raiseProgramBroken p).programBroken ↔ q = p ∨ q ∈ n.programBroken := mem_addMember _ _ _

theorem Audio.leaveEntry_programs (a : Audio) (k : Fin 6) : (a.leaveEntry k).programs = a.programs := (a.leaveEntry_only k).programs

theorem Audio.idlePlayer_programs (a : Audio) (k : Fin 6) : (a.idlePlayer k).programs = a.programs := a.leaveEntry_programs k

/-- Another program that fails its check leaves this one BROKEN. -/
theorem Desk.Broke.breakProgram {k : Fin 6} (h : d.Broke p) : (d.breakProgram k).Broke p := by
  have unheld := h.unheld.step (d.breakProgram_step k)
  unfold Desk.breakProgram at unheld ⊢
  split
  · exact h
  · next w walk =>
    rw [walk] at unheld
    refine ⟨?_, Notices.mem_raiseProgramBroken.2 (.inr h.raised), unheld⟩
    dsimp only
    rw [Audio.idlePlayer_programs]
    dsimp only
    by_cases same : w.program = p
    · subst same
      simp
    · have kept : (d.audio.programs.set w.program { d.audio.programs[w.program] with broken := true })[p] =
          d.audio.programs[p] := by
        simp only [Fin.getElem_fin]
        exact Vector.getElem_set_ne _ _ fun eq => same (Fin.ext eq)
      rw [kept]
      exact h.broken

theorem Desk.Broke.passStart {k : Fin 6} (h : d.Broke p) : (d.passStart k).Broke p := by
  unfold Desk.passStart
  split
  · exact h
  · split
    · next i _ =>
      unfold Desk.enterSegment
      split
      · refine ⟨?_, h.raised, h.unheld.step (d.audio.enter_step k i)⟩
        rw [Desk.mapAudio_audio, (d.audio.enter_only k i).programs]
        exact h.broken
      · exact h.breakProgram
    · exact h.breakProgram

theorem Audio.releaseAll_programs (a : Audio) (l : List (Fin 6)) :
    (l.foldl (fun a k => a.release k) a).programs = a.programs :=
  List.foldlRecOn (motive := fun b : Audio => b.programs = a.programs) _ _ rfl fun b same k _ =>
    (b.release_programs k).trans same

theorem Audio.Unheld.releaseAll {a : Audio} (h : a.Unheld p) (l : List (Fin 6)) :
    (l.foldl (fun a k => a.release k) a).Unheld p :=
  List.foldlRecOn (motive := Audio.Unheld p) _ _ h fun b unheld k _ => unheld.step (b.release_step k)

/-- A BROKEN program stays so through a pass, and no player takes it (R134, R151). -/
theorem Desk.Broke.pass (h : d.Broke p) : (d.pass v).Broke p := by
  have demanded : ({ d.audio with demand := d.audio.demandOf v } : Audio).Unheld p := h.unheld.of_players rfl
  have programs := Audio.releaseAll_programs { d.audio with demand := d.audio.demandOf v } (List.finRange 6)
  have allocated := (demanded.releaseAll (List.finRange 6)).allocate v (l := d.audio.demandOf v) (taken := [])
    (.inr (by rw [programs]; exact h.broken))
  have start : ({ d with audio := (d.allocated v).1 } : Desk).Broke p := by
    refine ⟨?_, h.raised, allocated.1⟩
    have same : (d.allocated v).1.programs = d.audio.programs := allocated.2.trans programs
    show (d.allocated v).1.programs[p].broken = true
    rw [same]
    exact h.broken
  rw [Desk.pass_eq]
  exact List.foldlRecOn (motive := Desk.Broke p) _ _ start fun e broke k _ => broke.passStart

theorem Desk.Broke.unit (h : d.Broke p) {b : Audio} (only : d.audio.UnitOnly b) : ({ d with audio := b } : Desk).Broke p := by
  refine ⟨?_, h.raised, h.unheld.of_players only.players⟩
  show b.programs[p].broken = true
  rw [only.programs]
  exact h.broken

/-- A BROKEN program stays so while the pool settles. -/
theorem Desk.Broke.settle (h : d.Broke p) (alone : d.audio.Alone) (fuel : Nat) (before : Vector (Option (Fin 16)) 6)
    (force : Bool) : (d.settle v fuel before force).Broke p :=
  Desk.settle_alone (P := Desk.Broke p) (fun _ broke => broke.pass) (fun _ _ only broke => broke.unit only) fuel before
    force alone h

/-- A program that no amplifier carries is held by none once a pass has been made. -/
theorem Desk.settle_unheld (unnamed : d.audio.Unnamed p) (alone : d.audio.Alone) (before : Vector (Option (Fin 16)) 6)
    {force : Bool} (due : force = true ∨ d.audio.releaseDone = true) :
    (d.settle v settleFuel before force).audio.Unheld p := by
  obtain ⟨held, failed, next⟩ : ∃ held failed, d.settle v settleFuel before force = Desk.settle v 63 held failed (d.round v before) :=
    ⟨_, _, if_pos (by rcases due with due | due <;> simp [due])⟩
  have passed : (d.pass v).audio.Alone := alone.feedStep (.of_same (d.pass_same v))
  have lost := (d.pass v).audio.losses_unitOnly before
  have decided := lost.trans (Audio.decideImage_unitOnly _ v)
  have round : d.round v before = { d.pass v with audio := Audio.decideImage v (Audio.losses before (d.pass v).audio) } :=
    Desk.close_alone (d := (d.pass v).mapAudio (Audio.losses before)) (passed.feedStep lost.feeds)
  have named : (d.pass v).audio.Unnamed p := unnamed.feedStep (.of_same (d.pass_same v))
  rw [next, round]
  exact (Desk.settle_alone (P := fun e => e.audio.Unnamed p ∧ e.audio.Unheld p)
    (fun e kept => ⟨kept.1.feedStep (.of_same (e.pass_same v)), Desk.pass_unheld kept.1⟩)
    (fun e b only kept => ⟨kept.1.feedStep only.feeds, kept.2.of_players only.players⟩) 63 held failed
    (passed.feedStep decided.feeds)
    ⟨named.feedStep decided.feeds, (Desk.pass_unheld unnamed).of_players decided.players⟩).2

end Pass

end Sys2Proof.Machine
end

section
/-! SUPPORT. A boundary reported and the walk carried on, where no standby stands in (R120, R136, R148 to R151). -/

namespace Sys2Proof.Machine

open Sys2Proof Function

/-! ### What an operation on a walk may do -/

/-- An operation on the walk of player `k`: it keeps the program and the RELEASING mark, or the player goes IDLE. -/
structure WalkOp (k : Fin 6) (walk : Desk → Desk) : Prop where
  step : ∀ e : Desk, e.audio.PlayerStep k (walk e).audio
  keeps : ∀ (e : Desk) (w : Walk), e.audio.players[k].walk = some w → (walk e).audio.players[k].walk = none ∨
    ∃ w', (walk e).audio.players[k].walk = some w' ∧ w'.program = w.program ∧ w'.releasing = w.releasing

section Ops
variable (k : Fin 6)

theorem WalkOp.nextRepetition : WalkOp k fun d => d.mapAudio fun a => a.nextRepetition k where
  step e := e.audio.nextRepetition_step k
  keeps _ _ walk := .inr ⟨_, Audio.nextRepetition_walk walk, Walk.begun_program _ _⟩

theorem Desk.breakProgram_walk (d : Desk) : (d.breakProgram k).audio.players[k].walk = none := by
  unfold Desk.breakProgram
  split
  · next idle => exact idle
  · exact congrArg Player.walk (Audio.setWalk_same _ _)

theorem WalkOp.enterSegment (i : Fin 128) : WalkOp k fun d => d.enterSegment k i where
  step e := e.enterSegment_step k i
  keeps e w walk := by
    unfold Desk.enterSegment
    split
    · exact .inr ⟨_, Audio.enter_walk walk i, Walk.entered_program w i _⟩
    · exact .inl (e.breakProgram_walk k)

theorem WalkOp.passStart : WalkOp k fun d => d.passStart k where
  step e := e.passStart_step k
  keeps e w walk := by
    unfold Desk.passStart
    rw [walk]
    dsimp only
    split
    · next i _ => exact (WalkOp.enterSegment k i).keeps e w walk
    · exact .inl (e.breakProgram_walk k)

/-- A pass counted, at the player that leaves its segment entry (R146, R149). -/
def Audio.passOver (a : Audio) (k : Fin 6) (w : Walk) : Audio :=
  (a.leaveEntry k).setWalk k (some { w with passes := satSucc 65535 w.passes })

theorem Audio.passOver_only (a : Audio) (w : Walk) : a.OnlyWalk k (a.passOver k w) :=
  (a.leaveEntry_only k).trans (Audio.setWalk_only _ _).walk

theorem Audio.passOver_walk (a : Audio) (w : Walk) :
    (a.passOver k w).players[k].walk = some { w with passes := satSucc 65535 w.passes } :=
  congrArg Player.walk (Audio.setWalk_same _ _)

theorem Desk.passEnd_eq {d : Desk} {w : Walk} (walk : d.audio.players[k].walk = some w) :
    d.passEnd k = (d.mapAudio fun a => a.passOver k w).passStart k := by
  unfold Desk.passEnd
  rw [walk]
  rfl

theorem WalkOp.passEnd : WalkOp k fun d => d.passEnd k where
  step e := e.passEnd_step k
  keeps e w walk := by
    show (e.passEnd k).audio.players[k].walk = none ∨ ∃ w', (e.passEnd k).audio.players[k].walk = some w' ∧ _
    rw [Desk.passEnd_eq k walk]
    exact (WalkOp.passStart k).keeps (e.mapAudio fun a => a.passOver k w) { w with passes := satSucc 65535 w.passes }
      (e.audio.passOver_walk k w)

end Ops

/-! ### The boundary and the release -/

section WalkOn
variable {v : View} {d : Desk} {k : Fin 6} (alone : d.audio.Alone)
include alone

/-- A boundary told, the walk carried on from there, and the pool settled. -/
theorem Desk.walkOn_told (v : View) (k : Fin 6) : ∃ b, d.audio.UnitOnly b ∧ (d.audio.boundary k).UnitOnly b ∧ ∀ walk : Desk → Desk,
    d.walkOn v k walk = (walk { d with audio := b }).settle v settleFuel b.holding
      (walk { d with audio := b }).audio.players[k].walk.isNone := by
  obtain ⟨b, only, after, told⟩ := Desk.told_alone (v := v) alone k
  exact ⟨b, only, after, fun walk => by rw [Desk.walkOn, told]⟩

variable {walk : Desk → Desk} (op : WalkOp k walk)
include op

/-- Each server the player delivers that holds a pending target switches to it. -/
theorem Desk.walkOn_switches {i : Fin 12} {t : Feed} (pending : d.audio.amps[i].pending = some t)
    (delivers : d.audio.delivererOf d.audio.amps[i].feed = some k) :
    (d.walkOn v k walk).audio.amps[i].carries = (t, none) := by
  obtain ⟨b, only, after, eq⟩ := Desk.walkOn_told alone v k
  have keeps {a c : Audio} (step : a.FeedStep c) (h : a.amps[i].carries = (t, none)) : c.amps[i].carries = (t, none) :=
    (step.carries (Amp.carries_eq h).2).trans h
  have switched : (d.audio.boundary k).amps[i].carries = (t, none) := by
    rw [d.audio.boundary_amps, Audio.pastBoundary_switches pending delivers]
    rfl
  have walked : b.FeedStep (walk { d with audio := b }).audio := .of_same (op.step { d with audio := b }).same
  rw [eq]
  exact Desk.settle_alone (P := fun e => e.audio.amps[i].carries = (t, none))
    (fun e h => keeps (.of_same (e.pass_same v)) h) (fun _ _ only h => keeps only.feeds h) _ _ _
    ((alone.feedStep only.feeds).feedStep walked) (keeps walked (keeps after.feeds switched))

omit alone op in
/-- Past its boundary no amplifier carries the program that no server is to carry any more. -/
theorem Audio.boundary_unnamed {a : Audio} {p : Fin 16} (player : a.playerOf p = some k)
    (unwanted : ∀ i : Fin 12, a.amps[i].wanted.program? ≠ some p) : (a.boundary k).Unnamed p := fun i => by
  have wanted := unwanted i
  rw [Amp.wanted] at wanted
  rw [a.boundary_amps]
  cases pending : a.amps[i].pending with
  | none =>
    rw [pending] at wanted
    rw [Audio.pastBoundary_stays (.inl pending), pending]
    exact ⟨wanted, nofun⟩
  | some t =>
    rw [pending] at wanted
    by_cases delivers : a.delivererOf a.amps[i].feed = some k
    · rw [Audio.pastBoundary_switches pending delivers]
      exact ⟨wanted, nofun⟩
    · rw [Audio.pastBoundary_stays (.inr delivers), pending]
      refine ⟨fun named => delivers ?_, ?_⟩
      · rw [Audio.delivererOf, named]
        exact player
      · rintro _ ⟨⟩
        exact wanted

/-- A RELEASING player whose program no server is to carry any more gives it up. -/
theorem Desk.walkOn_releases {w : Walk} (walks : d.audio.players[k].walk = some w) (releasing : w.releasing = true)
    (player : d.audio.playerOf w.program = some k)
    (unwanted : ∀ i : Fin 12, d.audio.amps[i].wanted.program? ≠ some w.program) :
    (d.walkOn v k walk).audio.Unheld w.program := by
  obtain ⟨b, only, after, eq⟩ := Desk.walkOn_told alone v k
  have same := (op.step { d with audio := b }).same
  have walked : b.FeedStep (walk { d with audio := b }).audio := .of_same same
  have unnamed := ((Audio.boundary_unnamed player unwanted).feedStep after.feeds).feedStep walked
  have told : ({ d with audio := b } : Desk).audio.players[k].walk = some w := by
    rw [← walks]
    exact congrArg (fun players : Vector Player 6 => players[k].walk) only.players
  have alone' := (alone.feedStep only.feeds).feedStep walked
  have kept := op.keeps _ w told
  rw [eq]
  generalize walk { d with audio := b } = e at unnamed kept alone'
  refine Desk.settle_unheld unnamed alone' _ ?_
  rcases kept with idle | ⟨w', walk', program, releasing'⟩
  · rw [idle]
    exact .inl rfl
  · have awaits : e.audio.awaited k = false := unnamed.awaited (by rw [Audio.held, walk', ← program]; rfl)
    refine .inr (List.any_eq_true.2 ⟨k, List.mem_finRange k, ?_⟩)
    rw [walk', awaits]
    dsimp only
    rw [releasing', releasing]
    rfl

end WalkOn

/-! ### A quiet audio side (R133, R136) -/

theorem Audio.demandOf_congr {a b : Audio} (v : View) (amps : b.amps = a.amps) : b.demandOf v = a.demandOf v := by
  rw [Audio.demandOf, Audio.demandOf, amps]

theorem Audio.nextOk_congr {a b : Audio} (segments : b.segments = a.segments) (n : Next) : b.nextOk n = a.nextOk n := by
  cases n with
  | segment i => rw [Audio.nextOk, Audio.nextOk, segments]
  | finish => rfl
  | restart => rfl

theorem Audio.consistent_congr {a b : Audio} (segments : b.segments = a.segments) (size : b.store.size = a.store.size)
    (i : Fin 128) : b.consistent i = a.consistent i := by
  unfold Audio.consistent
  rw [segments, size]
  split
  · rfl
  · exact Audio.nextOk_congr segments _
  · exact Audio.nextOk_congr segments _
  · rw [Audio.nextOk_congr segments]

/-- The audio side of `e` is quiet, and that of `d` but for the zones decided again and the image. -/
structure Desk.Told (v : View) (d e : Desk) : Prop where
  only : d.audio.UnitOnly e.audio
  amps : e.audio.amps = d.audio.amps
  notices : e.notices = d.notices

section Quiet
variable {s : State} (quiet : s.AudioQuiet)
include quiet

theorem State.AudioQuiet.alone : s.audio.Alone := quiet.standbys

/-- A boundary of a quiet audio side switches no server. -/
theorem State.AudioQuiet.told (k : Fin 6) : ∃ e : Desk, Desk.Told s.view { audio := s.audio, notices := s.notices } e ∧
    ∀ walk : Desk → Desk, s.walkOn k walk = s.onDesk fun v _ =>
      (walk e).settle v settleFuel e.audio.holding (walk e).audio.players[k].walk.isNone := by
  obtain ⟨b, only, -, eq⟩ := Desk.walkOn_told (d := { audio := s.audio, notices := s.notices }) quiet.alone s.view k
  have amps : b.amps = s.audio.amps := Vector.ext fun i hi => by
    rcases only.feeds.amps ⟨i, hi⟩ with same | ⟨t, pending, -⟩
    · exact same
    · have none := quiet.pending ⟨i, hi⟩
      rw [pending] at none
      cases none
  refine ⟨{ audio := b, notices := s.notices }, ⟨only, amps, rfl⟩, fun walk => ?_⟩
  rw [State.walkOn_eq, State.onDesk, State.onDesk, eq]

/-- A walk carried on at a quiet audio side, the pool left as it is: nothing is released and nothing demanded anew. -/
theorem State.AudioQuiet.walks {k : Fin 6} {e : Desk}
    (told : Desk.Told s.view { audio := s.audio, notices := s.notices } e) {f : Desk} (only : e.audio.OnlyWalk k f.audio)
    {w' : Walk} (walk : f.audio.players[k].walk = some w') (releasing : w'.releasing = false) (before : Vector (Option (Fin 16)) 6) :
    f.settle s.view settleFuel before f.audio.players[k].walk.isNone = f := by
  have demand : f.audio.demandOf s.view = f.audio.demand := by
    rw [Audio.demandOf_congr s.view only.amps, Audio.demandOf_congr s.view told.amps, only.demand, told.only.demand]
    exact quiet.demand.symm
  have done : f.audio.releaseDone = false := by
    rw [Audio.releaseDone, List.any_eq_false]
    intro j _
    by_cases here : j = k
    · rw [here, walk]
      dsimp only
      rw [releasing]
      exact nofun
    · rw [only.other here, told.only.players]
      cases held : s.audio.players[j].walk with
      | none => exact nofun
      | some x =>
        dsimp only
        rw [quiet.releasing j x held]
        exact nofun
  rw [walk]
  exact Desk.settle_idle _ _ demand done

end Quiet

end Sys2Proof.Machine
end

section
/-! O53: the end of a repetition (R112, R120, R134, R136, R146 to R151). -/

namespace Sys2Proof.Machine

open Sys2Proof Function

/-! ### A program that fails its check (R151) -/

theorem Desk.breakProgram_broke {d : Desk} {k : Fin 6} {w : Walk} (walk : d.audio.players[k].walk = some w)
    (holder : ∀ j, d.audio.held j = some w.program → j = k) : (d.breakProgram k).Broke w.program := by
  have step := d.breakProgram_step k
  have idle := d.breakProgram_walk k
  have unheld : (d.breakProgram k).audio.Unheld w.program := fun j => by
    by_cases here : j = k
    · rw [here, Audio.held, idle]
      exact nofun
    · rcases step.held j with kept | ⟨-, lost⟩
      · rw [kept]
        exact fun held => here (holder j held)
      · rw [lost]
        exact nofun
  unfold Desk.breakProgram at unheld ⊢
  rw [walk] at unheld ⊢
  refine ⟨?_, Notices.mem_raiseProgramBroken.2 (.inl rfl), unheld⟩
  dsimp only
  rw [Audio.idlePlayer_programs]
  simp

theorem State.walkOn_onlyAudio (s : State) (k : Fin 6) (walk : Desk → Desk) : s.OnlyAudio (s.walkOn k walk) := rfl

/-! ### What a REPETITION_END is -/

theorem exec_repetitionEnd (k : Fin 6) (s : State) : exec (.repetitionEnd k) s = execRepetitionEnd k s := rfl

section Ends
variable {k : Fin 6} {s : State} {w : Walk} {i : Fin 128}

theorem exec_repetitionEnd_idle (idle : s.audio.players[k].walk = none) : exec (.repetitionEnd k) s = .next s := by
  rw [exec_repetitionEnd, execRepetitionEnd, idle]

theorem exec_repetitionEnd_walk (walk : s.audio.players[k].walk = some w) :
    exec (.repetitionEnd k) s = if s.audio.repeating w then .next (s.repetitionOver k w) else .next s := by
  rw [exec_repetitionEnd, execRepetitionEnd, walk]

theorem Audio.repeating_waits {a : Audio} (waits : w.output = .startWait ∨ w.output = .underrun ∨ w.output = .endHold) :
    a.repeating w = false := by
  unfold Audio.repeating
  rcases waits with output | output | output
  · rw [output]
  · rw [output]
  · rw [output]

theorem State.repetitionOver_more (more : 1 < w.left) :
    s.repetitionOver k w = s.walkOn k fun d => d.mapAudio fun a => a.nextRepetition k := if_pos more

section Last
variable (last : w.left ≤ 1) (current : w.current = some i)
include last current

theorem State.repetitionOver_segment {j : Fin 128} (next : s.audio.segments[i].next = .segment j) :
    s.repetitionOver k w = s.walkOn k fun d => d.enterSegment k j := by
  unfold State.repetitionOver
  rw [if_neg (Nat.not_lt.2 last), Audio.segmentOf_current current, next]

theorem State.repetitionOver_pass (ends : s.audio.segments[i].next = .restart ∨
    (s.audio.segments[i].next = .finish ∧ s.audio.servesTest k = false)) :
    s.repetitionOver k w = s.walkOn k fun d => d.passEnd k := by
  unfold State.repetitionOver
  rw [if_neg (Nat.not_lt.2 last), Audio.segmentOf_current current]
  rcases ends with restart | ⟨finish, quiet⟩
  · rw [restart]
  · rw [finish]
    dsimp only
    rw [quiet]
    exact if_neg nofun

theorem State.repetitionOver_test (finish : s.audio.segments[i].next = .finish) (test : s.audio.servesTest k = true) :
    s.repetitionOver k w = s.testEnd k w.program := by
  unfold State.repetitionOver
  rw [if_neg (Nat.not_lt.2 last), Audio.segmentOf_current current, finish]
  exact if_pos test

end Last

/-- But for END on a TEST feed, what follows is an operation on the walk. -/
theorem State.repetitionOver_walkOn (current : w.current = some i)
    (other : ¬ (w.left ≤ 1 ∧ s.audio.segments[i].next = .finish ∧ s.audio.servesTest k = true)) :
    ∃ walk, WalkOp k walk ∧ s.repetitionOver k w = s.walkOn k walk := by
  by_cases more : 1 < w.left
  · exact ⟨_, .nextRepetition k, State.repetitionOver_more more⟩
  · have last := Nat.le_of_not_lt more
    cases next : s.audio.segments[i].next with
    | segment j => exact ⟨_, .enterSegment k j, State.repetitionOver_segment last current next⟩
    | restart => exact ⟨_, .passEnd k, State.repetitionOver_pass last current (.inl next)⟩
    | finish =>
      have quiet := Bool.eq_false_iff.2 fun test => other ⟨last, next, test⟩
      exact ⟨_, .passEnd k, State.repetitionOver_pass last current (.inr ⟨next, quiet⟩)⟩

end Ends

/-! ### END on a TEST feed (R112, R150) -/

section TestEnd
variable (s : State) (p : Fin 16)

theorem State.named_iff : ((List.finRange 48).any fun z : Fin 48 => s.resolver.tests[z] = some p) = true ↔
    ∃ z : Fin 48, s.resolver.tests[z] = some p := by
  simp only [List.any_eq_true, List.mem_finRange, true_and, decide_eq_true_eq]

/-- The test claims that name the program are withdrawn. -/
theorem State.endTaken_tests (z : Fin 48) : (s.endTaken p).resolver.tests[z] =
    if s.resolver.tests[z] = some p then none else s.resolver.tests[z] := by
  unfold State.endTaken
  dsimp only
  split
  · simp [State.inputChange_resolver, State.setTests]
  · next unnamed =>
    rw [State.named_iff] at unnamed
    rw [if_neg fun named => unnamed ⟨z, named⟩]

theorem State.endTaken_done (named : ∃ z : Fin 48, s.resolver.tests[z] = some p) :
    p ∈ (s.endTaken p).notices.testDone ∧ (s.endTaken p).RecordsResolved := by
  unfold State.endTaken
  dsimp only
  rw [if_pos ((s.named_iff p).2 named)]
  generalize Vector.ofFn _ = tests
  refine ⟨?_, State.inputChange_recordsResolved _⟩
  rw [(State.inputChange_soundChange ((s.setTests tests).setNotices ((s.setTests tests).notices.raiseTestDone p))).testDone]
  exact (mem_addMember _ _ _).2 (.inl rfl)

variable (k : Fin 6)

theorem State.testEnd_tests (z : Fin 48) : (s.testEnd k p).resolver.tests[z] =
    if s.resolver.tests[z] = some p then none else s.resolver.tests[z] := by
  have ended := State.endTaken_tests (s.onAudio fun a => a.endHold k) p z
  rw [State.onAudio_resolver] at ended
  unfold State.testEnd
  dsimp only
  generalize (s.onAudio fun a => a.endHold k).endTaken p = t at ended
  split
  · exact ended
  · exact ended

theorem State.testEnd_done (named : ∃ z : Fin 48, s.resolver.tests[z] = some p) :
    p ∈ (s.testEnd k p).notices.testDone ∧ (s.testEnd k p).RecordsResolved := by
  have done := State.endTaken_done (s.onAudio fun a => a.endHold k) p (by rwa [State.onAudio_resolver])
  unfold State.testEnd
  dsimp only
  generalize (s.onAudio fun a => a.endHold k).endTaken p = t at done
  split
  · refine ⟨?_, ?_⟩
    · rw [(t.walkOn_soundChange k fun d => d.passEnd_keeps k).testDone]
      exact done.1
    · rw [State.walkOn_eq]
      exact done.2.onDesk _
  · exact done

end TestEnd

/-! ### A repetition at a quiet audio side (R147 to R151) -/

section Enter
variable {d : Desk} {k : Fin 6} {w : Walk} {j : Fin 128}

theorem Desk.enterSegment_agrees (agrees : d.audio.consistent j = true) :
    d.enterSegment k j = d.mapAudio fun a => a.enter k j := if_pos agrees

theorem Desk.enterSegment_fails (fails : d.audio.consistent j = false) : d.enterSegment k j = d.breakProgram k :=
  if_neg (by rw [fails]; exact nofun)

theorem Desk.passStart_head (walk : d.audio.players[k].walk = some w) (head : d.audio.programs[w.program].head = some j) :
    d.passStart k = d.enterSegment k j := by
  unfold Desk.passStart
  rw [walk]
  dsimp only
  rw [head]

theorem Desk.passStart_empty (walk : d.audio.players[k].walk = some w) (head : d.audio.programs[w.program].head = none) :
    d.passStart k = d.breakProgram k := by
  unfold Desk.passStart
  rw [walk]
  dsimp only
  rw [head]

end Enter

/-- A player's program is no other player's. -/
theorem Audio.Bounded.holder {a : Audio} (h : a.Bounded) {k : Fin 6} {w : Walk} (walk : a.players[k].walk = some w) (j : Fin 6)
    (held : a.held j = some w.program) : j = k := by
  have own : a.held k = some w.program := by rw [Audio.held, walk]; rfl
  rcases h.held j k (held.trans own.symm) with none | same
  · rw [held] at none
    cases none
  · exact same

section Quiet
variable {s : State} (quiet : s.AudioQuiet) {k : Fin 6} {walk : Desk → Desk}
include quiet

/-- A player that walks on, where nothing waits to happen, has the walk its operation gives it. -/
theorem State.AudioQuiet.carriesOn {w' : Walk} (releasing : w'.releasing = false)
    (spec : ∀ e : Desk, Desk.Told s.view { audio := s.audio, notices := s.notices } e →
      e.audio.OnlyWalk k (walk e).audio ∧ (walk e).audio.players[k].walk = some w') :
    (s.walkOn k walk).audio.players[k].walk = some w' := by
  obtain ⟨e, told, eq⟩ := quiet.told k
  obtain ⟨only, walks⟩ := spec e told
  rw [eq, State.onDesk_audio, quiet.walks told only walks releasing]
  exact walks

/-- A program that fails its check is BROKEN, reported, and held by none. -/
theorem State.AudioQuiet.breaks {p : Fin 16} (op : WalkOp k walk)
    (spec : ∀ e : Desk, Desk.Told s.view { audio := s.audio, notices := s.notices } e → (walk e).Broke p) :
    (s.walkOn k walk).audio.programs[p].broken = true ∧ p ∈ (s.walkOn k walk).notices.programBroken ∧
      (s.walkOn k walk).audio.playerOf p = none := by
  obtain ⟨e, told, eq⟩ := quiet.told k
  have alone : (walk e).audio.Alone := (quiet.alone.feedStep told.only.feeds).feedStep (.of_same (op.step e).same)
  have broke := (spec e told).settle (v := s.view) alone settleFuel e.audio.holding (walk e).audio.players[k].walk.isNone
  rw [eq, State.onDesk_audio, State.onDesk_notices]
  exact ⟨broke.broken, broke.raised, Audio.playerOf_none_iff.2 broke.unheld⟩

variable {w : Walk} (walks : s.audio.players[k].walk = some w)
include walks

omit quiet in
theorem Desk.Told.player {e : Desk} (told : Desk.Told s.view { audio := s.audio, notices := s.notices } e) :
    e.audio.players[k].walk = some w := by
  rw [told.only.players]
  exact walks

omit quiet walks in
theorem Desk.Told.consistent {e : Desk} (told : Desk.Told s.view { audio := s.audio, notices := s.notices } e) (j : Fin 128) :
    e.audio.consistent j = s.audio.consistent j :=
  Audio.consistent_congr told.only.segments (by rw [told.only.store]) j

/-- The next repetition begins. -/
theorem State.AudioQuiet.repeats {i : Fin 128} (current : w.current = some i) :
    (s.walkOn k fun d => d.mapAudio fun a => a.nextRepetition k).audio.players[k].walk =
      some (({ w with left := w.left - 1, toneSamples := 0 } : Walk).begun s.audio.segments[i]) := by
  refine quiet.carriesOn ?_ fun e told => ⟨e.audio.nextRepetition_only k, ?_⟩
  · exact (Walk.begun_program _ _).2.trans (show w.releasing = false from quiet.releasing k w walks)
  · have spec := Audio.nextRepetition_walk (Desk.Told.player walks told)
    rw [Audio.segmentOf_current current, told.only.segments] at spec
    exact spec

/-- A segment that passes its check is entered. -/
theorem State.AudioQuiet.enters {j : Fin 128} (agrees : s.audio.consistent j = true) :
    (s.walkOn k fun d => d.enterSegment k j).audio.players[k].walk = some (w.entered j s.audio.segments[j]) := by
  refine quiet.carriesOn ?_ fun e told => ?_
  · exact (Walk.entered_program _ _ _).2.trans (show w.releasing = false from quiet.releasing k w walks)
  · rw [Desk.enterSegment_agrees ((Desk.Told.consistent told j).trans agrees)]
    have spec := Audio.enter_walk (Desk.Told.player walks told) j
    rw [told.only.segments] at spec
    exact ⟨e.audio.enter_only k j, spec⟩

/-- A segment that fails its check breaks the program. -/
theorem State.AudioQuiet.fails {j : Fin 128} (fails : s.audio.consistent j = false) (bounded : s.audio.Bounded) :
    (s.walkOn k fun d => d.enterSegment k j).audio.programs[w.program].broken = true ∧
      w.program ∈ (s.walkOn k fun d => d.enterSegment k j).notices.programBroken ∧
      (s.walkOn k fun d => d.enterSegment k j).audio.playerOf w.program = none := by
  refine quiet.breaks (.enterSegment k j) fun e told => ?_
  rw [Desk.enterSegment_fails ((Desk.Told.consistent told j).trans fails)]
  refine Desk.breakProgram_broke (Desk.Told.player walks told) fun l held => bounded.holder walks l ?_
  rw [← Audio.held_of_players told.only.players]
  exact held

omit quiet in
/-- The desk of a player whose pass has been counted. -/
theorem Desk.Told.passOver {e : Desk} (told : Desk.Told s.view { audio := s.audio, notices := s.notices } e) :
    e.passEnd k = (e.mapAudio fun a => a.passOver k w).passStart k ∧
      (e.mapAudio fun a => a.passOver k w).audio.players[k].walk = some { w with passes := satSucc 65535 w.passes } ∧
      e.audio.OnlyWalk k (e.mapAudio fun a => a.passOver k w).audio ∧
      (e.mapAudio fun a => a.passOver k w).audio.programs = s.audio.programs ∧
      ∀ j, (e.mapAudio fun a => a.passOver k w).audio.consistent j = s.audio.consistent j := by
  have only := e.audio.passOver_only k w
  refine ⟨Desk.passEnd_eq k (Desk.Told.player walks told), e.audio.passOver_walk k w, only,
    only.programs.trans told.only.programs, fun j => ?_⟩
  rw [← Desk.Told.consistent told j]
  exact Audio.consistent_congr only.segments only.size j

/-- A pass ends, is counted, and begins again at the head. -/
theorem State.AudioQuiet.passes {j : Fin 128} (head : s.audio.programs[w.program].head = some j)
    (agrees : s.audio.consistent j = true) : (s.walkOn k fun d => d.passEnd k).audio.players[k].walk =
      some (({ w with passes := satSucc 65535 w.passes } : Walk).entered j s.audio.segments[j]) := by
  refine quiet.carriesOn ?_ fun e told => ?_
  · exact (Walk.entered_program _ _ _).2.trans (show w.releasing = false from quiet.releasing k w walks)
  · obtain ⟨eq, walk, only, programs, consistent⟩ := Desk.Told.passOver walks told
    have segments := only.segments.trans told.only.segments
    rw [eq]
    generalize e.mapAudio (fun a => a.passOver k w) = f at walk only programs consistent segments
    rw [Desk.passStart_head walk (j := j) (by rw [programs]; exact head),
      Desk.enterSegment_agrees ((consistent j).trans agrees)]
    have spec := Audio.enter_walk walk j
    rw [segments] at spec
    exact ⟨only.trans (f.audio.enter_only k j), spec⟩

/-- A pass that finds its head EMPTY, or failing its check, breaks the program. -/
theorem State.AudioQuiet.passFails (bad : s.audio.programs[w.program].head = none ∨
      ∃ j, s.audio.programs[w.program].head = some j ∧ s.audio.consistent j = false) (bounded : s.audio.Bounded) :
    (s.walkOn k fun d => d.passEnd k).audio.programs[w.program].broken = true ∧
      w.program ∈ (s.walkOn k fun d => d.passEnd k).notices.programBroken ∧
      (s.walkOn k fun d => d.passEnd k).audio.playerOf w.program = none := by
  refine quiet.breaks (.passEnd k) fun e told => ?_
  obtain ⟨eq, walk, only, programs, consistent⟩ := Desk.Told.passOver walks told
  have start : (e.passEnd k) = (e.mapAudio fun a => a.passOver k w).breakProgram k := by
    rw [eq]
    generalize e.mapAudio (fun a => a.passOver k w) = f at walk programs consistent
    rcases bad with empty | ⟨j, head, fails⟩
    · exact Desk.passStart_empty walk (by rw [programs]; exact empty)
    · rw [Desk.passStart_head walk (j := j) (by rw [programs]; exact head),
        Desk.enterSegment_fails ((consistent j).trans fails)]
  show (e.passEnd k).Broke w.program
  rw [start]
  generalize e.mapAudio (fun a => a.passOver k w) = f at walk only
  refine Desk.breakProgram_broke (w := { w with passes := satSucc 65535 w.passes }) walk fun l held => ?_
  by_cases here : l = k
  · exact here
  · refine bounded.holder walks l ?_
    rw [← Audio.held_of_players told.only.players, ← held, Audio.held, Audio.held, only.other here]

end Quiet

/-- Settles O53, by what an operation on a walk leaves where no standby stands in, and by the walk operations one by one where
nothing waits to happen. -/
theorem repetitionEnds : Obligations.RepetitionEnds := by
  unfold Obligations.RepetitionEnds
  refine fun k s => ⟨exec_repetitionEnd_idle, fun w walks => ⟨fun waits => ?waits, fun i current => ?walk⟩⟩
  case waits =>
    rw [exec_repetitionEnd_walk walks, Audio.repeating_waits waits]
    exact if_neg nofun
  case walk =>
    intro seg clip begun tone entered passed passOver
    have runs (repeating : s.audio.repeating w = true) : exec (.repetitionEnd k) s = .next (s.repetitionOver k w) :=
      (exec_repetitionEnd_walk walks).trans (if_pos repeating)
    refine ⟨fun repeating other standbys => ?boundary, fun quiet repeating => ?quiet⟩
    case boundary =>
      obtain ⟨walk, op, walksOn⟩ := State.repetitionOver_walkOn current other
      refine ⟨_, runs repeating, fun a x pending delivers => ?_, fun releasing player unwanted => ?_⟩
      · rw [walksOn, State.walkOn_eq, State.onDesk_audio]
        exact Amp.carries_eq (Desk.walkOn_switches (d := { audio := s.audio, notices := s.notices }) standbys op pending delivers)
      · rw [walksOn, State.walkOn_eq, State.onDesk_audio]
        exact Audio.playerOf_none_iff.2 (Desk.walkOn_releases (d := { audio := s.audio, notices := s.notices }) standbys op
          walks releasing player unwanted)
    case quiet =>
      have entering (x : Walk) (j : Fin 128) : x.entered j s.audio.segments[j] = entered j x := by
        simp only [Walk.entered, entered, clip, begun, tone]
        cases s.audio.segments[j] <;> rfl
      refine ⟨_, runs repeating, by simp, by simp, by simp, by simp, by simp, fun more => ?more, fun j last next => ?segment,
        fun last ends => ?pass, fun last finish test => ?test⟩
      case more =>
        rw [State.repetitionOver_more more]
        refine ⟨s.walkOn_onlyAudio k _, (quiet.repeats walks current).trans ?_⟩
        simp only [seg, begun, tone]
        cases s.audio.segments[i] <;> rfl
      case segment =>
        rw [State.repetitionOver_segment last current next]
        exact ⟨fun agrees => ⟨s.walkOn_onlyAudio k _, (quiet.enters walks agrees).trans (congrArg some (entering w j))⟩,
          fun fails bounded => ⟨s.walkOn_onlyAudio k _, quiet.fails walks fails bounded⟩⟩
      case pass =>
        rw [State.repetitionOver_pass last current ends]
        exact ⟨fun j head agrees => ⟨s.walkOn_onlyAudio k _,
            (quiet.passes walks head agrees).trans (congrArg some (entering _ j))⟩,
          fun bad bounded => ⟨s.walkOn_onlyAudio k _, quiet.passFails walks bad bounded⟩⟩
      case test =>
        rw [State.repetitionOver_test last current finish test]
        exact ⟨s.testEnd_done w.program k, s.testEnd_tests w.program k⟩

end Sys2Proof.Machine
end
